-- ==== Sys2Proof/Word.lean ====
section
/-! DEFINITION. The plain value types of the M24: bytes on a line, 32-bit tokens and handles, zone and gate masks,
AM/PM pairs, and the sparse tables that hold numbered records. -/

namespace Sys2Proof

/-- A byte of a line frame, or a line address (R174). -/
abbrev Byte := BitVec 8

/-- A card token or a contact handle: a 32-bit value (Table 1 of Chapter 1, R5). -/
abbrev Handle := BitVec 32

/-- A set of bell zones: zone z at the bit of weight 2 to the power z (R175). -/
abbrev ZoneMask := BitVec 16

/-- A set of gates: gate g at the bit of weight 2 to the power g (R175). -/
abbrev GateMask := BitVec 8

/-- A numbered collection held sparsely: (number, record) pairs, numbers strictly rising.
A number that is not listed reads as the collection's own default (or as an empty place). -/
abbrev Table (α : Type) := List (Nat × α)

/-- The AM or PM session of a school day. -/
inductive Session
  | am
  | pm
  deriving DecidableEq, Repr

/-- One value for each session. -/
structure AmPm (α : Type) where
  am : α
  pm : α
  deriving DecidableEq, Repr

/-- The value of one session. -/
def AmPm.get {α : Type} (x : AmPm α) : Session → α
  | .am => x.am
  | .pm => x.pm

/-- Replace the value of one session. -/
def AmPm.set {α : Type} (x : AmPm α) (s : Session) (v : α) : AmPm α :=
  match s with
  | .am => ⟨v, x.pm⟩
  | .pm => ⟨x.am, v⟩

end Sys2Proof
end

