-- ==== Sys2Proof/Syntax.lean ====
section
/-! DEFINITION. The commands of the M24: one constructor of `Instr` for each row of the table of operations and
events, with the types of their operands. -/

namespace Sys2Proof

/-- A session mark's code, in the order of Table 4 of Chapter 1. -/
inductive MarkCode
  | untaken | present | late | lateAfterClose | absent | excused | offsite | notRequired
  deriving DecidableEq, Repr

/-- The sessions an excuse covers: AM, PM or BOTH (Table 1 of Chapter 6). -/
inductive Sessions
  | am | pm | both
  deriving DecidableEq, Repr

/-- The reason given for an excuse (Table 1 of Chapter 6). -/
inductive ExcuseReason
  | illness | medical | family | religious | other
  deriving DecidableEq, Repr

/-- How a contact is reached (R5). -/
inductive Channel
  | voice | text
  deriving DecidableEq, Repr

/-- One contact of a family's ordered contact list (R5). -/
structure Contact where
  handle : Handle
  mayReport : Bool
  notify : Bool
  channel : Channel
  deriving DecidableEq, Repr

/-- A gate's mode (Table 2 of Chapter 4). -/
inductive GateMode
  | free | timed | referral | shut
  deriving DecidableEq, Repr

/-- An event's kind together with its argument (Table 2 of Chapter 2). -/
inductive EventAct
  | bell
  | sessionOpen (s : Session)
  | sessionStart (s : Session)
  | sessionClose (s : Session)
  | periodStart (k : Nat)
  | periodEnd (k : Nat)
  | gateMode (mask : GateMask) (mode : GateMode)
  | noticeWindowOpen
  | noticeWindowClose
  deriving DecidableEq, Repr

/-- An event of a day plan (Table 1 of Chapter 2). -/
structure Event where
  time : Nat
  act : EventAct
  zones : ZoneMask
  tone : Nat
  duration : Nat
  boundary : Bool
  deriving DecidableEq, Repr

/-- A calendar entry: a plan number, or CLOSED (R31). -/
inductive CalEntry
  | plan (p : Nat)
  | closed
  deriving DecidableEq, Repr

/-- A contact input's sense (Table 2 of Chapter 3). -/
inductive Sense
  | lowLevel | anyChange | falling | rising
  deriving DecidableEq, Repr

/-- A contact input's function (Table 2 of Chapter 3). -/
inductive InputFunction
  | unused | ringNow | suppress
  deriving DecidableEq, Repr

/-- A contact input's configuration (Table 2 of Chapter 3); the debounce is in milliseconds. -/
structure InputConfig where
  sense : Sense
  debounce : Nat
  function : InputFunction
  zones : ZoneMask
  tone : Nat
  duration : Nat
  override : Bool
  deriving DecidableEq, Repr

/-- A contact input's level (R57). -/
inductive Level
  | high | low
  deriving DecidableEq, Repr

/-- A relay's override (R60). -/
inductive RelayOverride
  | auto | forceOn | forceOff
  deriving DecidableEq, Repr

/-- The office's decision on a referral: ADMIT, ADMIT_EXCUSED or REFUSE (R82). -/
inductive Decision
  | letIn | letInExcused | refuse
  deriving DecidableEq, Repr

/-- What a notice says (Table 1 of Chapter 7). -/
inductive NoticeReason
  | absence | lateClosed | internal | concern | office
  deriving DecidableEq, Repr

/-- What a station is (Table 2 of Chapter 8). -/
inductive StationKind
  | gateIn | gateOut | terminal | sounder
  deriving DecidableEq, Repr

/-- The concern argument of ADJUST_COUNTS (R27). -/
inductive ConcernArg
  | set | clear | keep
  deriving DecidableEq, Repr

/-- A parameter of Table 5 of Chapter 9, in the table's order. -/
inductive ParamName
  | grace | dupWindow | referralTimeout | outcomeTimeout | retryGap | threshold | hysteresis | pmin | portThreshold
  deriving DecidableEq, Repr

/-- One item of SET_PARAMS: a parameter, a value and, for grace, a gate (R165). -/
structure ParamItem where
  name : ParamName
  value : Nat
  gate : Option Nat
  deriving DecidableEq, Repr

/-- The selector of READ_ROLL (R22). -/
inductive RollSelector
  | pupil (n : Nat)
  | slot (n : Nat)
  deriving DecidableEq, Repr

/-- The selector of READ_EXCUSES (R122). -/
inductive ExcuseSelector
  | all
  | pupil (n : Nat)
  deriving DecidableEq, Repr

/-- The selector of READ_NOTICES (R142). -/
inductive NoticeSelector
  | all
  | family (n : Nat)
  | number (n : Nat)
  deriving DecidableEq, Repr

/-- One of the six ports (Table 2 of the introduction). -/
inductive Port
  | uplink
  | gateway
  | field (n : Nat)
  deriving DecidableEq, Repr

/-- A fault of a received frame, as its capture names it (Table 1 of Chapter 8). -/
inductive FrameFault
  | parity | framing | short | noise | length | check | overrun | stranger
  deriving DecidableEq, Repr

/-- The header fields of an invalid frame, as far as they were received (R147). -/
structure FrameHeader where
  dest : Option Byte
  src : Option Byte
  kind : Option Byte
  length : Option Nat
  deriving DecidableEq, Repr

/-- What a frame on the uplink carries besides its kind: its source and its tag. -/
structure UpHeader where
  src : Byte
  tag : Byte
  deriving DecidableEq, Repr

/-- Arguments of LOAD_ROLL (R21). -/
structure LoadRollArgs where
  pupil : Nat
  tokens : List Handle
  form : Nat
  year : Nat
  family : Nat
  referOnArrival : Bool
  noSelfExit : Bool
  deriving DecidableEq, Repr

/-- Arguments of ADJUST_COUNTS (R27). -/
structure AdjustArgs where
  pupil : Nat
  p : Nat
  a : Nat
  u : Nat
  lateCount : Nat
  lateMinutes : Nat
  concern : ConcernArg
  deriving DecidableEq, Repr

/-- Arguments of ADD_EXCUSE (R120). -/
structure AddExcuseArgs where
  pupil : Nat
  offset : Nat
  count : Nat
  sessions : Sessions
  reason : ExcuseReason
  deriving DecidableEq, Repr

/-- Arguments of LOAD_STATION (R150). -/
structure LoadStationArgs where
  entry : Nat
  address : Byte
  mask : Byte
  segment : Nat
  kind : StationKind
  unit : Nat
  enabled : Bool
  deriving DecidableEq, Repr

/-- A request of Table 3 of Chapter 9 with its arguments (READ_PLAN and READ_PORTS by selector). -/
inductive Request
  | loadRoll (a : LoadRollArgs)
  | readRoll (sel : RollSelector)
  | dropRoll (pupil : Nat)
  | loadFamily (family : Nat) (held : Bool) (contacts : List Contact)
  | readFamily (family : Nat)
  | setMark (pupil : Nat) (session : Session) (code : MarkCode)
  | adjustCounts (a : AdjustArgs)
  | loadCalendar (first : Nat) (entries : List CalEntry)
  | stagePlan (p : Nat)
  | setClock (day second : Nat)
  | loadPlan (plan start : Nat) (events : List Event) (final : Bool)
  | readPlanPlan (p start : Nat)
  | readPlanCalendar (first count : Nat)
  | readClock
  | ring (zones : ZoneMask) (tone duration : Nat) (override : Bool)
  | loadInputs (entries : List (Nat × InputConfig))
  | setRelay (relay : Nat) (override : RelayOverride) (zone : Option Nat)
  | setGateMode (mask : GateMask) (mode : GateMode)
  | answerReferral (gate number : Nat) (decision : Decision)
  | readMovements (start count : Nat)
  | readGates
  | readWindows (session : Session) (first count : Nat)
  | addExcuse (a : AddExcuseArgs)
  | removeExcuse (pupil first last : Nat)
  | readExcuses (sel : ExcuseSelector) (start count : Nat)
  | sendNotice (family template : Nat) (pupils : List Nat)
  | readNotices (sel : NoticeSelector) (start count : Nat)
  | loadTemplates (entries : List (NoticeReason × Nat))
  | loadStation (a : LoadStationArgs)
  | loadPollList (segment : Nat) (addresses : List Byte)
  | readPortsPorts (clear : Bool)
  | readPortsStations (first count : Nat)
  | readPortsPollList (segment : Nat)
  | setParams (items : List ParamItem)
  | readParams
  | restart
  | clearAll
  deriving DecidableEq, Repr

/-- The commands of the block: one constructor for each row of spec/opcode_table.json, in the table's order.
A frame command is a good frame addressed to the M24 that has just completed on its line; an uplink request command
is such a frame with its header; the others are the part's own steps and its power, battery and contact events. -/
inductive Instr
  /-- SECONDS_TICK (R28). -/
  | secondsTick
  /-- SETTLEMENT_START (R15). -/
  | settlementStart
  /-- SETTLE_SLOT (R16): the slot at the rollover cursor. -/
  | settleSlot
  /-- CLOSE_WALK_VISIT (R101): the slot at the running close walk's cursor. -/
  | closeWalkVisit
  /-- PERIOD_END_WALK_VISIT (R104): the slot at the running period-end walk's cursor. -/
  | periodEndWalkVisit
  /-- NOTICE_WALK_VISIT (R129): the slot at the notice walk's cursor. -/
  | noticeWalkVisit
  /-- TAP (R68): a good frame of kind TAP on a field segment. -/
  | tap (seg : Nat) (src : Byte) (payload : List Byte)
  /-- REFERRAL_EXPIRY (R81). -/
  | referralExpiry (gate : Nat)
  /-- REGISTER (R95): a good frame of kind REGISTER on a field segment. -/
  | register (seg : Nat) (src : Byte) (payload : List Byte)
  /-- NOTHING (R149): a good frame of kind NOTHING on a field segment. -/
  | nothing (seg : Nat) (src : Byte)
  /-- BELL_ACK (R52): a good frame of kind BELL_ACK on a field segment. -/
  | bellAck (seg : Nat) (src : Byte)
  /-- WRONG_KIND_REPLY (R149): a good frame of any kind from the exchange's address. -/
  | wrongKindReply (seg : Nat) (src kind : Byte) (payload : List Byte)
  /-- OUT_OF_TURN_FRAME (R149): a good frame of any kind from another address, or with no exchange open. -/
  | outOfTurnFrame (seg : Nat) (src kind : Byte) (payload : List Byte)
  /-- STRANGER_FRAME (R148): a good frame of any kind that no enabled entry matches. -/
  | strangerFrame (seg : Nat) (src kind : Byte) (payload : List Byte)
  /-- INVALID_FRAME (R146): a frame found invalid, its first fault and the header fields received. -/
  | invalidFrame (port : Port) (fault : FrameFault) (header : FrameHeader)
  /-- EXCHANGE_MISS (R154). -/
  | exchangeMiss (seg : Nat)
  /-- FIELD_FRAME_SENT (R153). -/
  | fieldFrameSent (seg : Nat)
  /-- OUTPUT_QUEUE_ADMIT (R152). -/
  | outputQueueAdmit (seg : Nat)
  /-- SOUNDING_COUNT_EXPIRY (R54). -/
  | soundingCountExpiry (zone : Nat)
  /-- INPUT_CHANGE (R57): a raw level and the milliseconds it has held unbroken. -/
  | inputChange (input : Nat) (level : Level) (heldMs : Nat)
  /-- READY (R134). -/
  | ready (src : Byte) (payload : List Byte)
  /-- NOT_BEFORE_REACHED (R135). -/
  | notBeforeReached (notice : Nat)
  /-- OUTCOME (R137). -/
  | outcome (src : Byte) (payload : List Byte)
  /-- OUTCOME_TIMEOUT (R139). -/
  | outcomeTimeout (notice : Nat)
  /-- PARENT_REPORT (R111). -/
  | parentReport (src : Byte) (payload : List Byte)
  /-- GATEWAY_FRAME_SENT (R136). -/
  | gatewayFrameSent
  /-- UPLINK_FRAME_SENT (R161). -/
  | uplinkFrameSent
  /-- UNKNOWN_REQUEST (R160): a good frame on the uplink, still in bytes, judged by R160. -/
  | unknownRequest (h : UpHeader) (kind : Byte) (payload : List Byte)
  /-- LOAD_ROLL (R21). -/
  | loadRoll (h : UpHeader) (a : LoadRollArgs)
  /-- READ_ROLL (R22). -/
  | readRoll (h : UpHeader) (sel : RollSelector)
  /-- DROP_ROLL (R23). -/
  | dropRoll (h : UpHeader) (pupil : Nat)
  /-- LOAD_FAMILY (R24). -/
  | loadFamily (h : UpHeader) (family : Nat) (held : Bool) (contacts : List Contact)
  /-- READ_FAMILY (R25). -/
  | readFamily (h : UpHeader) (family : Nat)
  /-- SET_MARK (R26). -/
  | setMark (h : UpHeader) (pupil : Nat) (session : Session) (code : MarkCode)
  /-- ADJUST_COUNTS (R27). -/
  | adjustCounts (h : UpHeader) (a : AdjustArgs)
  /-- LOAD_CALENDAR (R31). -/
  | loadCalendar (h : UpHeader) (first : Nat) (entries : List CalEntry)
  /-- STAGE_PLAN (R37). -/
  | stagePlan (h : UpHeader) (p : Nat)
  /-- SET_CLOCK (R41). -/
  | setClock (h : UpHeader) (day second : Nat)
  /-- LOAD_PLAN (R45). -/
  | loadPlan (h : UpHeader) (plan start : Nat) (events : List Event) (final : Bool)
  /-- READ_PLAN, selector PLAN (R47). -/
  | readPlanPlan (h : UpHeader) (p start : Nat)
  /-- READ_PLAN, selector CALENDAR (R47). -/
  | readPlanCalendar (h : UpHeader) (first count : Nat)
  /-- READ_CLOCK (R48). -/
  | readClock (h : UpHeader)
  /-- RING (R55). -/
  | ring (h : UpHeader) (zones : ZoneMask) (tone duration : Nat) (override : Bool)
  /-- LOAD_INPUTS (R59). -/
  | loadInputs (h : UpHeader) (entries : List (Nat × InputConfig))
  /-- SET_RELAY (R61). -/
  | setRelay (h : UpHeader) (relay : Nat) (override : RelayOverride) (zone : Option Nat)
  /-- SET_GATE_MODE (R67). -/
  | setGateMode (h : UpHeader) (mask : GateMask) (mode : GateMode)
  /-- ANSWER_REFERRAL (R82). -/
  | answerReferral (h : UpHeader) (gate number : Nat) (decision : Decision)
  /-- READ_MOVEMENTS (R85). -/
  | readMovements (h : UpHeader) (start count : Nat)
  /-- READ_GATES (R87). -/
  | readGates (h : UpHeader)
  /-- READ_WINDOWS (R107). -/
  | readWindows (h : UpHeader) (session : Session) (first count : Nat)
  /-- ADD_EXCUSE (R120). -/
  | addExcuse (h : UpHeader) (a : AddExcuseArgs)
  /-- REMOVE_EXCUSE (R121). -/
  | removeExcuse (h : UpHeader) (pupil first last : Nat)
  /-- READ_EXCUSES (R122). -/
  | readExcuses (h : UpHeader) (sel : ExcuseSelector) (start count : Nat)
  /-- SEND_NOTICE (R141). -/
  | sendNotice (h : UpHeader) (family template : Nat) (pupils : List Nat)
  /-- READ_NOTICES (R142). -/
  | readNotices (h : UpHeader) (sel : NoticeSelector) (start count : Nat)
  /-- LOAD_TEMPLATES (R143). -/
  | loadTemplates (h : UpHeader) (entries : List (NoticeReason × Nat))
  /-- LOAD_STATION (R150). -/
  | loadStation (h : UpHeader) (a : LoadStationArgs)
  /-- LOAD_POLL_LIST (R151). -/
  | loadPollList (h : UpHeader) (segment : Nat) (addresses : List Byte)
  /-- READ_PORTS, selector PORTS (R157). -/
  | readPortsPorts (h : UpHeader) (clear : Bool)
  /-- READ_PORTS, selector STATIONS (R157). -/
  | readPortsStations (h : UpHeader) (first count : Nat)
  /-- READ_PORTS, selector POLL_LIST (R157). -/
  | readPortsPollList (h : UpHeader) (segment : Nat)
  /-- SET_PARAMS (R165). -/
  | setParams (h : UpHeader) (items : List ParamItem)
  /-- READ_PARAMS (R166). -/
  | readParams (h : UpHeader)
  /-- RESTART (R171). -/
  | restart (h : UpHeader)
  /-- CLEAR_ALL (R169). -/
  | clearAll (h : UpHeader)
  /-- POWER_FAIL (R168): power-good falls. -/
  | powerFail
  /-- POWER_UP (R169): power-good rises. -/
  | powerUp
  /-- BACKUP_LOW (R168): the battery monitor finds the backup supply below its threshold, or no longer below it. -/
  | backupLow (below : Bool)
  /-- FIRST_LEVEL_TAKEN (R57): the level the first samples give one contact input. -/
  | firstLevelTaken (input : Nat) (level : Level)
  /-- GATEWAY_OTHER_FRAME (R136): a good frame of another kind on the gateway line. -/
  | gatewayOtherFrame (src kind : Byte) (payload : List Byte)
  deriving DecidableEq, Repr

end Sys2Proof
end

