-- ==== Sys2Proof/Config.lean ====
section
/-! DEFINITION. The capacities of the M24 (Table 1 of the introduction) and the two free values of the model. -/

namespace Sys2Proof.Config

/-- Roll slots, 0 to 3071. -/
def rollSlots : Nat := 3072

/-- The highest pupil number. -/
def maxPupil : Nat := 65000

/-- Family numbers, 0 to 2047. -/
def families : Nat := 2048

/-- Excuse table entries (R110). -/
def excuseEntries : Nat := 256

/-- Movement list records (R83). -/
def movementRecords : Nat := 1024

/-- Notice queue records (R125). -/
def noticeRecords : Nat := 256

/-- Report queue reports (R162). -/
def reportSlots : Nat := 64

/-- Waiting bell jobs (R50). -/
def bellJobs : Nat := 4

/-- Frames of a segment's output queue (R152). -/
def queueFrames : Nat := 16

/-- Seconds of a day. -/
def daySeconds : Nat := 86400

/-- The last second of a day. -/
def lastSecond : Nat := 86399

/-- The out-of-year day (R29). -/
def outOfYear : Nat := 366

/-- FREE VALUE. Two blocks that act in one step may offer their reports in either order (R33, R162, R170). `true`
puts the second-named block of the rule first. It has no body: nothing can be proved of the order it gives. It is
applied to `State.choices`, which the step then advances, so that each such moment has an order of its own (log 7). -/
opaque eitherOrder : Nat → Bool

/-- FREE VALUE. What a received flag byte other than 0 and 1 is read as: R175 gives those two values and does not say
how a receiver reads any other. It has no body (log 8). -/
opaque oddFlag : Nat → Bool

end Sys2Proof.Config
end

