-- ==== Sys2Proof/Machine/State.lean ====
section
/-! DEFINITION. Everything the M24 holds, block by block as Table 3 of the introduction divides it, and the state
after a cold start. Plain data throughout; tables are sparse (`Table`), and what an unlisted number reads as is the
default that the accessor in Ops.lean names. -/

namespace Sys2Proof.Machine

/-! ### Roll Store (Chapters 1 and 6) -/

/-- Who set a session mark (Table 3 of Chapter 1). -/
inductive MarkSource
  | register | gate | excuse | close | office
  deriving DecidableEq, Repr

/-- A session mark: its code and its source, absent at the cleared value (R6). -/
structure Mark where
  code : MarkCode
  source : Option MarkSource
  deriving DecidableEq, Repr

/-- A lesson mark (R7). -/
inductive LessonMark
  | unset | present | late | absent
  deriving DecidableEq, Repr

/-- A pupil's on-site state (R12). -/
inductive OnSite
  | offSite | onSite | signedOut
  deriving DecidableEq, Repr

/-- The day's first tap-in (Table 2 of Chapter 1). -/
structure Arrival where
  second : Nat
  gate : Nat
  deriving DecidableEq, Repr

/-- The stored notice flags of one pupil (R4): due for late, internal and concern; done for every reason. -/
structure NoticeFlags where
  dueLate : AmPm Bool
  dueInternal : Bool
  dueConcern : Bool
  doneAbsence : AmPm Bool
  doneLate : AmPm Bool
  doneInternal : Bool
  doneConcern : Bool
  deriving DecidableEq, Repr

/-- The part of a roll entry cleared at every rollover (Table 2 of Chapter 1). -/
structure DayRecord where
  marks : AmPm Mark
  registerMarked : AmPm Bool
  /-- Periods 1 to 10; an unlisted period holds NONE. -/
  lessons : Table LessonMark
  onSite : OnSite
  arrival : Option Arrival
  minutesLate : Nat
  flags : NoticeFlags
  deriving DecidableEq, Repr

/-- The part of a roll entry that accumulates over the term (R13). -/
structure TermRecord where
  p : Nat
  a : Nat
  u : Nat
  lateCount : Nat
  lateMinutes : Nat
  concern : Bool
  deriving DecidableEq, Repr

/-- A roll entry (Tables 1 and 2 of Chapter 1, R13, and the record day of R1). -/
structure RollEntry where
  pupil : Nat
  tokens : List Handle
  form : Nat
  year : Nat
  family : Nat
  referOnArrival : Bool
  noSelfExit : Bool
  recordDay : Nat
  day : DayRecord
  term : TermRecord
  deriving DecidableEq, Repr

/-- A loaded family entry (R5). -/
structure Family where
  held : Bool
  contacts : List Contact
  deriving DecidableEq, Repr

/-- Where an excuse entry came from (Table 1 of Chapter 6). -/
inductive ExcuseSource
  | parent | office
  deriving DecidableEq, Repr

/-- An excuse entry (Table 1 of Chapter 6). -/
structure Excuse where
  slot : Nat
  first : Nat
  last : Nat
  sessions : Sessions
  reason : ExcuseReason
  source : ExcuseSource
  deriving DecidableEq, Repr

/-- NORMAL, or ROLLOVER into a new day (R15). -/
inductive RollState
  | normal
  | rollover (newDay : Nat)
  deriving DecidableEq, Repr

/-- What the Roll Store owns. -/
structure RollStore where
  /-- Filled slots only; an unlisted slot is empty (R1). -/
  roll : Table RollEntry
  /-- Loaded families only (R5). -/
  families : Table Family
  /-- In order of entry (R110). -/
  excuses : List Excuse
  rollState : RollState
  cursor : Nat
  /-- New days of the rollover triggers held, oldest first (R15). -/
  heldTriggers : List Nat
  deriving DecidableEq, Repr

/-! ### Schedule Unit (Chapter 2) -/

/-- The clock state (R28). -/
inductive ClockState
  | set | unset
  deriving DecidableEq, Repr

/-- The event cursor (R35). -/
inductive Cursor
  | absent
  | next (i : Nat)
  | past
  deriving DecidableEq, Repr

/-- The schedule state (Table 3 of Chapter 2). -/
inductive SchedState
  | unset | active | closedDay | ending
  deriving DecidableEq, Repr

/-- A plan load in progress (R45). -/
structure Build where
  plan : Nat
  events : List Event
  deriving DecidableEq, Repr

/-- What the Schedule Unit owns. -/
structure ScheduleUnit where
  clock : ClockState
  day : Nat
  second : Nat
  /-- Plan numbers by day; an unlisted day is CLOSED (R31). -/
  calendar : Table Nat
  /-- Event lists by plan number; an unlisted plan holds no events (R32). -/
  plans : Table (List Event)
  active : Option Nat
  staged : Option Nat
  cursor : Cursor
  lastSecond : Nat
  lastDay : Nat
  state : SchedState
  outstanding : Nat
  build : Option Build
  deriving DecidableEq, Repr

/-! ### Bell Sequencer (Chapter 3) -/

/-- Who asked for a bell (R49). -/
inductive Origin
  | event
  | office
  | input (n : Nat)
  deriving DecidableEq, Repr

/-- A bell job (R49). -/
structure BellJob where
  zones : ZoneMask
  tone : Nat
  duration : Nat
  override : Bool
  origin : Origin
  deriving DecidableEq, Repr

/-- The zone being rung: sounders (segment, address) not yet handed, and what has become of the frames handed.
While a segment's queue is full the first of `toHand` waits outside it (R52). -/
structure ZoneRing where
  toHand : List (Nat × Byte)
  handed : Nat
  reported : Nat
  acked : Nat
  deriving DecidableEq, Repr

/-- The current job with its zone cursor (R51). -/
structure CurrentJob where
  job : BellJob
  zone : Nat
  ringing : Option ZoneRing
  deriving DecidableEq, Repr

/-- The outcome of a zone's last ringing (R53). -/
inductive ZoneOutcome
  | none | confirmed | unconfirmed | suppressed
  deriving DecidableEq, Repr

/-- A zone record (R53). -/
structure ZoneRecord where
  outcome : ZoneOutcome
  day : Nat
  second : Nat
  origin : Option Origin
  sent : Nat
  acked : Nat
  deriving DecidableEq, Repr

/-- A contact input: its configuration and debounced level (R57). `taken` is clear from a power-up until the first
level is taken; `live` is set while a LOW_LEVEL input held LOW may go on ringing (R57, R59). -/
structure ContactInput where
  config : InputConfig
  level : Level
  taken : Bool
  live : Bool
  deriving DecidableEq, Repr

/-- A relay's position (R60). -/
inductive RelayPosition
  | opened | closed
  deriving DecidableEq, Repr

/-- A relay output (R60). -/
structure Relay where
  zone : Nat
  override : RelayOverride
  position : RelayPosition
  deriving DecidableEq, Repr

/-- What the Bell Sequencer owns. -/
structure BellUnit where
  current : Option CurrentJob
  /-- Waiting jobs, oldest first (R50). -/
  waiting : List BellJob
  zones : Table ZoneRecord
  /-- Seconds of sounding remaining by zone; unlisted is 0 (R54). -/
  sounding : Table Nat
  inputs : Table ContactInput
  relays : Table Relay
  deriving DecidableEq, Repr

/-! ### Gate Unit (Chapter 4) -/

/-- The direction of a reader. -/
inductive Direction
  | inward | outward
  deriving DecidableEq, Repr

/-- An answer to a reader (Table 4 of Chapter 11). -/
inductive Answer
  | opened | hold | engaged | seeOffice | refuse
  deriving DecidableEq, Repr

/-- The lateness class of an arrival (R74). -/
inductive Band
  | onTime | late | lateAfterClose
  deriving DecidableEq, Repr

/-- A gate's duplicate-tap memory (R69). -/
structure TapMemory where
  token : Handle
  answer : Answer
  second : Nat
  age : Nat
  deriving DecidableEq, Repr

/-- Why a tap was held (Table 4 of Chapter 4). -/
inductive ReferralReason
  | mode | lateClosed | pupilFlag | noSelfExit
  deriving DecidableEq, Repr

/-- A referral (Table 4 of Chapter 4), with the held token that R80 and R81 compare and write. -/
structure Referral where
  number : Nat
  slot : Nat
  direction : Direction
  reason : ReferralReason
  session : Option Session
  band : Option Band
  minutes : Nat
  tapSecond : Nat
  segment : Nat
  address : Byte
  sequence : Nat
  timer : Nat
  token : Handle
  deriving DecidableEq, Repr

/-- A gate record (Table 1 of Chapter 4). The grace is the parameter of R164; the state is derived (R65). -/
structure Gate where
  mode : GateMode
  memory : Option TapMemory
  referral : Option Referral
  deriving DecidableEq, Repr

/-- The derived state of a gate (R65). -/
inductive GateState
  | ready | holding | offline
  deriving DecidableEq, Repr

/-- A movement's kind (R83). -/
inductive MovementKind
  | arrivalOnTime | arrivalLate | arrivalAfterClose | signOut | return | reentry | referralExpired | refused
  deriving DecidableEq, Repr

/-- A movement record, less its sequence number, which is its place in the list (R83). -/
structure Movement where
  second : Nat
  gate : Nat
  direction : Direction
  pupil : Nat
  kind : MovementKind
  minutes : Option Nat
  referral : Option Nat
  deriving DecidableEq, Repr

/-- What the Gate Unit owns. -/
structure GateUnit where
  gates : Table Gate
  referralCounter : Nat
  movements : List Movement
  movementsFull : Bool
  onSiteCount : Nat
  deriving DecidableEq, Repr

/-! ### Register Unit (Chapter 5) -/

/-- A window's state (R90). -/
inductive WindowState
  | notOpened | opened | closed
  deriving DecidableEq, Repr

/-- What a form window holds besides its state (R91). -/
structure FormWindow where
  expected : Nat
  unmarked : Nat
  taken : Bool
  done : Bool
  deriving DecidableEq, Repr

/-- The 128 form windows of one session: their one shared state (R90) and each group's record. -/
structure FormSession where
  state : WindowState
  groups : Table FormWindow
  deriving DecidableEq, Repr

/-- What a walk of the Register Unit is for (R105). -/
inductive WalkKind
  | close (s : Session) (reference : Option Nat)
  | periodEnd (k : Nat)
  deriving DecidableEq, Repr

/-- An entry of the walk list (R105). -/
structure Walk where
  kind : WalkKind
  cursor : Nat
  deriving DecidableEq, Repr

/-- What the Register Unit owns. -/
structure RegisterUnit where
  form : AmPm FormSession
  /-- Lesson window states by period 1 to 10; unlisted is NOT_OPENED (R94). -/
  lessons : Table WindowState
  /-- Room columns by period, each a room by slot; unlisted is 0 (R94). -/
  rooms : Table (Table Nat)
  /-- Oldest first (R105). -/
  walks : List Walk
  deriving DecidableEq, Repr

/-! ### Message Unit (Chapter 7) -/

/-- A notice record's state (Table 2 of Chapter 7). -/
inductive NoticeState
  | queued | offered | withdrawnPending
  deriving DecidableEq, Repr

/-- A notice record (Table 1 of Chapter 7), with the contact position and handle last offered (R133). -/
structure Notice where
  number : Nat
  family : Nat
  /-- Pupil numbers with their withdrawn flags, in the order they joined. -/
  pupils : List (Nat × Bool)
  reason : NoticeReason
  session : Option Session
  period : Option Nat
  minutes : Option Nat
  template : Nat
  position : Nat
  attempts : Nat
  notBefore : Nat
  state : NoticeState
  timer : Nat
  lastOffered : Option (Nat × Handle)
  deriving DecidableEq, Repr

/-- The notice walk's state (R128). -/
inductive WalkState
  | idle | running | paused
  deriving DecidableEq, Repr

/-- The reason-to-template table (R126). -/
structure Templates where
  absence : Nat
  lateClosed : Nat
  internal : Nat
  concern : Nat
  deriving DecidableEq, Repr

/-- What the Message Unit owns. -/
structure MessageUnit where
  /-- Front of the queue first (R125). -/
  notices : List Notice
  nextNumber : Nat
  templates : Templates
  windowOpen : Bool
  walk : WalkState
  cursor : Nat
  rewalk : Bool
  deferral : Bool
  creditLimit : Nat
  deriving DecidableEq, Repr

/-! ### Reports and replies (Chapter 9) -/

/-- Why a parent report was not matched (R112). -/
inductive UnmatchedCause
  | noPupil | noFamily | noContact | noPermission
  deriving DecidableEq, Repr

/-- A parent report's fields as received (R111). -/
structure ParentReport where
  handle : Handle
  pupil : Nat
  reason : ExcuseReason
  offset : Nat
  count : Nat
  sessions : Sessions
  deriving DecidableEq, Repr

/-- A port's error record (R147). -/
structure ErrorRecord where
  parity : Nat
  framing : Nat
  noise : Nat
  check : Nat
  overrun : Nat
  stranger : Nat
  capture : Option (FrameFault × FrameHeader)
  alerted : Bool
  deriving DecidableEq, Repr

/-- What an alert says: one constructor for each kind of Table 4 of Chapter 9, in its order, carrying the details
that the rule raising it names. -/
inductive Alert
  | missingOnSite (pupil : Nat) (session : Session) (code : MarkCode) (source : Option MarkSource)
  | unmarkedOnSite (pupil : Nat) (session : Session) (form : Nat) (arrival : Arrival) (second : Nat)
  | registerNotTaken (session : Session) (form : Nat)
  | internalAbsence (pupil period room second : Nat)
  | unknownToken (gate : Nat) (direction : Direction) (token : Handle) (second : Nat)
  | referral (gate pupil : Nat) (direction : Direction) (reason : ReferralReason) (session : Option Session)
      (band : Option Band) (minutes tapSecond number : Nat)
  | referralExpired (gate pupil : Nat) (direction : Direction) (number : Nat)
  | movementsFull (day second : Nat)
  | bellDropped (zones : ZoneMask) (tone : Nat) (origin : Origin)
  | bellUnconfirmed (zone segment : Nat) (address : Byte) (origin : Origin) (second : Nat)
  | unmatchedReport (r : ParentReport) (cause : UnmatchedCause)
  | excusesFull (pupil : Nat) (handle : Handle) (reason : ExcuseReason) (first last : Nat) (sessions : Sessions)
      (need free : Nat)
  | contactFailed (family : Nat) (pupil : Option Nat) (reason : NoticeReason) (session : Option Session) (number : Option Nat)
  | badContact (family position : Nat) (handle : Handle) (number : Nat)
  | stationAbsent (entry segment : Nat) (address : Byte) (kind : StationKind) (unit : Nat)
  | stationBack (entry segment : Nat) (address : Byte) (kind : StationKind) (unit : Nat)
  | portErrors (port : Port) (record : ErrorRecord)
  deriving DecidableEq, Repr

/-- A notice record's result on leaving the queue (Table 4 of Chapter 7). -/
inductive NoticeResult
  | delivered | contactFailed | withdrawn | dropped
  deriving DecidableEq, Repr

/-- What a report carries, by kind (Table 2 of Chapter 9). -/
inductive ReportBody
  | arrival (m : Movement) (sequence : Option Nat) (site : OnSite) (mark : Option Mark)
  | registerDone (session : Session) (form expected second : Nat)
  | alert (a : Alert)
  | noticeOutcome (n : Notice) (result : NoticeResult) (second : Nat)
  deriving DecidableEq, Repr

/-- A report (R162). -/
structure Report where
  number : Nat
  day : Nat
  second : Nat
  body : ReportBody
  deriving DecidableEq, Repr

/-- A reply's status (Table 1 of Chapter 9). -/
inductive Status
  | ok | badArg | notFound | duplicate | full | state | busy | stale
  deriving DecidableEq, Repr

/-- One contact input as the bell status shows it (Table 1 of Chapter 3). -/
structure InputView where
  config : InputConfig
  level : Level
  active : Bool
  pending : Bool
  deriving DecidableEq, Repr

/-- The bell status (Table 1 of Chapter 3). -/
structure BellStatus where
  current : Option CurrentJob
  waiting : List BellJob
  zones : List ZoneRecord
  sounding : List Nat
  inputs : List InputView
  relays : List Relay
  deriving DecidableEq, Repr

/-- One gate as READ_GATES shows it (R87); the referral comes with its pupil number. -/
structure GateView where
  mode : GateMode
  state : GateState
  outOfService : Bool
  grace : Nat
  memory : Option TapMemory
  referral : Option (Referral × Nat)
  deriving DecidableEq, Repr

/-- The parameter set (Table 5 of Chapter 9); an unlisted gate's grace is the default. -/
structure Params where
  grace : Table Nat
  dupWindow : Nat
  referralTimeout : Nat
  outcomeTimeout : Nat
  retryGap : Nat
  threshold : Nat
  hysteresis : Nat
  pmin : Nat
  portThreshold : Nat
  deriving DecidableEq, Repr

/-! ### Line Unit (Chapter 8) -/

/-- Whether a station is answering (R155). -/
inductive Presence
  | present | absent
  deriving DecidableEq, Repr

/-- A station table entry (Table 2 of Chapter 8). -/
structure Station where
  address : Byte
  mask : Byte
  segment : Nat
  kind : StationKind
  unit : Nat
  enabled : Bool
  presence : Presence
  misses : Nat
  deriving DecidableEq, Repr

/-- The status of a REGISTER_ACK (R99). -/
inductive AckStatus
  | ok | tooEarly | closed | malformed
  deriving DecidableEq, Repr

/-- Why a register entry was refused (R97). -/
inductive RefuseReason
  | notFound | wrongGroup | notExpected
  deriving DecidableEq, Repr

/-- What a frame to a field station carries (Table 4 of Chapter 11). A BELL also keeps how many handed frames its
one report stands for (R152). -/
inductive FieldBody
  | poll
  | gateAnswer (sequence : Nat) (answer : Answer) (pupil : Option Nat) (band : Option Band) (minutes : Nat)
  | registerAck (sequence : Nat) (status : AckStatus) (accepted refused : Nat) (unmarked : Option Nat)
      (list : List (Nat × RefuseReason))
  | bell (tone duration standsFor : Nat)
  | busy (kind : Byte) (sequence : Nat)
  deriving DecidableEq, Repr

/-- A frame to a field station. -/
structure FieldFrame where
  dest : Byte
  body : FieldBody
  deriving DecidableEq, Repr

/-- What an open exchange awaits (R154): the answer to a POLL, or to a BELL. -/
inductive ExchangeKind
  | poll
  | bell (standsFor : Nat)
  deriving DecidableEq, Repr

/-- An open exchange (R154). -/
structure Exchange where
  address : Byte
  kind : ExchangeKind
  deriving DecidableEq, Repr

/-- A field segment's controller (R151 to R154). -/
structure Segment where
  poll : List Byte
  cursor : Nat
  cycle : Nat
  /-- In the order the frames joined (R152). -/
  queue : List FieldFrame
  /-- Frames waiting outside a full queue, in the order they began to wait (R152). -/
  outside : List FieldFrame
  sending : Option FieldFrame
  exchange : Option Exchange
  deriving DecidableEq, Repr

/-- A PARENT_REPLY's status (R118). -/
inductive ParentStatus
  | accepted | notMatched | full | busy | malformed
  deriving DecidableEq, Repr

/-- A PARENT_REPLY (R118); absent fields are `none`. -/
structure ParentReply where
  status : ParentStatus
  pupil : Option Nat
  first : Option Nat
  last : Option Nat
  sessions : Option Sessions
  applied : Bool
  amCode : Option MarkCode
  pmCode : Option MarkCode
  deriving DecidableEq, Repr

/-- An OFFER (R135). -/
structure Offer where
  number : Nat
  attempt : Nat
  template : Nat
  handle : Handle
  channel : Channel
  pupils : List Nat
  session : Option Session
  period : Option Nat
  minutes : Option Nat
  deriving DecidableEq, Repr

/-- A frame to the gateway (R136). -/
inductive GatewayFrame
  | offer (o : Offer)
  | parentReply (r : ParentReply)
  deriving DecidableEq, Repr

/-- The Schedule Unit as READ_CLOCK shows it (R48): the time only when the clock is SET, and the event at the cursor. -/
structure ScheduleView where
  clock : ClockState
  time : Option (Nat × Nat)
  state : SchedState
  active : Option Nat
  staged : Option Nat
  cursor : Cursor
  next : Option Event
  lastSecond : Nat
  lastDay : Nat
  today : CalEntry
  outstanding : Nat
  deriving DecidableEq, Repr

/-- The Message Unit as READ_NOTICES shows it (R142). -/
structure NoticesView where
  windowOpen : Bool
  walk : WalkState
  cursor : Nat
  rewalk : Bool
  deferral : Bool
  creditLimit : Nat
  inFlight : Nat
  count : Nat
  nextNumber : Nat
  templates : Templates
  selected : Nat
  records : List Notice
  deriving DecidableEq, Repr

/-- A field segment as READ_PORTS shows it (R157): its queue by class, frames outside it and open exchange. -/
structure SegmentView where
  addresses : Nat
  cursor : Nat
  cycle : Nat
  bells : Nat
  answers : Nat
  acks : Nat
  outside : Nat
  exchange : Option Exchange
  deriving DecidableEq, Repr

/-- What a reply carries beyond its status, by the rule of its request. -/
inductive ReplyData
  | none
  | loadedRoll (slot : Nat) (created : Bool)
  | rollEntry (slot : Nat) (entry : RollEntry) (absenceDue : AmPm Bool) (q next : Nat)
  | slot (n : Nat)
  | family (f : Family)
  | markChange (old new : MarkCode)
  | term (t : TermRecord) (q : Nat)
  | stage (swapped : Bool)
  | clock (day second : Nat) (state : SchedState)
  | eventCount (n : Nat)
  | planEvents (count : Nat) (events : List Event)
  | calendar (entries : List CalEntry)
  | schedule (v : ScheduleView)
  | bellStatus (b : BellStatus)
  | ring (b : BellStatus) (current discarded : Bool)
  | gateModes (gates : List (GateMode × GateState))
  | referralAnswer (kind : MovementKind) (sequence : Option Nat) (mark : Option Mark)
  | movements (day count : Nat) (full : Bool) (records : List (Nat × Movement))
  | gates (gates : List GateView) (referralCounter onSiteCount movements : Nat) (full : Bool)
  | windows (forms : List (Nat × WindowState × FormWindow)) (lessons : List WindowState) (walks : List Walk)
  | excuseAdded (entry : Option Excuse) (free : Nat) (codes : Option (List MarkCode))
  | excuseRemoved (reshaped removed split free : Nat)
  | excuses (selected free day : Nat) (entries : List (Nat × Excuse))
  | noticeSent (number count : Nat)
  | notices (v : NoticesView)
  | templates (t : Templates)
  | station (s : Station)
  | pollStored (count : Nat)
  | ports (records : List (Port × ErrorRecord)) (segments : List SegmentView) (lost : Nat)
  | stations (entries : List Station)
  | pollList (addresses : List Byte) (cursor cycle : Nat)
  | params (p : Params) (clamped : List Bool)
  | restart (valid : Bool) (state : SchedState) (catchUp : Bool) (triggers lost : Nat)
  | cleared (valid : Bool)
  deriving DecidableEq, Repr

/-- A reply (R160). The request kind is its position in Table 3 of Chapter 9, absent when not known. -/
structure Reply where
  tag : Byte
  request : Option Nat
  status : Status
  data : ReplyData
  deriving DecidableEq, Repr

/-- A frame from the part on the uplink (R161). -/
inductive UplinkFrame
  | reply (r : Reply)
  | report (r : Report)
  deriving DecidableEq, Repr

/-- What a good frame received on the uplink carries: a request already in fields, or bytes still to be judged (R160).
-/
inductive UplinkBody
  | request (r : Request)
  | raw (kind : Byte) (payload : List Byte)
  deriving DecidableEq, Repr

/-- A good frame received on the uplink. -/
structure UplinkIn where
  header : UpHeader
  body : UplinkBody
  deriving DecidableEq, Repr

/-- What the Line Unit owns. -/
structure LineUnit where
  stations : Table Station
  segments : Table Segment
  /-- Error records by port: 0 uplink, 1 gateway, 2 to 5 the field segments (R147). -/
  errors : Table ErrorRecord
  upHeld : Option UplinkIn
  upSending : Option UplinkFrame
  /-- The frame the gateway port holds, its header; none between commands, for the Message Unit takes each frame at once
  (R146, R136). -/
  gwHeld : Option FrameHeader
  gwSending : Option GatewayFrame
  gwWaiting : List GatewayFrame
  deriving DecidableEq, Repr

/-! ### Office Agent (Chapters 9 and 10) -/

/-- The Office Agent's condition (R159). -/
inductive AgentState
  | idle | working | replying
  deriving DecidableEq, Repr

/-- What the Office Agent owns, with retention control (R168). -/
structure OfficeAgent where
  agent : AgentState
  reply : Option Reply
  /-- Oldest first (R162). -/
  reports : List Report
  reportNumber : Nat
  lost : Nat
  params : Params
  retentionValid : Bool
  /-- The backup supply is below the battery monitor's threshold (R168). -/
  backupLow : Bool
  /-- Main power is present (the power-good input, R168). -/
  powered : Bool
  /-- Restart catch-up is running (R170). -/
  catchUp : Bool
  deriving DecidableEq, Repr

/-- The state of the M24. -/
structure State where
  line : LineUnit
  roll : RollStore
  sched : ScheduleUnit
  bell : BellUnit
  gate : GateUnit
  reg : RegisterUnit
  msg : MessageUnit
  office : OfficeAgent
  /-- The MODEL's own: how many orders the spec leaves open have been settled (see Config.eitherOrder). -/
  choices : Nat
  /-- The MODEL's own: the commands waiting, first in, first out. -/
  pending : List Instr
  deriving DecidableEq, Repr

/-- Why the block stops with a fault. There is no such reason: the spec gives every command an effect in every
condition, so no meaning answers with a fault (safe). -/
inductive Fault
  deriving DecidableEq, Repr

/-- Why the block refuses a command. -/
inductive Refusal
  /-- Raised by `exec` for a row that has no meaning yet; no row is in that case (safe). -/
  | notModelled (mnemonic : String)
  deriving DecidableEq, Repr

/-- The parameter defaults (Table 5 of Chapter 9). -/
def Params.cold : Params :=
  { grace := [], dupWindow := 5, referralTimeout := 60, outcomeTimeout := 180, retryGap := 600,
    threshold := 900, hysteresis := 10, pmin := 20, portThreshold := 16 }

/-- The state after a cold start (R169): every table empty, the clock UNSET, the parameters at their defaults, and
the retention-valid flag set because the backup supply is good. DESIGN CHOICE, log 9: main power present, the
backup supply good. -/
def State.reset : State :=
  { line := { stations := [], segments := [], errors := [], upHeld := none, upSending := none, gwHeld := none,
              gwSending := none, gwWaiting := [] }
    roll := { roll := [], families := [], excuses := [], rollState := .normal, cursor := 0, heldTriggers := [] }
    sched := { clock := .unset, day := 0, second := 0, calendar := [], plans := [], active := none, staged := none,
               cursor := .absent, lastSecond := 0, lastDay := 0, state := .unset, outstanding := 0, build := none }
    bell := { current := none, waiting := [], zones := [], sounding := [], inputs := [], relays := [] }
    gate := { gates := [], referralCounter := 0, movements := [], movementsFull := false, onSiteCount := 0 }
    reg := { form := ⟨⟨.notOpened, []⟩, ⟨.notOpened, []⟩⟩, lessons := [], rooms := [], walks := [] }
    msg := { notices := [], nextNumber := 0, templates := ⟨0, 0, 0, 0⟩, windowOpen := false, walk := .idle,
             cursor := 0, rewalk := false, deferral := false, creditLimit := 0 }
    office := { agent := .idle, reply := none, reports := [], reportNumber := 0, lost := 0, params := Params.cold,
                retentionValid := true, backupLow := false, powered := true, catchUp := false }
    choices := 0
    pending := [] }

end Sys2Proof.Machine
end

