-- ==== Sys2Proof/Machine/Ops.lean ====
section
/-! DEFINITION. The named operations that every block uses: sparse tables, block updates, roll lookups, the clock, the
report queue and the uplink's choice of the next frame, the segment output queues and their controllers' choice of the
next frame, and the gateway port. -/

namespace Sys2Proof.Machine

open Sys2Proof

/-! ### Sparse tables -/

/-- The record listed under a number, if any. -/
def tabFind {α : Type} : Table α → Nat → Option α
  | [], _ => none
  | (k, x) :: t, n => if n = k then some x else tabFind t n

/-- The record a number reads as, with `d` for an unlisted number. -/
def tabGet {α : Type} (d : α) (t : Table α) (n : Nat) : α := (tabFind t n).getD d

/-- List a record under a number, in place of any listed before. -/
def tabInsert {α : Type} (n : Nat) (x : α) : Table α → Table α
  | [] => [(n, x)]
  | (k, y) :: t =>
    if n < k then (n, x) :: (k, y) :: t
    else if n = k then (n, x) :: t
    else (k, y) :: tabInsert n x t

/-- Take a number's record out of the table. -/
def tabErase {α : Type} (n : Nat) (t : Table α) : Table α := t.filter fun p => p.1 != n

/-- Make a number read as `x`: a record equal to the default is not listed. -/
def tabSet {α : Type} [DecidableEq α] (d : α) (n : Nat) (x : α) (t : Table α) : Table α :=
  if x = d then tabErase n t else tabInsert n x t

/-- The table in which each number below `n` reads as `f` of it. -/
def tabulate {α : Type} [DecidableEq α] (d : α) (n : Nat) (f : Nat → α) : Table α :=
  (List.range n).filterMap fun i => if f i = d then none else some (i, f i)

/-- The canonical form of a sparse table: numbers strictly rising. -/
abbrev tabSorted {α : Type} (t : Table α) : Prop := (t.map Prod.fst).Pairwise (· < ·)

/-- The canonical form of a table with a default: numbers strictly rising, and no record equal to the default. -/
abbrev tabWf {α : Type} [DecidableEq α] (d : α) (t : Table α) : Prop := tabSorted t ∧ ∀ p ∈ t, p.2 ≠ d

/-- A count that stays at the top of its range (section 4.3 of the introduction). -/
def satAdd (top a b : Nat) : Nat := min top (a + b)

/-! ### Block updates -/

/-- Update the Line Unit. -/
def State.modLine (s : State) (f : LineUnit → LineUnit) : State := { s with line := f s.line }

/-- Update the Roll Store. -/
def State.modRoll (s : State) (f : RollStore → RollStore) : State := { s with roll := f s.roll }

/-- Update the Schedule Unit. -/
def State.modSched (s : State) (f : ScheduleUnit → ScheduleUnit) : State := { s with sched := f s.sched }

/-- Update the Bell Sequencer. -/
def State.modBell (s : State) (f : BellUnit → BellUnit) : State := { s with bell := f s.bell }

/-- Update the Gate Unit. -/
def State.modGate (s : State) (f : GateUnit → GateUnit) : State := { s with gate := f s.gate }

/-- Update the Register Unit. -/
def State.modReg (s : State) (f : RegisterUnit → RegisterUnit) : State := { s with reg := f s.reg }

/-- Update the Message Unit. -/
def State.modMsg (s : State) (f : MessageUnit → MessageUnit) : State := { s with msg := f s.msg }

/-- Update the Office Agent. -/
def State.modOffice (s : State) (f : OfficeAgent → OfficeAgent) : State := { s with office := f s.office }

/-- Replace the queue of waiting commands. -/
def State.withPending (s : State) (l : List Instr) : State := { s with pending := l }

/-- Settle one open order: it takes the next of the free values of `Config.eitherOrder`. -/
def State.countChoice (s : State) : State := { s with choices := s.choices + 1 }

/-! ### Cold start values of single records -/

/-- The cleared session mark (R6). -/
def clearedMark : Mark := ⟨.untaken, none⟩

/-- Notice flags all clear (Table 2 of Chapter 1). -/
def clearedFlags : NoticeFlags :=
  { dueLate := ⟨false, false⟩, dueInternal := false, dueConcern := false, doneAbsence := ⟨false, false⟩,
    doneLate := ⟨false, false⟩, doneInternal := false, doneConcern := false }

/-- The cleared day record (Table 2 of Chapter 1). -/
def clearedDay : DayRecord :=
  { marks := ⟨clearedMark, clearedMark⟩, registerMarked := ⟨false, false⟩, lessons := [], onSite := .offSite,
    arrival := none, minutesLate := 0, flags := clearedFlags }

/-- The term record of a new entry (R13). -/
def newTerm : TermRecord := { p := 0, a := 0, u := 0, lateCount := 0, lateMinutes := 0, concern := false }

/-- A gate record after a cold start (Table 1 of Chapter 4). -/
def coldGate : Gate := { mode := .free, memory := none, referral := none }

/-- A station table entry after a cold start (Table 2 of Chapter 8). -/
def coldStation : Station :=
  { address := 0x10, mask := 0xFF, segment := 0, kind := .terminal, unit := 0, enabled := false,
    presence := .present, misses := 0 }

/-- A segment after a cold start (Table 8 of Chapter 8). -/
def coldSegment : Segment :=
  { poll := [], cursor := 0, cycle := 0, queue := [], outside := [], sending := none, exchange := none }

/-- A cleared error record (R147). -/
def clearedErrors : ErrorRecord :=
  { parity := 0, framing := 0, noise := 0, check := 0, overrun := 0, stranger := 0, capture := none, alerted := false }

/-- A zone record after a cold start (R53). DESIGN CHOICE, log 9, unsafe: day, second and origin. -/
def coldZone : ZoneRecord :=
  { outcome := .none, day := 0, second := 0, origin := none, sent := 0, acked := 0 }

/-- A contact input's configuration after a cold start (Table 2 of Chapter 3). -/
def coldInputConfig : InputConfig :=
  { sense := .falling, debounce := 10, function := .unused, zones := 0, tone := 0, duration := 5, override := false }

/-- A contact input after a cold start, its level not yet taken (R57). DESIGN CHOICE, log 9, unsafe. -/
def coldInput : ContactInput := { config := coldInputConfig, level := .high, taken := false, live := false }

/-- A relay after a cold start (R60). -/
def coldRelay : Relay := { zone := 0, override := .auto, position := .opened }

/-- A form window's counts and flags when it has not been opened (R91). -/
def coldForm : FormWindow := { expected := 0, unmarked := 0, taken := false, done := false }

/-- The default grace (Table 5 of Chapter 9). -/
def defaultGrace : Nat := 60

/-! ### Reading and writing single records -/

/-- Gate record g. -/
def gateAt (s : State) (g : Nat) : Gate := tabGet coldGate s.gate.gates g

/-- Replace gate record g. -/
def setGateAt (g : Nat) (x : Gate) (s : State) : State :=
  s.modGate fun u => { u with gates := tabSet coldGate g x u.gates }

/-- Station table entry n. -/
def stationAt (s : State) (n : Nat) : Station := tabGet coldStation s.line.stations n

/-- Replace station table entry n. -/
def setStationAt (n : Nat) (x : Station) (s : State) : State :=
  s.modLine fun u => { u with stations := tabSet coldStation n x u.stations }

/-- Segment n. -/
def segmentAt (s : State) (n : Nat) : Segment := tabGet coldSegment s.line.segments n

/-- Replace segment n. -/
def setSegmentAt (n : Nat) (x : Segment) (s : State) : State :=
  s.modLine fun u => { u with segments := tabSet coldSegment n x u.segments }

/-- Zone record z. -/
def zoneAt (s : State) (z : Nat) : ZoneRecord := tabGet coldZone s.bell.zones z

/-- Replace zone record z. -/
def setZoneAt (z : Nat) (x : ZoneRecord) (s : State) : State :=
  s.modBell fun u => { u with zones := tabSet coldZone z x u.zones }

/-- Zone z's sounding count. -/
def soundingAt (s : State) (z : Nat) : Nat := tabGet 0 s.bell.sounding z

/-- Contact input i. -/
def inputAt (s : State) (i : Nat) : ContactInput := tabGet coldInput s.bell.inputs i

/-- Replace contact input i. -/
def setInputAt (i : Nat) (x : ContactInput) (s : State) : State :=
  s.modBell fun u => { u with inputs := tabSet coldInput i x u.inputs }

/-- Relay output r. -/
def relayAt (s : State) (r : Nat) : Relay := tabGet coldRelay s.bell.relays r

/-- The state of session x's form windows (R90). -/
def formState (s : State) (x : Session) : WindowState := (s.reg.form.get x).state

/-- Group g's form window of session x. -/
def formAt (s : State) (x : Session) (g : Nat) : FormWindow := tabGet coldForm (s.reg.form.get x).groups g

/-- Replace group g's form window of session x. -/
def setFormAt (x : Session) (g : Nat) (w : FormWindow) (s : State) : State :=
  s.modReg fun u =>
    { u with form := u.form.set x { u.form.get x with groups := tabSet coldForm g w (u.form.get x).groups } }

/-- Lesson window k's state. -/
def lessonAt (s : State) (k : Nat) : WindowState := tabGet .notOpened s.reg.lessons k

/-- Replace lesson window k's state. -/
def setLessonAt (k : Nat) (w : WindowState) (s : State) : State :=
  s.modReg fun u => { u with lessons := tabSet .notOpened k w u.lessons }

/-- The room of a slot in lesson window k's room column (R94). -/
def roomAt (s : State) (k slot : Nat) : Nat := tabGet 0 (tabGet [] s.reg.rooms k) slot

/-- Replace that room. -/
def setRoomAt (k slot room : Nat) (s : State) : State :=
  s.modReg fun u => { u with rooms := tabSet [] k (tabSet 0 slot room (tabGet [] u.rooms k)) u.rooms }

/-- The grace parameter of gate g (R164). -/
def graceAt (s : State) (g : Nat) : Nat := tabGet defaultGrace s.office.params.grace g

/-- Plan p's events. -/
def planAt (s : State) (p : Nat) : List Event := tabGet [] s.sched.plans p

/-! ### The roll -/

/-- The entry in a slot, if the slot is filled (R1). -/
def entryAt (s : State) (slot : Nat) : Option RollEntry := tabFind s.roll.roll slot

/-- Update the entry of a filled slot. -/
def modEntry (slot : Nat) (f : RollEntry → RollEntry) (s : State) : State :=
  match entryAt s slot with
  | none => s
  | some e => s.modRoll fun u => { u with roll := tabInsert slot (f e) u.roll }

/-- The slot and entry of a pupil number (R2). -/
def findPupil (s : State) (n : Nat) : Option (Nat × RollEntry) := s.roll.roll.find? fun p => p.2.pupil == n

/-- The slot and entry of a card token (R2); token 0 is held by nobody (R70). -/
def findToken (s : State) (t : Handle) : Option (Nat × RollEntry) :=
  if t = 0 then none else s.roll.roll.find? fun p => p.2.tokens.contains t

/-- The lowest-numbered empty slot (R1). -/
def firstEmptySlot (s : State) : Option Nat :=
  (List.range Config.rollSlots).find? fun n => (entryAt s n).isNone

/-- The lowest filled slot at or above a slot (R22). -/
def nextFilledSlot (s : State) (from_ : Nat) : Option (Nat × RollEntry) := s.roll.roll.find? fun p => from_ ≤ p.1

/-- The pupil number in a slot, 0 when it is empty (R1). -/
def pupilAt (s : State) (slot : Nat) : Nat := ((entryAt s slot).map (·.pupil)).getD 0

/-- A family's contact list; a family that is not loaded has none (R5). -/
def contactsOf (s : State) (family : Nat) : List Contact :=
  ((tabFind s.roll.families family).map (·.contacts)).getD []

/-- Whether the roll state is ROLLOVER (R15). -/
def rollingOver (s : State) : Bool := s.roll.rollState != .normal

/-- Whether roll writers are held off: ROLLOVER or restart catch-up (R20, R167). -/
def writersHeld (s : State) : Bool := rollingOver s || s.office.catchUp

/-! ### The plan in force -/

/-- The active plan's events; none with no plan active. -/
def activeEvents (s : State) : List Event :=
  match s.sched.active with
  | none => []
  | some p => planAt s p

/-- The time of an event of the active plan, by kind and argument (R36). -/
def lookupTime (s : State) (a : EventAct) : Option Nat :=
  ((activeEvents s).find? fun e => e.act == a).map (·.time)

/-! ### The report queue and the uplink's output (R161 to R163) -/

/-- When the uplink is free, start the reply, else the oldest report, which then leaves the queue. -/
def uplinkChoose (s : State) : State :=
  match s.line.upSending with
  | some _ => s
  | none =>
    match s.office.reply with
    | some r => s.modLine fun u => { u with upSending := some (.reply r) }
    | none =>
      match s.office.reports with
      | [] => s
      | r :: rest =>
        (s.modOffice fun o => { o with reports := rest }).modLine fun u => { u with upSending := some (.report r) }

/-- Whether the report queue has room (R163). -/
def reportRoom (s : State) : Bool := s.office.reports.length < Config.reportSlots

/-- Offer a report: it takes its number, and joins the queue or is lost (R162, R163). -/
def offerReport (b : ReportBody) (s : State) : State :=
  let r : Report := { number := s.office.reportNumber, day := s.sched.day, second := s.sched.second, body := b }
  if reportRoom s then
    uplinkChoose (s.modOffice fun o =>
      { o with reportNumber := (o.reportNumber + 1) % 65536, reports := o.reports ++ [r] })
  else
    s.modOffice fun o => { o with reportNumber := (o.reportNumber + 1) % 65536, lost := satAdd 65535 o.lost 1 }

/-- Offer an alert. -/
def alert (a : Alert) (s : State) : State := offerReport (.alert a) s

/-! ### Station classification (R148) -/

/-- Whether an entry matches a source address on a segment. -/
def stationMatches (e : Station) (seg : Nat) (addr : Byte) : Bool :=
  e.enabled && e.segment == seg && (addr ^^^ e.address) &&& e.mask == 0

/-- Whether an address is a field station's, 0x10 to 0xEF. -/
def stationAddress (addr : Byte) : Bool := 0x10 ≤ addr.toNat && addr.toNat ≤ 0xEF

/-- The classifying entry of an address on a segment: the lowest-numbered that it matches. -/
def classify (s : State) (seg : Nat) (addr : Byte) : Option Nat :=
  if stationAddress addr then (List.range 48).find? fun n => stationMatches (stationAt s n) seg addr else none

/-! ### Segment output queues (R152, R153) -/

/-- A frame's output class (Table 4 of Chapter 8); a POLL is sent by the controller and never queued. -/
def outputClass (f : FieldFrame) : Nat :=
  match f.body with
  | .poll => 0
  | .bell _ _ _ => 1
  | .gateAnswer _ _ _ _ _ => 2
  | .busy _ _ => 2
  | .registerAck _ _ _ _ _ _ => 3

/-- Take the oldest frame of one class out of a queue. -/
def takeClass (c : Nat) (q : List FieldFrame) : Option (FieldFrame × List FieldFrame) :=
  (q.find? fun f => outputClass f == c).map fun f => (f, q.eraseP fun f => outputClass f == c)

/-- The frame sent next: the oldest of the lowest-numbered class that holds one. -/
def takeNext (q : List FieldFrame) : Option (FieldFrame × List FieldFrame) :=
  (takeClass 1 q).orElse fun _ => (takeClass 2 q).orElse fun _ => takeClass 3 q

/-- Move a poll cursor on, wrapping with the cycle count (R151). -/
def advancePoll (g : Segment) : Segment :=
  if g.poll.length ≤ g.cursor + 1 then { g with cursor := 0, cycle := (g.cycle + 1) % 8 }
  else { g with cursor := g.cursor + 1 }

/-- Whether the classifying entry of an address is ABSENT. -/
def pollSkipped (s : State) (seg : Nat) (addr : Byte) : Bool :=
  match classify s seg addr with
  | none => false
  | some n => (stationAt s n).presence == .absent

/-- Consider poll positions, at most as many as the fuel, until one is polled (R153). -/
def considerPolls (skipped : Byte → Bool) : Nat → Segment → Segment
  | 0, g => g
  | fuel + 1, g =>
    match g.poll[g.cursor]? with
    | none => g
    | some a =>
      if skipped a && g.cycle != 0 then considerPolls skipped fuel (advancePoll g)
      else { advancePoll g with sending := some ⟨a, .poll⟩ }

/-- The controller's choice when its line is free: the queue, then the poll list (R153). -/
def chooseNext (skipped : Byte → Bool) (g : Segment) : Segment :=
  match takeNext g.queue with
  | some (f, q) => { g with queue := q, sending := some f }
  | none => considerPolls skipped (8 * g.poll.length + 1) g

/-- Let a segment's controller choose, if its line is free. -/
def segmentChoose (seg : Nat) (s : State) : State :=
  let g := segmentAt s seg
  if g.sending.isSome || g.exchange.isSome then s
  else setSegmentAt seg (chooseNext (pollSkipped s seg) g) s

/-- Whether a BELL for the same address already waits in the queue (R152). -/
def sameBell (f g : FieldFrame) : Bool := outputClass f == 1 && outputClass g == 1 && f.dest == g.dest

/-- The newer of two BELLs for one address, standing for both (R152). DEDUCED, log 10. -/
def mergeBell (new old : FieldFrame) : FieldFrame :=
  match new.body, old.body with
  | .bell t d n, .bell _ _ m => ⟨new.dest, .bell t d (n + m)⟩
  | _, _ => new

/-- Whether a frame handed now joins the queue rather than waiting outside it. -/
def queueTakes (g : Segment) (f : FieldFrame) : Bool :=
  g.queue.any (sameBell f) || (g.outside.isEmpty && g.queue.length < Config.queueFrames)

/-- A frame joining the queue: in the place of a waiting BELL for its address, or at the end. -/
def joinQueue (g : Segment) (f : FieldFrame) : Segment :=
  if g.queue.any (sameBell f) then
    { g with queue := g.queue.map fun h => if sameBell f h then mergeBell f h else h }
  else { g with queue := g.queue ++ [f] }

/-- Hand a frame to a segment's output queue; it waits outside a full one (R152). DEDUCED, log 10. -/
def handFrame (seg : Nat) (f : FieldFrame) (s : State) : State :=
  let g := segmentAt s seg
  if queueTakes g f then segmentChoose seg (setSegmentAt seg (joinQueue g f) s)
  else setSegmentAt seg { g with outside := g.outside ++ [f] } s

/-! ### The gateway port (R136) -/

/-- Hand a frame to the gateway port, which sends in the order handed. -/
def handGateway (f : GatewayFrame) (s : State) : State :=
  match s.line.gwSending with
  | none => s.modLine fun u => { u with gwSending := some f }
  | some _ => s.modLine fun u => { u with gwWaiting := u.gwWaiting ++ [f] }

/-! ### Error records (R147) -/

/-- The number under which a port's error record is kept. -/
def portIndex : Port → Nat
  | .uplink => 0
  | .gateway => 1
  | .field n => n + 2

/-- A port's error record. -/
def errorsAt (s : State) (p : Port) : ErrorRecord := tabGet clearedErrors s.line.errors (portIndex p)

/-- Replace a port's error record. -/
def setErrorsAt (p : Port) (x : ErrorRecord) (s : State) : State :=
  s.modLine fun u => { u with errors := tabSet clearedErrors (portIndex p) x u.errors }

/-- Raise the count a fault is counted as (Table 1 of Chapter 8), and write the capture when it is empty. -/
def countFault (f : FrameFault) (h : FrameHeader) (r : ErrorRecord) : ErrorRecord :=
  let c := match r.capture with
    | none => some (f, h)
    | some x => some x
  match f with
  | .parity => { r with parity := satAdd 255 r.parity 1, capture := c }
  | .framing => { r with framing := satAdd 255 r.framing 1, capture := c }
  | .short => { r with framing := satAdd 255 r.framing 1, capture := c }
  | .noise => { r with noise := satAdd 255 r.noise 1, capture := c }
  | .length => { r with check := satAdd 255 r.check 1, capture := c }
  | .check => { r with check := satAdd 255 r.check 1, capture := c }
  | .overrun => { r with overrun := satAdd 255 r.overrun 1, capture := c }
  | .stranger => { r with stranger := satAdd 255 r.stranger 1, capture := c }

/-- A port's sum of counts (R147). -/
def errorSum (r : ErrorRecord) : Nat := r.parity + r.framing + r.noise + r.check + r.overrun + r.stranger

/-- Count one invalid frame on a port, with its PORT_ERRORS alert when due (R147). -/
def countInvalid (p : Port) (f : FrameFault) (h : FrameHeader) (s : State) : State :=
  let r := countFault f h (errorsAt s p)
  if s.office.params.portThreshold ≤ errorSum r && !r.alerted then
    alert (.portErrors p r) (setErrorsAt p { r with alerted := true } s)
  else setErrorsAt p r s

/-- The header of a good frame addressed to the M24. -/
def goodHeader (src kind : Byte) (length : Nat) : FrameHeader :=
  { dest := some 0x01, src := some src, kind := some kind, length := some length }

/-! ### Answering a request (R160) -/

/-- A request refused: nothing changes and no data are carried. -/
def refuse (st : Status) (s : State) : State × Status × ReplyData := (s, st, .none)

/-- A request carried out: OK with its data. -/
def served (d : ReplyData) (s : State) : State × Status × ReplyData := (s, .ok, d)

/-- Whether a pupil number lies in its range, 1 to 65000. -/
def pupilInRange (n : Nat) : Bool := n != 0 && n ≤ Config.maxPupil

/-! ### Running a command -/

/-- A command the part takes only on main power (R168): without it, nothing changes. DEDUCED, log 1. -/
def whenPowered (f : State → State) (s : State) : Host.Outcome State Fault Refusal :=
  .next (if s.office.powered then f s else s)

end Sys2Proof.Machine
end

