-- ==== Sys2Proof/Machine/Flags.lean ====
section
/-! DEFINITION. The flags and conditions the spec derives from stored state: notice flags and the absence condition,
which marks count where, gate states, suppression and pending flags, relay positions. -/

namespace Sys2Proof.Machine

open Sys2Proof

/-! ### Marks (Chapter 1) -/

/-- Whether a code counts in P (Table 4 of Chapter 1). -/
def countsInP : MarkCode → Bool
  | .untaken => false
  | .present => true
  | .late => true
  | .lateAfterClose => true
  | .absent => true
  | .excused => true
  | .offsite => true
  | .notRequired => false

/-- Whether a code counts in A (Table 4 of Chapter 1). -/
def countsInA : MarkCode → Bool
  | .untaken => false
  | .present => true
  | .late => true
  | .lateAfterClose => false
  | .absent => false
  | .excused => false
  | .offsite => true
  | .notRequired => false

/-- Whether a code counts in U (Table 4 of Chapter 1). -/
def countsInU : MarkCode → Bool
  | .untaken => false
  | .present => false
  | .late => false
  | .lateAfterClose => true
  | .absent => true
  | .excused => false
  | .offsite => false
  | .notRequired => false

/-- The attendance figure Q (R14). -/
def attendance (t : TermRecord) : Nat := if t.p = 0 then 1000 else 1000 * t.a / t.p

/-- Whether a pupil is expected in a session (R91). -/
def expectedIn (e : RollEntry) (x : Session) : Bool := (e.day.marks.get x).code != .notRequired

/-- The latest period in which a pupil holds an ABSENT lesson mark, if any (Table 1 of Chapter 7). -/
def latestAbsentPeriod (e : RollEntry) : Option Nat :=
  ([10, 9, 8, 7, 6, 5, 4, 3, 2, 1] : List Nat).find? fun k => tabGet LessonMark.unset e.day.lessons k == .absent

/-! ### Notice reasons and flags (R4, Table 3 of Chapter 7) -/

/-- A pupil's reasons for a notice (R4). -/
inductive DueReason
  | absence (s : Session)
  | late (s : Session)
  | internal
  | concern
  deriving DecidableEq, Repr

/-- The due reasons in the order the notice walk considers them (Table 3 of Chapter 7). -/
def dueReasons : List DueReason := [.absence .am, .absence .pm, .late .am, .late .pm, .internal, .concern]

/-- The notice reason and session of a due reason (Table 3 of Chapter 7). -/
def noticeOf : DueReason → NoticeReason × Option Session
  | .absence s => (.absence, some s)
  | .late s => (.lateClosed, some s)
  | .internal => (.internal, none)
  | .concern => (.concern, none)

/-- The due reason behind a notice record; an OFFICE record has none. -/
def dueReasonOf (reason : NoticeReason) (session : Option Session) : Option DueReason :=
  match reason, session with
  | .absence, some s => some (.absence s)
  | .lateClosed, some s => some (.late s)
  | .internal, _ => some .internal
  | .concern, _ => some .concern
  | _, _ => none

/-- A reason's done flag. -/
def doneFlag (f : NoticeFlags) : DueReason → Bool
  | .absence s => f.doneAbsence.get s
  | .late s => f.doneLate.get s
  | .internal => f.doneInternal
  | .concern => f.doneConcern

/-- Write a reason's done flag. -/
def setDoneFlag (r : DueReason) (b : Bool) (f : NoticeFlags) : NoticeFlags :=
  match r with
  | .absence s => { f with doneAbsence := f.doneAbsence.set s b }
  | .late s => { f with doneLate := f.doneLate.set s b }
  | .internal => { f with doneInternal := b }
  | .concern => { f with doneConcern := b }

/-- A reason's stored due flag; the due flags of absence are not stored (R4). -/
def storedDue (f : NoticeFlags) : DueReason → Bool
  | .absence _ => false
  | .late s => f.dueLate.get s
  | .internal => f.dueInternal
  | .concern => f.dueConcern

/-- Set a reason's stored due flag. -/
def setStoredDue (r : DueReason) (f : NoticeFlags) : NoticeFlags :=
  match r with
  | .absence _ => f
  | .late s => { f with dueLate := f.dueLate.set s true }
  | .internal => { f with dueInternal := true }
  | .concern => { f with dueConcern := true }

/-- The absence condition of a session (R4). -/
def absenceDue (s : State) (e : RollEntry) (x : Session) : Bool :=
  formState s x == .closed && (e.day.marks.get x).code == .absent

/-- The condition under which a reason is noticed, its done flag and template apart (Table 3 of Chapter 7). -/
def noticeCondition (s : State) (e : RollEntry) : DueReason → Bool
  | .absence x => absenceDue s e x
  | .late x => e.day.flags.dueLate.get x && (e.day.marks.get x).code == .lateAfterClose
  | .internal => e.day.flags.dueInternal
  | .concern => e.day.flags.dueConcern

/-- The template of a notice reason (R126). OFFICE records do not use the table. -/
def templateOf (t : Templates) : NoticeReason → Nat
  | .absence => t.absence
  | .lateClosed => t.lateClosed
  | .internal => t.internal
  | .concern => t.concern
  | .office => 0

/-! ### Gates (R65) -/

/-- Whether a gate is out of service: no enabled GATE_IN entry of it is PRESENT. -/
def outOfService (s : State) (g : Nat) : Bool :=
  !(List.range 48).any fun n =>
    let e := stationAt s n
    e.enabled && e.kind == .gateIn && e.unit == g && e.presence == .present

/-- A gate's derived state. -/
def gateStateAt (s : State) (g : Nat) : GateState :=
  if (gateAt s g).referral.isSome then .holding
  else if outOfService s g then .offline
  else .ready

/-- Whether a gate holds a referral for the pupil in a slot (R23). -/
def heldAtGate (s : State) (slot : Nat) : Bool :=
  (List.range 8).any fun g =>
    match (gateAt s g).referral with
    | some r => r.slot == slot
    | none => false

/-! ### Contact inputs (R57, R58) -/

/-- Whether a zone is in a mask. -/
def inZones (m : ZoneMask) (z : Nat) : Bool := m.getLsbD z

/-- Whether a gate is in a mask. -/
def inGates (m : GateMask) (g : Nat) : Bool := m.getLsbD g

/-- A SUPPRESS input is active while its debounced level is LOW (R58). -/
def suppressActive (i : ContactInput) : Bool := i.config.function == .suppress && i.taken && i.level == .low

/-- Whether an active SUPPRESS input holds a zone (R58). -/
def zoneSuppressed (s : State) (z : Nat) : Bool :=
  (List.range 8).any fun i => suppressActive (inputAt s i) && inZones (inputAt s i).config.zones z

/-- An input's pending flag: a job it made is waiting or current (R57). -/
def inputPending (s : State) (i : Nat) : Bool :=
  (match s.bell.current with
    | some c => c.job.origin == .input i
    | none => false) || s.bell.waiting.any fun j => j.origin == .input i

/-! ### Relays (R60) -/

/-- A relay's position by its override and, in AUTO, its zone's sounding count (Table 3 of Chapter 3). -/
def relayPosition (s : State) (r : Relay) : RelayPosition :=
  match r.override with
  | .forceOn => .closed
  | .forceOff => .opened
  | .auto => if soundingAt s r.zone = 0 then .opened else .closed

/-- Bring one relay's position up to Table 3. -/
def refreshRelay (n : Nat) (s : State) : State :=
  s.modBell fun u =>
    { u with relays := tabSet coldRelay n { relayAt s n with position := relayPosition s (relayAt s n) } u.relays }

/-- Bring both relays' positions up to Table 3. -/
def refreshRelays (s : State) : State := refreshRelay 1 (refreshRelay 0 s)

/-- Open both relays: without main power they are open (R60). -/
def openRelays (s : State) : State :=
  let open_ (n : Nat) : Relay := { relayAt s n with position := .opened }
  s.modBell fun u =>
    { u with relays := tabSet coldRelay 1 (open_ 1) (tabSet coldRelay 0 (open_ 0) u.relays) }

/-! ### Register windows -/

/-- Whether a form window of session x is OPEN (R90). -/
def formOpen (s : State) (x : Session) : Bool := formState s x == .opened

/-- Whether a form window is OPEN in either session. -/
def anyFormOpen (s : State) : Bool := formOpen s .am || formOpen s .pm

/-- Whether a close walk or period-end walk is running, in the sense of R105. -/
def walkRunning (s : State) : Bool := !s.reg.walks.isEmpty

/-- How many notice records are with the gateway (R134). -/
def inFlight (s : State) : Nat := s.msg.notices.countP fun n => n.state != .queued

end Sys2Proof.Machine
end

