-- ==== Sys2Proof/Machine/Notice.lean ====
section
/-! DEFINITION. The Message Unit's notices (Chapter 7): walk requests, departures, withdrawal, offers, escalation, the
notice walk's visits, and the gateway's READY and OUTCOME. -/

namespace Sys2Proof.Machine

open Sys2Proof

/-! ### Walk requests and departures (R128, R130, R131, R133) -/

/-- A notice walk request (R128). -/
def walkRequest (s : State) : State :=
  if !s.msg.windowOpen || rollingOver s then s
  else
    match s.msg.walk with
    | .idle => s.modMsg fun m => { m with walk := .running, cursor := 0, deferral := false }
    | .running => s.modMsg fun m => { m with rewalk := true }
    | .paused => s.modMsg fun m => { m with rewalk := true }

/-- Release of deferred pupils: the deferral flag is cleared and a walk requested (R130). -/
def releaseDeferred (s : State) : State :=
  if s.msg.deferral then walkRequest (s.modMsg fun m => { m with deferral := false }) else s

/-- A PAUSED walk resumes when a record leaves the queue (R131). -/
def resumeWalk (s : State) : State :=
  match s.msg.walk with
  | .paused => s.modMsg fun m => { m with walk := .running }
  | .running => s
  | .idle => s

/-- Put a record in the place of another. No two records are equal, for no two share family, reason and session
(R125). -/
def replaceNotice (old new : Notice) : List Notice → List Notice
  | [] => []
  | n :: ns => if n = old then new :: ns else n :: replaceNotice old new ns

/-- Update a notice record of the queue, in its place. -/
def modNotice (n : Notice) (f : Notice → Notice) (s : State) : State :=
  s.modMsg fun m => { m with notices := replaceNotice n (f n) m.notices }

/-- The oldest notice record of a number that satisfies a test. DEDUCED, log 16. -/
def findNotice (s : State) (number : Nat) (p : Notice → Bool) : Option Notice :=
  s.msg.notices.find? fun n => n.number == number && p n

/-- Write a pupil's done flag for a reason. -/
def setDone (slot : Nat) (r : DueReason) (b : Bool) (s : State) : State :=
  modEntry slot (fun e => { e with day := { e.day with flags := setDoneFlag r b e.day.flags } }) s

/-- Whether a listed pupil, not withdrawn, holds the reason's done flag. -/
def holdsDone (s : State) (r : DueReason) (p : Nat × Bool) : Bool :=
  match findPupil s p.1 with
  | some (_, e) => !p.2 && doneFlag e.day.flags r
  | none => false

/-- Clear the done flag of every listed pupil that is not withdrawn (Table 4 of Chapter 7). -/
def clearListed (r : DueReason) : List (Nat × Bool) → State → State
  | [], s => s
  | p :: ps, s =>
    match findPupil s p.1 with
    | some (slot, _) => clearListed r ps (if p.2 then s else setDone slot r false s)
    | none => clearListed r ps s

/-- What a record's result does beyond its report (Table 4 of Chapter 7). DEDUCED, log 16. -/
def departureEffect (n : Notice) (res : NoticeResult) (s : State) : State :=
  match res with
  | .delivered => s
  | .dropped => s
  | .contactFailed => alert (.contactFailed n.family none n.reason n.session (some n.number)) s
  | .withdrawn =>
    match dueReasonOf n.reason n.session with
    | none => s
    | some r =>
      if n.pupils.any (holdsDone s r) then walkRequest (clearListed r n.pupils s) else s

/-- A record leaves the queue with a result (R133): it is taken out, reported, its result applied, a paused walk
resumes and deferred pupils are released. DEDUCED, log 16. -/
def leaveQueue (n : Notice) (res : NoticeResult) (s : State) : State :=
  let s := s.modMsg fun m => { m with notices := m.notices.erase n }
  let s := offerReport (.noticeOutcome n res s.sched.second) s
  releaseDeferred (resumeWalk (departureEffect n res s))

/-! ### Withdrawal (R132) -/

/-- The largest of the day's minutes late of a list of pupils on the roll, 0 when none has any. -/
def mostMinutes (s : State) (ps : List (Nat × Bool)) : Nat :=
  ps.foldl (fun acc p => max acc (((findPupil s p.1).map fun x => x.2.day.minutesLate).getD 0)) 0

/-- The largest of the day's minutes late of the listed pupils (R124). DESIGN CHOICE, log 16, unsafe: a listed pupil who
has left the roll (R23) is passed over, and when no listed pupil on the roll has any minutes the record keeps the
minutes it had, so that they stay within 1 to 240 (R175). -/
def noticeMinutes (s : State) (n : Notice) : Option Nat :=
  match n.reason with
  | .lateClosed => if mostMinutes s n.pupils = 0 then n.minutes else some (mostMinutes s n.pupils)
  | .absence => n.minutes
  | .internal => n.minutes
  | .concern => n.minutes
  | .office => n.minutes

/-- A pupil leaves a QUEUED record, which leaves the queue WITHDRAWN when it has no pupil left (R132, R23). -/
def leavePupil (n : Notice) (pupil : Nat) (s : State) : State :=
  let rest := n.pupils.filter fun p => p.1 != pupil
  let n' := { n with pupils := rest }
  let n' := { n' with minutes := noticeMinutes s n' }
  let s := modNotice n (fun _ => n') s
  if rest.isEmpty then leaveQueue n' .withdrawn s else releaseDeferred s

/-- Withdraw a pupil from a record, by the record's state (R132). -/
def withdrawFrom (n : Notice) (pupil : Nat) (s : State) : State :=
  match n.state with
  | .queued => leavePupil n pupil s
  | .offered => modNotice n (fun n =>
      { n with state := .withdrawnPending, pupils := n.pupils.map fun p => if p.1 = pupil then (p.1, true) else p }) s
  | .withdrawnPending => modNotice n (fun n =>
      { n with pupils := n.pupils.map fun p => if p.1 = pupil then (p.1, true) else p }) s

/-- Whether a record of a reason and session lists a pupil. -/
def lists (r : DueReason) (pupil : Nat) (n : Notice) : Bool :=
  (n.reason, n.session) == noticeOf r && n.pupils.any fun p => p.1 == pupil

/-- Withdraw a pupil from each record of a list in turn (R132). DESIGN CHOICE, log 21, unsafe: in queue order. -/
def withdrawEach (pupil : Nat) : List Notice → State → State
  | [], s => s
  | n :: ns, s => withdrawEach pupil ns (withdrawFrom n pupil s)

/-- Withdraw the pupil in a slot from every record of a reason that lists the pupil, and clear the reason's done flag
(R132). A pupil who has changed family may be listed by two. -/
def withdraw (slot : Nat) (r : DueReason) (s : State) : State :=
  let pupil := pupilAt s slot
  setDone slot r false (withdrawEach pupil (s.msg.notices.filter (lists r pupil)) s)

/-- A mark-change notification (R132): withdrawal, then a request for a new absence. -/
def markChanged (slot : Nat) (x : Session) (old new : MarkCode) (s : State) : State :=
  let s := if old = .absent ∧ new ≠ .absent then withdraw slot (.absence x) s else s
  let s := if old = .lateAfterClose ∧ new ≠ .lateAfterClose then withdraw slot (.late x) s else s
  if new = .absent ∧ formState s x = .closed then walkRequest s else s

/-- Set a stored due flag; a flag newly set passes a due notification, which requests a walk (R4). -/
def setDue (slot : Nat) (r : DueReason) (s : State) : State :=
  match entryAt s slot with
  | none => s
  | some e =>
    if storedDue e.day.flags r then s
    else walkRequest
      (modEntry slot (fun e => { e with day := { e.day with flags := setStoredDue r e.day.flags } }) s)

/-! ### Offers (R135) -/

/-- The oldest record that may be offered now, if any (R135). -/
def offerable (s : State) : Option Notice :=
  if s.msg.windowOpen && s.msg.walk != .running && !rollingOver s && inFlight s < s.msg.creditLimit then
    s.msg.notices.find? fun n => n.state == .queued && n.notBefore ≤ s.sched.second
  else none

/-- The OFFER frame of a record to a contact. -/
def offerFrame (n : Notice) (c : Contact) : Offer :=
  { number := n.number, attempt := satAdd 255 n.attempts 1, template := n.template, handle := c.handle,
    channel := c.channel, pupils := n.pupils.map Prod.fst, session := n.session, period := n.period,
    minutes := n.minutes }

/-- Offer a record to the contact at its position (R135). -/
def offerNotice (n : Notice) (s : State) : State :=
  match (contactsOf s n.family)[n.position]? with
  | none => s
  | some c =>
    modNotice n (fun n =>
      { n with attempts := satAdd 255 n.attempts 1, state := .offered, timer := s.office.params.outcomeTimeout,
               lastOffered := some (n.position, c.handle) })
      (handGateway (.offer (offerFrame n c)) s)

/-- Make offers one after another until a condition fails, at most as many as the fuel. -/
def makeOffers : Nat → State → State
  | 0, s => s
  | fuel + 1, s =>
    match offerable s with
    | none => s
    | some n => makeOffers fuel (offerNotice n s)

/-- Make every offer that R135 allows; the credit limit bounds their number. DEDUCED, log 16: where it is called. -/
def tryOffers (s : State) : State := makeOffers s.msg.creditLimit s

/-! ### Escalation and outcomes (R137 to R140) -/

/-- The first contact with the notify permission (R130). -/
def firstNotify (cs : List Contact) : Option Nat := cs.findIdx? (·.notify)

/-- The first contact after a position with the notify permission (R140). -/
def nextNotify (cs : List Contact) (position : Nat) : Option Nat :=
  (List.range cs.length).find? fun i => position < i && ((cs[i]?).map (·.notify)).getD false

/-- Escalate a record to its family's next contact, or let it leave CONTACT_FAILED (R140). DESIGN CHOICE, log 16,
unsafe: the outcome timer of the record back in QUEUED, to which Table 1 of Chapter 7 gives no meaning, holds 0. -/
def escalate (n : Notice) (s : State) : State :=
  match nextNotify (contactsOf s n.family) n.position with
  | some i => releaseDeferred (modNotice n (fun n =>
      { n with position := i, state := .queued, timer := 0,
               notBefore := s.sched.second + s.office.params.retryGap }) s)
  | none => leaveQueue n .contactFailed s

/-- The gateway's result of an offer (R137). -/
inductive OutcomeResult
  | delivered | noAnswer | badContact
  deriving DecidableEq, Repr

/-- The BAD_CONTACT alert of a record's failed contact (R138). -/
def badContactAlert (n : Notice) (s : State) : State :=
  match n.lastOffered with
  | some (p, h) => alert (.badContact n.family p h n.number) s
  | none => s

/-- What an outcome does to a record with the gateway (Table 5 of Chapter 7). DEDUCED, log 16. -/
def applyOutcome (n : Notice) (r : OutcomeResult) (s : State) : State :=
  match n.state, r with
  | .queued, _ => s
  | _, .delivered => leaveQueue n .delivered s
  | .offered, .noAnswer => escalate n s
  | .offered, .badContact => badContactAlert n (escalate n s)
  | .withdrawnPending, .noAnswer => leaveQueue n .withdrawn s
  | .withdrawnPending, .badContact => badContactAlert n (leaveQueue n .withdrawn s)

/-- Take an outcome (R137): it applies to the record of its number and attempt that is with the gateway. -/
def takeOutcome (number attempt : Nat) (r : OutcomeResult) (s : State) : State :=
  match findNotice s number fun n => n.attempts == attempt && n.state != .queued with
  | none => s
  | some n => tryOffers (applyOutcome n r s)

/-- An outcome timer that has reached 0 (R139). -/
def outcomeTimedOut (n : Notice) (s : State) : State :=
  match n.state with
  | .queued => s
  | .offered => escalate n s
  | .withdrawnPending => leaveQueue n .withdrawn s

/-- Whether a record's offer has timed out. -/
def timedOut (n : Notice) : Bool := n.state != .queued && n.timer == 0

/-- Take the expiry of a record's outcome timer (R139). -/
def takeTimeout (number : Nat) (s : State) : State :=
  match findNotice s number timedOut with
  | none => s
  | some n => tryOffers (outcomeTimedOut n s)

/-! ### The notice walk (R129 to R131) -/

/-- The record of a combination of family, reason and session (R125). -/
def findCombination (s : State) (family : Nat) (r : DueReason) : Option Notice :=
  s.msg.notices.find? fun n => n.family == family && (n.reason, n.session) == noticeOf r

/-- The minutes late a new record carries (Table 1 of Chapter 7). -/
def joinMinutes (e : RollEntry) (r : DueReason) : Option Nat :=
  match r with
  | .late _ => some e.day.minutesLate
  | .absence _ => none
  | .internal => none
  | .concern => none

/-- The period a new record carries (Table 1 of Chapter 7). -/
def joinPeriod (e : RollEntry) (r : DueReason) : Option Nat :=
  match r with
  | .internal => latestAbsentPeriod e
  | .absence _ => none
  | .late _ => none
  | .concern => none

/-- The later of two periods, either of which may be absent (R124). -/
def laterPeriod (a b : Option Nat) : Option Nat :=
  match a, b with
  | none, p => p
  | some x, none => some x
  | some x, some y => some (max x y)

/-- A pupil joins the end of a QUEUED record's list, once (R130, R125). -/
def joinNotice (s : State) (e : RollEntry) (r : DueReason) (n : Notice) : Notice :=
  let n' := { n with
    pupils := if n.pupils.any (fun p => p.1 == e.pupil) then n.pupils else n.pupils ++ [(e.pupil, false)]
    period := laterPeriod n.period (joinPeriod e r) }
  { n' with minutes := noticeMinutes s n' }

/-- A new record of one pupil (R130). DESIGN CHOICE, log 16, unsafe: its outcome timer holds 0 while it is QUEUED. -/
def newNotice (s : State) (e : RollEntry) (r : DueReason) (position : Nat) : Notice :=
  { number := s.msg.nextNumber, family := e.family, pupils := [(e.pupil, false)], reason := (noticeOf r).1,
    session := (noticeOf r).2, period := joinPeriod e r, minutes := joinMinutes e r,
    template := templateOf s.msg.templates (noticeOf r).1, position := position, attempts := 0,
    notBefore := s.sched.second, state := .queued, timer := 0, lastOffered := none }

/-- Append a record, and advance the next notice number (R124). -/
def appendNotice (n : Notice) (s : State) : State :=
  s.modMsg fun m => { m with notices := m.notices ++ [n], nextNumber := (m.nextNumber + 1) % 65536 }

/-- Deal with a noticed reason (R130). -/
def dealWith (slot : Nat) (e : RollEntry) (r : DueReason) (s : State) : State :=
  match firstNotify (contactsOf s e.family) with
  | none =>
    setDone slot r true
      (alert (.contactFailed e.family (some e.pupil) (noticeOf r).1 (noticeOf r).2 none) s)
  | some position =>
    match findCombination s e.family r with
    | some n =>
      if n.state = .queued ∧ n.pupils.length < 4 then
        setDone slot r true (modNotice n (joinNotice s e r) s)
      else s.modMsg fun m => { m with deferral := true }
    | none =>
      if s.msg.notices.length < Config.noticeRecords then
        setDone slot r true (appendNotice (newNotice s e r position) s)
      else s.modMsg fun m => { m with walk := .paused }

/-- Consider one reason at a visit (R129). -/
def considerReason (slot : Nat) (r : DueReason) (s : State) : State :=
  match entryAt s slot with
  | none => s
  | some e =>
    if noticeCondition s e r && !doneFlag e.day.flags r && templateOf s.msg.templates (noticeOf r).1 != 0 then
      dealWith slot e r s
    else s

/-- Consider the reasons in order, until the walk pauses (R129, R130). -/
def considerReasons (slot : Nat) : List DueReason → State → State
  | [], s => s
  | r :: rs, s => if s.msg.walk = .paused then s else considerReasons slot rs (considerReason slot r s)

/-- Whether a family's notices are held (R5). -/
def noticesHeld (s : State) (family : Nat) : Bool :=
  ((tabFind s.roll.families family).map (·.held)).getD false

/-- Visit one slot (R129). -/
def visitSlot (slot : Nat) (s : State) : State :=
  match entryAt s slot with
  | none => s
  | some e => if noticesHeld s e.family then s else considerReasons slot dueReasons s

/-- The end of a pass (R131): offers, then a new pass when the rewalk flag is set. -/
def passEnd (s : State) : State :=
  let again := s.msg.rewalk
  let s := tryOffers (s.modMsg fun m => { m with walk := .idle, cursor := 0, rewalk := false })
  if again then s.modMsg fun m => { m with walk := .running, cursor := 0, deferral := false } else s

/-- One visit of a RUNNING walk, at its cursor (R128, R131). -/
def noticeVisit (s : State) : State :=
  if s.msg.walk ≠ .running ∨ rollingOver s then s
  else if Config.rollSlots ≤ s.msg.cursor then passEnd s
  else
    let s := visitSlot s.msg.cursor s
    if s.msg.walk = .paused then tryOffers s
    else if Config.rollSlots ≤ s.msg.cursor + 1 then passEnd s
    else s.modMsg fun m => { m with cursor := m.cursor + 1 }

/-! ### The notice window and the day's end (R127, R144) -/

/-- NOTICE_WINDOW_OPEN (R127). -/
def openNoticeWindow (s : State) : State := walkRequest (s.modMsg fun m => { m with windowOpen := true })

/-- The walk abandoned or reset: IDLE, cursor 0, both flags clear. -/
def idleWalk (m : MessageUnit) : MessageUnit := { m with walk := .idle, cursor := 0, rewalk := false, deferral := false }

/-- NOTICE_WINDOW_CLOSE (R127). -/
def closeNoticeWindow (s : State) : State :=
  if s.msg.windowOpen then
    s.modMsg fun m =>
      { (if m.walk = .idle then m else idleWalk m) with windowOpen := false }
  else s

/-- Every record leaves the queue DROPPED, in queue order (R144). -/
def dropNotices : List Notice → State → State
  | [], s => s
  | n :: ns, s => dropNotices ns (leaveQueue n .dropped s)

/-- The Message Unit at the day-end notice (R144). -/
def messageDayEnd (s : State) : State :=
  (dropNotices s.msg.notices s).modMsg fun m => { idleWalk m with windowOpen := false }

/-! ### Restart (R145) -/

/-- WITHDRAWN_PENDING records leave the queue WITHDRAWN at a restart. -/
def removePending : List Notice → State → State
  | [], s => s
  | n :: ns, s => removePending ns (if n.state = .withdrawnPending then leaveQueue n .withdrawn s else s)

/-- The Message Unit at a retained restart (R145). DESIGN CHOICE, log 16, unsafe: a walk that is IDLE becomes RUNNING
when a record that leaves WITHDRAWN here makes the walk request of R133, although step 4 leaves an IDLE walk IDLE; and
the outcome timer of a record back in QUEUED holds 0. -/
def messageRestart (s : State) : State :=
  let s := s.modMsg fun m =>
    { m with notices := m.notices.map fun n => if n.state = .offered then { n with state := .queued, timer := 0 } else n }
  let s := removePending s.msg.notices s
  s.modMsg fun m =>
    let m := { m with creditLimit := 0 }
    match m.walk with
    | .idle => m
    | .running => { m with walk := .running, cursor := 0, rewalk := false, deferral := false }
    | .paused => { m with walk := .running, cursor := 0, rewalk := false, deferral := false }

end Sys2Proof.Machine
end

