-- ==== Sys2Proof/Machine/Operands.lean ====
section
/-! DEFINITION. The bytes of received payloads (R174 to R176): the check, the field encoding, the layouts of TAP,
REGISTER, READY, OUTCOME and PARENT_REPORT, and the arguments of a REQUEST in both directions. -/

namespace Sys2Proof.Machine

open Sys2Proof

/-! ### The check (R174) -/

/-- One bit of the CRC-16 with generator x^16 + x^12 + x^5 + 1. -/
def crcBit (c : BitVec 16) : BitVec 16 := if c.msb then (c <<< 1) ^^^ 0x1021 else c <<< 1

/-- One byte of the check, taken from its most significant bit down. -/
def crcByte (c : BitVec 16) (b : Byte) : BitVec 16 :=
  crcBit (crcBit (crcBit (crcBit (crcBit (crcBit (crcBit (crcBit (c ^^^ (b.zeroExtend 16 <<< 8)))))))))

/-- The check of the bytes from the destination through the last payload byte. -/
def crc (bs : List Byte) : BitVec 16 := bs.foldl crcByte 0xFFFF

/-! ### Fields (R175) -/

/-- A numeric field of `n` bytes, high byte first. -/
def putNum : Nat → Nat → List Byte
  | 0, _ => []
  | n + 1, v => BitVec.ofNat 8 (v / 256 ^ n) :: putNum n v

/-- Read a numeric field of `n` bytes, high byte first. -/
def takeNum : Nat → List Byte → Option (Nat × List Byte)
  | 0, bs => some (0, bs)
  | _ + 1, [] => none
  | n + 1, b :: bs => (takeNum n bs).map fun r => (b.toNat * 256 ^ n + r.1, r.2)

/-- The value all ones of an absent numeric field. -/
def absentNum (n : Nat) : Nat := 256 ^ n - 1

/-- A numeric field that may be absent. -/
def putOpt (n : Nat) : Option Nat → List Byte
  | some v => putNum n v
  | none => putNum n (absentNum n)

/-- Read a numeric field that may be absent. -/
def takeOpt (n : Nat) (bs : List Byte) : Option (Option Nat × List Byte) :=
  (takeNum n bs).map fun r => (if r.1 = absentNum n then none else some r.1, r.2)

/-- A token or handle (4 bytes). -/
def putHandle (h : Handle) : List Byte := putNum 4 h.toNat

/-- Read a token or handle. -/
def takeHandle (bs : List Byte) : Option (Handle × List Byte) :=
  (takeNum 4 bs).map fun r => (BitVec.ofNat 32 r.1, r.2)

/-- A zone mask (2 bytes). -/
def putZones (z : ZoneMask) : List Byte := putNum 2 z.toNat

/-- Read a zone mask. -/
def takeZones (bs : List Byte) : Option (ZoneMask × List Byte) :=
  (takeNum 2 bs).map fun r => (BitVec.ofNat 16 r.1, r.2)

/-- Read one byte. -/
def takeByte : List Byte → Option (Byte × List Byte)
  | [] => none
  | b :: bs => some (b, bs)

/-- A flag: 0 for clear, 1 for set. -/
def putFlag (b : Bool) : List Byte := [if b then 1 else 0]

/-- Read a flag. A byte other than 0 and 1 is read as the free value. FREE VALUE, log 8. -/
def takeFlag : List Byte → Option (Bool × List Byte)
  | [] => none
  | b :: bs => some (if b = 0 then false else if b = 1 then true else Config.oddFlag b.toNat, bs)

/-- Read a flag whose rule refuses every byte but 0 and 1: the clear option of READ_PORTS (R157), and the suppression
override of LOAD_INPUTS, whose values Table 2 of Chapter 3 lists (R59). -/
def takeStrictFlag : List Byte → Option (Bool × List Byte)
  | [] => none
  | b :: bs => if b = 0 then some (false, bs) else if b = 1 then some (true, bs) else none

/-- An enumerated field: the position of its value in the list the specification gives for it. -/
def putEnum {α : Type} [DecidableEq α] (values : List α) (x : α) : List Byte := [BitVec.ofNat 8 (values.idxOf x)]

/-- Read an enumerated field; a position the list does not contain is a layout fault (R176). -/
def takeEnum {α : Type} (values : List α) : List Byte → Option (α × List Byte)
  | [] => none
  | b :: bs => (values[b.toNat]?).map fun x => (x, bs)

/-- Read `n` items one after another. -/
def takeItems {α : Type} (item : List Byte → Option (α × List Byte)) : Nat → List Byte → Option (List α × List Byte)
  | 0, bs => some ([], bs)
  | n + 1, bs =>
    match item bs with
    | none => none
    | some (x, rest) => (takeItems item n rest).map fun r => (x :: r.1, r.2)

/-- A list, preceded by a one-byte count of its items. -/
def putList {α : Type} (item : α → List Byte) (l : List α) : List Byte := putNum 1 l.length ++ l.flatMap item

/-- Read a list whose count lies in the range its kind allows (R176). -/
def takeList {α : Type} (lo hi : Nat) (item : List Byte → Option (α × List Byte)) (bs : List Byte) :
    Option (List α × List Byte) :=
  match takeNum 1 bs with
  | none => none
  | some (n, rest) => if lo ≤ n ∧ n ≤ hi then takeItems item n rest else none

/-- A payload read to its last byte. -/
def finish {α : Type} (x : α) : List Byte → Option α
  | [] => some x
  | _ :: _ => none

/-! ### The lists of enumerated values -/

/-- Mark codes (Table 4 of Chapter 1). -/
def markCodes : List MarkCode :=
  [.untaken, .present, .late, .lateAfterClose, .absent, .excused, .offsite, .notRequired]

/-- Sessions. -/
def sessionList : List Session := [.am, .pm]

/-- The sessions of an excuse. -/
def sessionsList : List Sessions := [.am, .pm, .both]

/-- The reasons of an excuse. -/
def reasonList : List ExcuseReason := [.illness, .medical, .family, .religious, .other]

/-- Channels. -/
def channelList : List Channel := [.voice, .text]

/-- Gate modes. -/
def gateModeList : List GateMode := [.free, .timed, .referral, .shut]

/-- Contact input senses. -/
def senseList : List Sense := [.lowLevel, .anyChange, .falling, .rising]

/-- Contact input functions. -/
def functionList : List InputFunction := [.unused, .ringNow, .suppress]

/-- Relay overrides. -/
def overrideList : List RelayOverride := [.auto, .forceOn, .forceOff]

/-- Decisions on a referral. -/
def decisionList : List Decision := [.letIn, .letInExcused, .refuse]

/-- Notice reasons (Table 1 of Chapter 7). -/
def noticeReasonList : List NoticeReason := [.absence, .lateClosed, .internal, .concern, .office]

/-- Station kinds. -/
def stationKindList : List StationKind := [.gateIn, .gateOut, .terminal, .sounder]

/-- Concern arguments of ADJUST_COUNTS. -/
def concernList : List ConcernArg := [.set, .clear, .keep]

/-- Parameters (Table 5 of Chapter 9). -/
def paramList : List ParamName :=
  [.grace, .dupWindow, .referralTimeout, .outcomeTimeout, .retryGap, .threshold, .hysteresis, .pmin, .portThreshold]

/-! ### Station and gateway payloads (Table 4 of Chapter 11) -/

/-- A TAP's token and reader sequence. -/
def decodeTap (bs : List Byte) : Option (Handle × Nat) := do
  let (token, bs) ← takeHandle bs
  let (sequence, bs) ← takeNum 1 bs
  finish (token, sequence) bs

/-- A REGISTER's target (R95). -/
inductive RegisterTarget
  | form (s : Session) (group : Nat)
  | lesson (period room : Nat)
  deriving DecidableEq, Repr

/-- A mark of a register entry. -/
inductive EntryMark
  | present | late | absent
  deriving DecidableEq, Repr

/-- The marks of a register entry in order. -/
def entryMarks : List EntryMark := [.present, .late, .absent]

/-- A REGISTER that is not malformed (R95). -/
structure RegisterFrame where
  sequence : Nat
  target : RegisterTarget
  entries : List (Nat × EntryMark)
  deriving DecidableEq, Repr

/-- A target's kind as the frame encodes it. -/
inductive TargetKind
  | form | lesson
  deriving DecidableEq, Repr

/-- A register entry: pupil number and mark. -/
def takeEntry (bs : List Byte) : Option ((Nat × EntryMark) × List Byte) := do
  let (pupil, bs) ← takeNum 2 bs
  let (mark, bs) ← takeEnum entryMarks bs
  some ((pupil, mark), bs)

/-- A REGISTER's target from its kind byte and the two bytes after it; `none` makes the frame malformed (R95). -/
def takeTarget (bs : List Byte) : Option (RegisterTarget × List Byte) := do
  let (kind, bs) ← takeEnum [TargetKind.form, TargetKind.lesson] bs
  match kind with
  | .form =>
    let (s, bs) ← takeEnum sessionList bs
    let (group, bs) ← takeNum 1 bs
    if 127 < group then none else some (.form s group, bs)
  | .lesson =>
    let (period, bs) ← takeNum 1 bs
    let (room, bs) ← takeNum 1 bs
    if period = 0 ∨ 10 < period then none else some (.lesson period room, bs)

/-- A REGISTER; `none` when it is malformed (R95). -/
def decodeRegister (bs : List Byte) : Option RegisterFrame := do
  let (sequence, bs) ← takeNum 1 bs
  let (target, bs) ← takeTarget bs
  let (entries, bs) ← takeList 1 60 takeEntry bs
  finish ⟨sequence, target, entries⟩ bs

/-- The sequence byte of a payload, or 0 when it is too short to hold it, `at_` bytes in (R99, R156). -/
def sequenceAt (at_ : Nat) (bs : List Byte) : Nat := ((bs[at_]?).map (·.toNat)).getD 0

/-- A READY's credit. -/
def decodeReady (bs : List Byte) : Option Nat := do
  let (credit, bs) ← takeNum 1 bs
  finish credit bs

/-- An OUTCOME's notice number, attempt number and result. -/
def decodeOutcome (bs : List Byte) : Option (Nat × Nat × OutcomeResult) := do
  let (number, bs) ← takeNum 2 bs
  let (attempt, bs) ← takeNum 1 bs
  let (result, bs) ← takeEnum [OutcomeResult.delivered, .noAnswer, .badContact] bs
  finish (number, attempt, result) bs

/-- A PARENT_REPORT's fields; `none` when it is malformed (R111). -/
def decodeParentReport (bs : List Byte) : Option ParentReport := do
  let (handle, bs) ← takeHandle bs
  let (pupil, bs) ← takeNum 2 bs
  let (reason, bs) ← takeEnum reasonList bs
  let (offset, bs) ← takeNum 1 bs
  let (count, bs) ← takeNum 1 bs
  let (sessions, bs) ← takeEnum sessionsList bs
  finish ⟨handle, pupil, reason, offset, count, sessions⟩ bs

/-! ### Events (R175) -/

/-- An event's kind code (Table 2 of Chapter 2), and its two argument bytes. -/
def eventActBytes : EventAct → Nat × Nat × Nat
  | .bell => (0, 255, 255)
  | .sessionOpen s => (1, sessionList.idxOf s, 255)
  | .sessionStart s => (2, sessionList.idxOf s, 255)
  | .sessionClose s => (3, sessionList.idxOf s, 255)
  | .periodStart k => (4, k, 255)
  | .periodEnd k => (5, k, 255)
  | .gateMode m g => (6, m.toNat, gateModeList.idxOf g)
  | .noticeWindowOpen => (7, 255, 255)
  | .noticeWindowClose => (8, 255, 255)

/-- An event's kind and argument from its code and argument bytes. -/
def eventActOf (kind a b : Nat) : Option EventAct :=
  match kind with
  | 0 => some .bell
  | 1 => (sessionList[a]?).map .sessionOpen
  | 2 => (sessionList[a]?).map .sessionStart
  | 3 => (sessionList[a]?).map .sessionClose
  | 4 => some (.periodStart a)
  | 5 => some (.periodEnd a)
  | 6 => (gateModeList[b]?).map (.gateMode (BitVec.ofNat 8 a))
  | 7 => some .noticeWindowOpen
  | 8 => some .noticeWindowClose
  | _ => none

/-- An event's 11 bytes. -/
def putEvent (e : Event) : List Byte :=
  let (k, a, b) := eventActBytes e.act
  putNum 3 e.time ++ putNum 1 k ++ putZones e.zones ++ putNum 1 e.tone ++ putNum 1 e.duration ++ putFlag e.boundary
    ++ putNum 1 a ++ putNum 1 b

/-- Read an event. -/
def readEvent (bs : List Byte) : Option (Event × List Byte) := do
  let (time, bs) ← takeNum 3 bs
  let (k, bs) ← takeNum 1 bs
  let (zones, bs) ← takeZones bs
  let (tone, bs) ← takeNum 1 bs
  let (duration, bs) ← takeNum 1 bs
  let (boundary, bs) ← takeFlag bs
  let (a, bs) ← takeNum 1 bs
  let (b, bs) ← takeNum 1 bs
  let act ← eventActOf k a b
  some (⟨time, act, zones, tone, duration, boundary⟩, bs)

/-! ### Items of request lists -/

/-- A contact: handle, may_report, notify, channel. -/
def putContact (c : Contact) : List Byte :=
  putHandle c.handle ++ putFlag c.mayReport ++ putFlag c.notify ++ putEnum channelList c.channel

/-- Read a contact. -/
def takeContact (bs : List Byte) : Option (Contact × List Byte) := do
  let (handle, bs) ← takeHandle bs
  let (mayReport, bs) ← takeFlag bs
  let (notify, bs) ← takeFlag bs
  let (channel, bs) ← takeEnum channelList bs
  some (⟨handle, mayReport, notify, channel⟩, bs)

/-- A calendar entry: the plan number, or all ones for CLOSED (DESIGN CHOICE). -/
def putCalEntry : CalEntry → List Byte
  | .plan p => putNum 1 p
  | .closed => putNum 1 255

/-- Read a calendar entry. -/
def takeCalEntry (bs : List Byte) : Option (CalEntry × List Byte) :=
  (takeNum 1 bs).map fun r => (if r.1 = 255 then .closed else .plan r.1, r.2)

/-- A contact input's number and configuration. -/
def putInput (x : Nat × InputConfig) : List Byte :=
  putNum 1 x.1 ++ putEnum senseList x.2.sense ++ putNum 1 x.2.debounce ++ putEnum functionList x.2.function
    ++ putZones x.2.zones ++ putNum 1 x.2.tone ++ putNum 1 x.2.duration ++ putFlag x.2.override

/-- Read a contact input's number and configuration. -/
def takeInput (bs : List Byte) : Option ((Nat × InputConfig) × List Byte) := do
  let (n, bs) ← takeNum 1 bs
  let (sense, bs) ← takeEnum senseList bs
  let (debounce, bs) ← takeNum 1 bs
  let (function, bs) ← takeEnum functionList bs
  let (zones, bs) ← takeZones bs
  let (tone, bs) ← takeNum 1 bs
  let (duration, bs) ← takeNum 1 bs
  let (override, bs) ← takeStrictFlag bs
  some ((n, ⟨sense, debounce, function, zones, tone, duration, override⟩), bs)

/-- A template entry. -/
def putTemplate (x : NoticeReason × Nat) : List Byte := putEnum noticeReasonList x.1 ++ putNum 1 x.2

/-- Read a template entry. -/
def takeTemplate (bs : List Byte) : Option ((NoticeReason × Nat) × List Byte) := do
  let (reason, bs) ← takeEnum noticeReasonList bs
  let (template, bs) ← takeNum 1 bs
  some ((reason, template), bs)

/-- A parameter item: the parameter, its value and the gate, absent when none is named. -/
def putItem (x : ParamItem) : List Byte := putEnum paramList x.name ++ putNum 2 x.value ++ putOpt 1 x.gate

/-- Read a parameter item. -/
def takeItem (bs : List Byte) : Option (ParamItem × List Byte) := do
  let (name, bs) ← takeEnum paramList bs
  let (value, bs) ← takeNum 2 bs
  let (gate, bs) ← takeOpt 1 bs
  some (⟨name, value, gate⟩, bs)

/-! ### Requests (Table 3 of Chapter 9) -/

/-- A request's kind code: its position in Table 3 of Chapter 9. -/
def requestCode : Request → Nat
  | .loadRoll _ => 0
  | .readRoll _ => 1
  | .dropRoll _ => 2
  | .loadFamily _ _ _ => 3
  | .readFamily _ => 4
  | .setMark _ _ _ => 5
  | .adjustCounts _ => 6
  | .loadCalendar _ _ => 7
  | .stagePlan _ => 8
  | .setClock _ _ => 9
  | .loadPlan _ _ _ _ => 10
  | .readPlanPlan _ _ => 11
  | .readPlanCalendar _ _ => 11
  | .readClock => 12
  | .ring _ _ _ _ => 13
  | .loadInputs _ => 14
  | .setRelay _ _ _ => 15
  | .setGateMode _ _ => 16
  | .answerReferral _ _ _ => 17
  | .readMovements _ _ => 18
  | .readGates => 19
  | .readWindows _ _ _ => 20
  | .addExcuse _ => 21
  | .removeExcuse _ _ _ => 22
  | .readExcuses _ _ _ => 23
  | .sendNotice _ _ _ => 24
  | .readNotices _ _ _ => 25
  | .loadTemplates _ => 26
  | .loadStation _ => 27
  | .loadPollList _ _ => 28
  | .readPortsPorts _ => 29
  | .readPortsStations _ _ => 29
  | .readPortsPollList _ => 29
  | .setParams _ => 30
  | .readParams => 31
  | .restart => 32
  | .clearAll => 33

/-- A request's arguments in the order its rule names them. DESIGN CHOICE, log 20, unsafe: the layouts Chapter 11
leaves open, and 1 byte for the count arguments of READ_MOVEMENTS (R85), READ_EXCUSES (R122), READ_NOTICES (R142) and
READ_PORTS STATIONS (R157), for which no rule states a range. -/
def requestArgs : Request → List Byte
  | .loadRoll a =>
    putNum 2 a.pupil ++ putList putHandle a.tokens ++ putNum 1 a.form ++ putNum 1 a.year ++ putNum 2 a.family
      ++ putFlag a.referOnArrival ++ putFlag a.noSelfExit
  | .readRoll (.pupil n) => putNum 1 0 ++ putNum 2 n
  | .readRoll (.slot n) => putNum 1 1 ++ putNum 2 n
  | .dropRoll p => putNum 2 p
  | .loadFamily f held cs => putNum 2 f ++ putFlag held ++ putList putContact cs
  | .readFamily f => putNum 2 f
  | .setMark p x c => putNum 2 p ++ putEnum sessionList x ++ putEnum markCodes c
  | .adjustCounts a =>
    putNum 2 a.pupil ++ putNum 2 a.p ++ putNum 2 a.a ++ putNum 2 a.u ++ putNum 2 a.lateCount
      ++ putNum 2 a.lateMinutes ++ putEnum concernList a.concern
  | .loadCalendar first es => putNum 2 first ++ putList putCalEntry es
  | .stagePlan p => putNum 1 p
  | .setClock d t => putNum 2 d ++ putNum 3 t
  | .loadPlan p start es final => putNum 1 p ++ putNum 1 start ++ putList putEvent es ++ putFlag final
  | .readPlanPlan p start => putNum 1 0 ++ putNum 1 p ++ putNum 1 start
  | .readPlanCalendar first count => putNum 1 1 ++ putNum 2 first ++ putNum 1 count
  | .readClock => []
  | .ring z tone d o => putZones z ++ putNum 1 tone ++ putNum 1 d ++ putFlag o
  | .loadInputs es => putList putInput es
  | .setRelay r o z => putNum 1 r ++ putEnum overrideList o ++ putOpt 1 z
  | .setGateMode m g => putNum 1 m.toNat ++ putEnum gateModeList g
  | .answerReferral g n d => putNum 1 g ++ putNum 1 n ++ putEnum decisionList d
  | .readMovements start count => putNum 2 start ++ putNum 1 count
  | .readGates => []
  | .readWindows x first count => putEnum sessionList x ++ putNum 1 first ++ putNum 1 count
  | .addExcuse a =>
    putNum 2 a.pupil ++ putNum 1 a.offset ++ putNum 1 a.count ++ putEnum sessionsList a.sessions
      ++ putEnum reasonList a.reason
  | .removeExcuse p first last => putNum 2 p ++ putNum 2 first ++ putNum 2 last
  | .readExcuses .all start count => putNum 1 0 ++ putNum 1 start ++ putNum 1 count
  | .readExcuses (.pupil n) start count => putNum 1 1 ++ putNum 2 n ++ putNum 1 start ++ putNum 1 count
  | .sendNotice f t ps => putNum 2 f ++ putNum 1 t ++ putList (putNum 2) ps
  | .readNotices .all start count => putNum 1 0 ++ putNum 1 start ++ putNum 1 count
  | .readNotices (.family n) start count => putNum 1 1 ++ putNum 2 n ++ putNum 1 start ++ putNum 1 count
  | .readNotices (.number n) start count => putNum 1 2 ++ putNum 2 n ++ putNum 1 start ++ putNum 1 count
  | .loadTemplates es => putList putTemplate es
  | .loadStation a =>
    putNum 1 a.entry ++ [a.address, a.mask] ++ putNum 1 a.segment ++ putEnum stationKindList a.kind
      ++ putNum 1 a.unit ++ putFlag a.enabled
  | .loadPollList g as => putNum 1 g ++ putList (fun a => [a]) as
  | .readPortsPorts clear => putNum 1 0 ++ putFlag clear
  | .readPortsStations first count => putNum 1 1 ++ putNum 1 first ++ putNum 1 count
  | .readPortsPollList g => putNum 1 2 ++ putNum 1 g
  | .setParams items => putList putItem items
  | .readParams => []
  | .restart => []
  | .clearAll => []

/-- A REQUEST's payload: the request kind and its arguments. -/
def encodeRequest (r : Request) : List Byte := putNum 1 (requestCode r) ++ requestArgs r

/-- Arguments of LOAD_ROLL. -/
def takeLoadRoll (bs : List Byte) : Option Request := do
  let (pupil, bs) ← takeNum 2 bs
  let (tokens, bs) ← takeList 1 2 takeHandle bs
  let (form, bs) ← takeNum 1 bs
  let (year, bs) ← takeNum 1 bs
  let (family, bs) ← takeNum 2 bs
  let (refer, bs) ← takeFlag bs
  let (noExit, bs) ← takeFlag bs
  finish (.loadRoll ⟨pupil, tokens, form, year, family, refer, noExit⟩) bs

/-- Arguments of READ_ROLL. -/
def takeReadRoll (bs : List Byte) : Option Request := do
  let (sel, bs) ← takeEnum [RollSelector.pupil, RollSelector.slot] bs
  let (n, bs) ← takeNum 2 bs
  finish (.readRoll (sel n)) bs

/-- Arguments of LOAD_FAMILY. -/
def takeLoadFamily (bs : List Byte) : Option Request := do
  let (family, bs) ← takeNum 2 bs
  let (held, bs) ← takeFlag bs
  let (contacts, bs) ← takeList 1 4 takeContact bs
  finish (.loadFamily family held contacts) bs

/-- Arguments of SET_MARK. -/
def takeSetMark (bs : List Byte) : Option Request := do
  let (pupil, bs) ← takeNum 2 bs
  let (x, bs) ← takeEnum sessionList bs
  let (code, bs) ← takeEnum markCodes bs
  finish (.setMark pupil x code) bs

/-- Arguments of ADJUST_COUNTS. -/
def takeAdjust (bs : List Byte) : Option Request := do
  let (pupil, bs) ← takeNum 2 bs
  let (p, bs) ← takeNum 2 bs
  let (a, bs) ← takeNum 2 bs
  let (u, bs) ← takeNum 2 bs
  let (lateCount, bs) ← takeNum 2 bs
  let (lateMinutes, bs) ← takeNum 2 bs
  let (concern, bs) ← takeEnum concernList bs
  finish (.adjustCounts ⟨pupil, p, a, u, lateCount, lateMinutes, concern⟩) bs

/-- Arguments of LOAD_CALENDAR. -/
def takeCalendar (bs : List Byte) : Option Request := do
  let (first, bs) ← takeNum 2 bs
  let (entries, bs) ← takeList 1 200 takeCalEntry bs
  finish (.loadCalendar first entries) bs

/-- Arguments of SET_CLOCK. -/
def takeSetClock (bs : List Byte) : Option Request := do
  let (day, bs) ← takeNum 2 bs
  let (second, bs) ← takeNum 3 bs
  finish (.setClock day second) bs

/-- Arguments of LOAD_PLAN. -/
def takeLoadPlan (bs : List Byte) : Option Request := do
  let (plan, bs) ← takeNum 1 bs
  let (start, bs) ← takeNum 1 bs
  let (events, bs) ← takeList 0 16 readEvent bs
  let (final, bs) ← takeFlag bs
  finish (.loadPlan plan start events final) bs

/-- Arguments of READ_PLAN. -/
def takeReadPlan (bs : List Byte) : Option Request := do
  let (sel, bs) ← takeEnum [false, true] bs
  if sel then
    let (first, bs) ← takeNum 2 bs
    let (count, bs) ← takeNum 1 bs
    finish (.readPlanCalendar first count) bs
  else
    let (p, bs) ← takeNum 1 bs
    let (start, bs) ← takeNum 1 bs
    finish (.readPlanPlan p start) bs

/-- Arguments of RING. -/
def takeRing (bs : List Byte) : Option Request := do
  let (zones, bs) ← takeZones bs
  let (tone, bs) ← takeNum 1 bs
  let (duration, bs) ← takeNum 1 bs
  let (override, bs) ← takeFlag bs
  finish (.ring zones tone duration override) bs

/-- Arguments of LOAD_INPUTS. -/
def takeLoadInputs (bs : List Byte) : Option Request := do
  let (entries, bs) ← takeList 1 8 takeInput bs
  finish (.loadInputs entries) bs

/-- Arguments of SET_RELAY. -/
def takeSetRelay (bs : List Byte) : Option Request := do
  let (relay, bs) ← takeNum 1 bs
  let (override, bs) ← takeEnum overrideList bs
  let (zone, bs) ← takeOpt 1 bs
  finish (.setRelay relay override zone) bs

/-- Arguments of SET_GATE_MODE. -/
def takeSetGateMode (bs : List Byte) : Option Request := do
  let (mask, bs) ← takeByte bs
  let (mode, bs) ← takeEnum gateModeList bs
  finish (.setGateMode mask mode) bs

/-- Arguments of ANSWER_REFERRAL. -/
def takeAnswerReferral (bs : List Byte) : Option Request := do
  let (gate, bs) ← takeNum 1 bs
  let (number, bs) ← takeNum 1 bs
  let (decision, bs) ← takeEnum decisionList bs
  finish (.answerReferral gate number decision) bs

/-- Arguments of READ_MOVEMENTS. DESIGN CHOICE, log 20, unsafe: its count (R85) has no stated range and takes 1 byte. -/
def takeReadMovements (bs : List Byte) : Option Request := do
  let (start, bs) ← takeNum 2 bs
  let (count, bs) ← takeNum 1 bs
  finish (.readMovements start count) bs

/-- Arguments of READ_WINDOWS. -/
def takeReadWindows (bs : List Byte) : Option Request := do
  let (x, bs) ← takeEnum sessionList bs
  let (first, bs) ← takeNum 1 bs
  let (count, bs) ← takeNum 1 bs
  finish (.readWindows x first count) bs

/-- Arguments of ADD_EXCUSE. -/
def takeAddExcuse (bs : List Byte) : Option Request := do
  let (pupil, bs) ← takeNum 2 bs
  let (offset, bs) ← takeNum 1 bs
  let (count, bs) ← takeNum 1 bs
  let (sessions, bs) ← takeEnum sessionsList bs
  let (reason, bs) ← takeEnum reasonList bs
  finish (.addExcuse ⟨pupil, offset, count, sessions, reason⟩) bs

/-- Arguments of REMOVE_EXCUSE. -/
def takeRemoveExcuse (bs : List Byte) : Option Request := do
  let (pupil, bs) ← takeNum 2 bs
  let (first, bs) ← takeNum 2 bs
  let (last, bs) ← takeNum 2 bs
  finish (.removeExcuse pupil first last) bs

/-- The selector of READ_EXCUSES. -/
def takeExcuseSelector (bs : List Byte) : Option (ExcuseSelector × List Byte) := do
  let (sel, bs) ← takeEnum [false, true] bs
  if sel then
    let (n, bs) ← takeNum 2 bs
    some (.pupil n, bs)
  else some (.all, bs)

/-- Arguments of READ_EXCUSES. DESIGN CHOICE, log 20, unsafe: its count (R122) has no stated range and takes 1 byte. -/
def takeReadExcuses (bs : List Byte) : Option Request := do
  let (sel, bs) ← takeExcuseSelector bs
  let (start, bs) ← takeNum 1 bs
  let (count, bs) ← takeNum 1 bs
  finish (.readExcuses sel start count) bs

/-- Arguments of SEND_NOTICE. -/
def takeSendNotice (bs : List Byte) : Option Request := do
  let (family, bs) ← takeNum 2 bs
  let (template, bs) ← takeNum 1 bs
  let (pupils, bs) ← takeList 1 4 (takeNum 2) bs
  finish (.sendNotice family template pupils) bs

/-- The selector of READ_NOTICES. -/
def takeNoticeSelector (bs : List Byte) : Option (NoticeSelector × List Byte) := do
  let (sel, bs) ← takeNum 1 bs
  match sel with
  | 0 => some (.all, bs)
  | 1 =>
    let (n, bs) ← takeNum 2 bs
    some (.family n, bs)
  | 2 =>
    let (n, bs) ← takeNum 2 bs
    some (.number n, bs)
  | _ => none

/-- Arguments of READ_NOTICES. DESIGN CHOICE, log 20, unsafe: its count (R142) has no stated range and takes 1 byte. -/
def takeReadNotices (bs : List Byte) : Option Request := do
  let (sel, bs) ← takeNoticeSelector bs
  let (start, bs) ← takeNum 1 bs
  let (count, bs) ← takeNum 1 bs
  finish (.readNotices sel start count) bs

/-- Arguments of LOAD_TEMPLATES. -/
def takeLoadTemplates (bs : List Byte) : Option Request := do
  let (entries, bs) ← takeList 1 4 takeTemplate bs
  finish (.loadTemplates entries) bs

/-- Arguments of LOAD_STATION. -/
def takeLoadStation (bs : List Byte) : Option Request := do
  let (entry, bs) ← takeNum 1 bs
  let (address, bs) ← takeByte bs
  let (mask, bs) ← takeByte bs
  let (segment, bs) ← takeNum 1 bs
  let (kind, bs) ← takeEnum stationKindList bs
  let (unit, bs) ← takeNum 1 bs
  let (enabled, bs) ← takeFlag bs
  finish (.loadStation ⟨entry, address, mask, segment, kind, unit, enabled⟩) bs

/-- Arguments of LOAD_POLL_LIST. -/
def takeLoadPollList (bs : List Byte) : Option Request := do
  let (segment, bs) ← takeNum 1 bs
  let (addresses, bs) ← takeList 0 32 takeByte bs
  finish (.loadPollList segment addresses) bs

/-- Arguments of READ_PORTS. DESIGN CHOICE, log 20, unsafe: the count of STATIONS (R157) has no stated range and takes 1
byte. -/
def takeReadPorts (bs : List Byte) : Option Request := do
  let (sel, bs) ← takeNum 1 bs
  match sel with
  | 0 =>
    let (clear, bs) ← takeStrictFlag bs
    finish (.readPortsPorts clear) bs
  | 1 =>
    let (first, bs) ← takeNum 1 bs
    let (count, bs) ← takeNum 1 bs
    finish (.readPortsStations first count) bs
  | 2 =>
    let (segment, bs) ← takeNum 1 bs
    finish (.readPortsPollList segment) bs
  | _ => none

/-- Arguments of SET_PARAMS. -/
def takeSetParams (bs : List Byte) : Option Request := do
  let (items, bs) ← takeList 1 16 takeItem bs
  finish (.setParams items) bs

/-- One number of `n` bytes, alone. -/
def takeOnly (n : Nat) (mk : Nat → Request) (bs : List Byte) : Option Request := do
  let (v, bs) ← takeNum n bs
  finish (mk v) bs

/-- The arguments of each request kind; `none` when they lack the layout of the kind, or when there is no such kind. -/
def decodeArgs (code : Nat) (bs : List Byte) : Option Request :=
  match code with
  | 0 => takeLoadRoll bs
  | 1 => takeReadRoll bs
  | 2 => takeOnly 2 .dropRoll bs
  | 3 => takeLoadFamily bs
  | 4 => takeOnly 2 .readFamily bs
  | 5 => takeSetMark bs
  | 6 => takeAdjust bs
  | 7 => takeCalendar bs
  | 8 => takeOnly 1 .stagePlan bs
  | 9 => takeSetClock bs
  | 10 => takeLoadPlan bs
  | 11 => takeReadPlan bs
  | 12 => finish .readClock bs
  | 13 => takeRing bs
  | 14 => takeLoadInputs bs
  | 15 => takeSetRelay bs
  | 16 => takeSetGateMode bs
  | 17 => takeAnswerReferral bs
  | 18 => takeReadMovements bs
  | 19 => finish .readGates bs
  | 20 => takeReadWindows bs
  | 21 => takeAddExcuse bs
  | 22 => takeRemoveExcuse bs
  | 23 => takeReadExcuses bs
  | 24 => takeSendNotice bs
  | 25 => takeReadNotices bs
  | 26 => takeLoadTemplates bs
  | 27 => takeLoadStation bs
  | 28 => takeLoadPollList bs
  | 29 => takeReadPorts bs
  | 30 => takeSetParams bs
  | 31 => finish .readParams bs
  | 32 => finish .restart bs
  | 33 => finish .clearAll bs
  | _ => none

/-- A REQUEST's payload read back (R160, R176). -/
def decodeRequest (bs : List Byte) : Option Request :=
  match takeNum 1 bs with
  | none => none
  | some (code, rest) => decodeArgs code rest

/-- Whether the counts of a request already in fields lie in the ranges its layout allows (R176). -/
def countsOk : Request → Bool
  | .loadRoll a => 1 ≤ a.tokens.length && a.tokens.length ≤ 2
  | .loadFamily _ _ cs => 1 ≤ cs.length && cs.length ≤ 4
  | .loadCalendar _ es => 1 ≤ es.length && es.length ≤ 200
  | .loadPlan _ _ es _ => es.length ≤ 16
  | .loadInputs es => 1 ≤ es.length && es.length ≤ 8
  | .sendNotice _ _ ps => 1 ≤ ps.length && ps.length ≤ 4
  | .loadTemplates es => 1 ≤ es.length && es.length ≤ 4
  | .loadPollList _ as => as.length ≤ 32
  | .setParams items => 1 ≤ items.length && items.length ≤ 16
  | .readRoll _ => true
  | .dropRoll _ => true
  | .readFamily _ => true
  | .setMark _ _ _ => true
  | .adjustCounts _ => true
  | .stagePlan _ => true
  | .setClock _ _ => true
  | .readPlanPlan _ _ => true
  | .readPlanCalendar _ _ => true
  | .readClock => true
  | .ring _ _ _ _ => true
  | .setRelay _ _ _ => true
  | .setGateMode _ _ => true
  | .answerReferral _ _ _ => true
  | .readMovements _ _ => true
  | .readGates => true
  | .readWindows _ _ _ => true
  | .addExcuse _ => true
  | .removeExcuse _ _ _ => true
  | .readExcuses _ _ _ => true
  | .readNotices _ _ _ => true
  | .loadStation _ => true
  | .readPortsPorts _ => true
  | .readPortsStations _ _ => true
  | .readPortsPollList _ => true
  | .readParams => true
  | .restart => true
  | .clearAll => true

end Sys2Proof.Machine
end

