-- ==== Sys2Proof/Machine/Roll.lean ====
section
/-! DEFINITION. The Roll Store's marks and on-site states (Chapter 1): the merge table, mark requests, on-site
changes, and the seven roll requests. -/

namespace Sys2Proof.Machine

open Sys2Proof

/-! ### The merge table (R8, R9, R10) -/

/-- A kind of mark request (Table 5 of Chapter 1). -/
inductive MarkRequest
  | regPresent | regLate | regAbsent | gateLate | gateLateClosed | excuse
  | close (verdict : MarkCode)
  | officeSet (x : MarkCode)
  deriving DecidableEq, Repr

/-- The source a request's kind writes (Table 3 of Chapter 1). -/
def requestSource : MarkRequest → MarkSource
  | .regPresent => .register
  | .regLate => .register
  | .regAbsent => .register
  | .gateLate => .gate
  | .gateLateClosed => .gate
  | .excuse => .excuse
  | .close _ => .close
  | .officeSet _ => .office

/-- What REG_ABSENT makes of a PRESENT or LATE mark (R10). -/
def absentOverSeen (m : Mark) : Option MarkCode := if m.source = some .register then some .absent else none

/-- The code Table C gives a request against a mark; `none` is "unchanged" (R9). -/
def mergeCode (k : MarkRequest) (m : Mark) : Option MarkCode :=
  match k, m.code with
  | .officeSet x, _ => some x
  | _, .offsite => none
  | _, .notRequired => none
  | .regPresent, .untaken => some .present
  | .regPresent, .present => some .present
  | .regPresent, .late => some .late
  | .regPresent, .lateAfterClose => none
  | .regPresent, .absent => some .present
  | .regPresent, .excused => some .present
  | .regLate, .untaken => some .late
  | .regLate, .present => some .late
  | .regLate, .late => some .late
  | .regLate, .lateAfterClose => none
  | .regLate, .absent => some .late
  | .regLate, .excused => some .late
  | .regAbsent, .untaken => some .absent
  | .regAbsent, .present => absentOverSeen m
  | .regAbsent, .late => absentOverSeen m
  | .regAbsent, .lateAfterClose => none
  | .regAbsent, .absent => some .absent
  | .regAbsent, .excused => some .excused
  | .gateLate, .untaken => some .late
  | .gateLate, .present => some .present
  | .gateLate, .late => some .late
  | .gateLate, .lateAfterClose => none
  | .gateLate, .absent => some .late
  | .gateLate, .excused => some .late
  | .gateLateClosed, .untaken => some .lateAfterClose
  | .gateLateClosed, .present => some .present
  | .gateLateClosed, .late => some .late
  | .gateLateClosed, .lateAfterClose => none
  | .gateLateClosed, .absent => some .lateAfterClose
  | .gateLateClosed, .excused => some .excused
  | .excuse, .untaken => some .excused
  | .excuse, .present => none
  | .excuse, .late => none
  | .excuse, .lateAfterClose => some .excused
  | .excuse, .absent => some .excused
  | .excuse, .excused => some .excused
  | .close v, .untaken => some v
  | .close _, .present => none
  | .close _, .late => none
  | .close _, .lateAfterClose => none
  | .close _, .absent => none
  | .close _, .excused => none

/-- Whether a REG_ABSENT meets a pupil seen by another source (R10). -/
def missingOnSite (k : MarkRequest) (m : Mark) : Bool :=
  k == .regAbsent && (m.code == .present || m.code == .late) && m.source != some .register

/-- Whether a written code shows the pupil on site (R11, R12). -/
def showsOnSite : MarkCode → Bool
  | .present => true
  | .late => true
  | .lateAfterClose => true
  | .untaken => false
  | .absent => false
  | .excused => false
  | .offsite => false
  | .notRequired => false

/-! ### On-site state (R12, R86) -/

/-- The on-site count after a pupil's state changes (R86). -/
def adjustOnSite (old new : OnSite) (s : State) : State :=
  if old = new then s
  else if new = .onSite then s.modGate fun g => { g with onSiteCount := g.onSiteCount + 1 }
  else if old = .onSite then s.modGate fun g => { g with onSiteCount := g.onSiteCount - 1 }
  else s

/-- Give the pupil in a slot an on-site state, passing the on-site notification (R12). -/
def setOnSite (slot : Nat) (st : OnSite) (s : State) : State :=
  match entryAt s slot with
  | none => s
  | some e => adjustOnSite e.day.onSite st (modEntry slot (fun e => { e with day := { e.day with onSite := st } }) s)

/-- An OFF_SITE pupil becomes ON_SITE; any other keeps the state (R12). -/
def arriveOffSite (slot : Nat) (s : State) : State :=
  match entryAt s slot with
  | none => s
  | some e => if e.day.onSite = .offSite then setOnSite slot .onSite s else s

/-! ### Mark requests (R8, R11) -/

/-- The session mark of a slot. -/
def markAt (s : State) (slot : Nat) (x : Session) : Mark :=
  match entryAt s slot with
  | none => clearedMark
  | some e => e.day.marks.get x

/-- Write a session mark, with the effects of R11. -/
def writeMark (slot : Nat) (x : Session) (old : Mark) (new : Mark) (s : State) : State :=
  let s := modEntry slot (fun e => { e with day := { e.day with marks := e.day.marks.set x new } }) s
  let s := if showsOnSite new.code then arriveOffSite slot s else s
  if new.code = old.code then s else markChanged slot x old.code new.code s

/-- Apply a mark request whole (R8): merge, write, and the MISSING_ON_SITE alert of R10. -/
def requestMark (slot : Nat) (x : Session) (k : MarkRequest) (s : State) : State :=
  match entryAt s slot with
  | none => s
  | some e =>
    let m := e.day.marks.get x
    match mergeCode k m with
    | some c => writeMark slot x m ⟨c, some (requestSource k)⟩ s
    | none => if missingOnSite k m then alert (.missingOnSite e.pupil x m.code m.source) s else s

/-! ### Roll requests (R21 to R27) -/

/-- BAD_ARG of LOAD_ROLL (R21). -/
def badLoadRoll (a : LoadRollArgs) : Bool :=
  !pupilInRange a.pupil || a.tokens.isEmpty || 2 < a.tokens.length || a.tokens.contains 0 || !a.tokens.Nodup
    || 127 < a.form || a.year < 7 || 13 < a.year || 2047 < a.family

/-- Whether another pupil holds one of the tokens (R21). -/
def tokenTaken (s : State) (a : LoadRollArgs) : Bool :=
  s.roll.roll.any fun p => p.2.pupil != a.pupil && p.2.tokens.any a.tokens.contains

/-- An entry with the identity fields of LOAD_ROLL. -/
def withIdentity (a : LoadRollArgs) (e : RollEntry) : RollEntry :=
  { e with pupil := a.pupil, tokens := a.tokens, form := a.form, year := a.year, family := a.family,
           referOnArrival := a.referOnArrival, noSelfExit := a.noSelfExit }

/-- A new entry of LOAD_ROLL (R21, R13, Table 2 of Chapter 1). -/
def newEntry (a : LoadRollArgs) (today : Nat) : RollEntry :=
  { pupil := a.pupil, tokens := a.tokens, form := a.form, year := a.year, family := a.family,
    referOnArrival := a.referOnArrival, noSelfExit := a.noSelfExit, recordDay := today, day := clearedDay,
    term := newTerm }

/-- LOAD_ROLL (R21). -/
def reqLoadRoll (a : LoadRollArgs) (s : State) : State × Status × ReplyData :=
  if writersHeld s || walkRunning s then refuse .busy s
  else if badLoadRoll a then refuse .badArg s
  else if tokenTaken s a then refuse .duplicate s
  else
    match findPupil s a.pupil with
    | some (slot, e) =>
      if e.form ≠ a.form ∧ anyFormOpen s = true then refuse .state s
      else served (.loadedRoll slot false) (modEntry slot (withIdentity a) s)
    | none =>
      match firstEmptySlot s with
      | none => refuse .full s
      | some slot =>
        if anyFormOpen s then refuse .state s
        else served (.loadedRoll slot true)
          (s.modRoll fun u => { u with roll := tabInsert slot (newEntry a s.sched.day) u.roll })

/-- The READ_ROLL data of an entry (R22). -/
def rollData (s : State) (slot : Nat) (e : RollEntry) : ReplyData :=
  .rollEntry slot e ⟨absenceDue s e .am, absenceDue s e .pm⟩ (attendance e.term)
    (((nextFilledSlot s (slot + 1)).map Prod.fst).getD Config.rollSlots)

/-- The entry a READ_ROLL selector names (R22). -/
def selectRoll (s : State) : RollSelector → Option (Nat × RollEntry)
  | .pupil n => findPupil s n
  | .slot n => nextFilledSlot s n

/-- BAD_ARG of READ_ROLL (R22). -/
def badRollSelector : RollSelector → Bool
  | .pupil _ => false
  | .slot n => 3071 < n

/-- READ_ROLL (R22). -/
def reqReadRoll (sel : RollSelector) (s : State) : State × Status × ReplyData :=
  if badRollSelector sel then refuse .badArg s
  else
    match selectRoll s sel with
    | none => refuse .notFound s
    | some (slot, e) => served (rollData s slot e) s

/-- A pupil leaves every QUEUED record of the given list that lists it (R23). DESIGN CHOICE, log 21, unsafe: in queue
order, which is the order of their WITHDRAWN reports. -/
def leaveNotices (pupil : Nat) : List Notice → State → State
  | [], s => s
  | n :: ns, s =>
    leaveNotices pupil ns
      (if n.state = .queued ∧ n.pupils.any (fun p => p.1 == pupil) = true then leavePupil n pupil s else s)

/-- Empty a filled slot (R23): its on-site notification, its queued notices, its excuses, and the slot itself. -/
def dropSlot (slot : Nat) (e : RollEntry) (s : State) : State :=
  let s := adjustOnSite e.day.onSite .offSite s
  let s := leaveNotices e.pupil s.msg.notices s
  let s := s.modRoll fun u => { u with excuses := u.excuses.filter fun x => x.slot != slot }
  s.modRoll fun u => { u with roll := tabErase slot u.roll }

/-- DROP_ROLL (R23). -/
def reqDropRoll (pupil : Nat) (s : State) : State × Status × ReplyData :=
  if writersHeld s || walkRunning s then refuse .busy s
  else if !pupilInRange pupil then refuse .badArg s
  else
    match findPupil s pupil with
    | none => refuse .notFound s
    | some (slot, e) =>
      if heldAtGate s slot || anyFormOpen s then refuse .state s
      else served (.slot slot) (tryOffers (dropSlot slot e s))

/-- BAD_ARG of LOAD_FAMILY (R24). -/
def badContacts (family : Nat) (cs : List Contact) : Bool :=
  2047 < family || cs.isEmpty || 4 < cs.length || cs.any fun c => c.handle == 0

/-- Re-seat the QUEUED records of a family at the new list's first notify contact, or let them fail (R24). DESIGN
CHOICE, log 21, unsafe: in queue order, which is the order of their reports and alerts. -/
def reseatNotices (family : Nat) (position : Option Nat) : List Notice → State → State
  | [], s => s
  | n :: ns, s =>
    reseatNotices family position ns
      (if n.family = family ∧ n.state = .queued then
        match position with
        | some i => modNotice n (fun n => { n with position := i }) s
        | none => leaveQueue n .contactFailed s
      else s)

/-- LOAD_FAMILY (R24). -/
def reqLoadFamily (family : Nat) (held : Bool) (cs : List Contact) (s : State) : State × Status × ReplyData :=
  if writersHeld s then refuse .busy s
  else if badContacts family cs then refuse .badArg s
  else if !(cs.map (·.handle)).Nodup then refuse .duplicate s
  else if s.msg.notices.any fun n => n.family == family && n.state != .queued then refuse .state s
  else
    let s := s.modRoll fun u => { u with families := tabInsert family ⟨held, cs⟩ u.families }
    served .none (tryOffers (reseatNotices family (firstNotify cs) s.msg.notices s))

/-- READ_FAMILY (R25). -/
def reqReadFamily (family : Nat) (s : State) : State × Status × ReplyData :=
  if 2047 < family then refuse .badArg s
  else
    match tabFind s.roll.families family with
    | none => refuse .notFound s
    | some f => served (.family f) s

/-- SET_MARK (R26). -/
def reqSetMark (pupil : Nat) (x : Session) (code : MarkCode) (s : State) : State × Status × ReplyData :=
  if writersHeld s then refuse .busy s
  else if !pupilInRange pupil then refuse .badArg s
  else
    match findPupil s pupil with
    | none => refuse .notFound s
    | some (slot, e) =>
      let old := (e.day.marks.get x).code
      if (old = .notRequired ∨ code = .notRequired) ∧ formOpen s x = true then refuse .state s
      else served (.markChange old code) (tryOffers (requestMark slot x (.officeSet code) s))

/-- The concern flag after ADJUST_COUNTS (R27). -/
def adjustConcern (c : ConcernArg) (old : Bool) : Bool :=
  match c with
  | .set => true
  | .clear => false
  | .keep => old

/-- The term record ADJUST_COUNTS stores, its counters clamped (R27). -/
def adjustedTerm (a : AdjustArgs) (old : TermRecord) : TermRecord :=
  { p := min 1023 a.p, a := min 1023 a.a, u := min 1023 a.u, lateCount := min 1023 a.lateCount,
    lateMinutes := min 65535 a.lateMinutes, concern := adjustConcern a.concern old.concern }

/-- ADJUST_COUNTS (R27). -/
def reqAdjustCounts (a : AdjustArgs) (s : State) : State × Status × ReplyData :=
  if writersHeld s then refuse .busy s
  else
    match findPupil s a.pupil with
    | none => refuse .notFound s
    | some (slot, e) =>
      let t := adjustedTerm a e.term
      if t.p < t.a then refuse .badArg s
      else served (.term t (attendance t)) (modEntry slot (fun e => { e with term := t }) s)

end Sys2Proof.Machine
end

