-- ==== Sys2Proof/Machine/Excuse.lean ====
section
/-! DEFINITION. Excuses (Chapter 6): the range handling of the excuse table, parent reports, the three excuse requests,
and excuses at settlement. -/

namespace Sys2Proof.Machine

open Sys2Proof

/-! ### Sessions of an excuse -/

/-- Whether a set of sessions contains a session. -/
def hasSession : Sessions → Session → Bool
  | .am, .am => true
  | .am, .pm => false
  | .pm, .am => false
  | .pm, .pm => true
  | .both, .am => true
  | .both, .pm => true

/-- Whether two sets of sessions share a session. -/
def sessionsMeet (m n : Sessions) : Bool :=
  (hasSession m .am && hasSession n .am) || (hasSession m .pm && hasSession n .pm)

/-- The sessions of `m` that are not in `n`, if any. -/
def sessionsOutside (m n : Sessions) : Option Sessions :=
  match hasSession m .am && !hasSession n .am, hasSession m .pm && !hasSession n .pm with
  | true, true => some .both
  | true, false => some .am
  | false, true => some .pm
  | false, false => none

/-- The sessions of a set, AM before PM. -/
def sessionsOf : Sessions → List Session
  | .am => [.am]
  | .pm => [.pm]
  | .both => [.am, .pm]

/-- Whether an entry covers a day and session (R110). -/
def excuseCovers (e : Excuse) (d : Nat) (x : Session) : Bool := e.first ≤ d && d ≤ e.last && hasSession e.sessions x

/-! ### Trim, join and merge (R114, R115) -/

/-- Whether an entry is visited by the trim of a range (R114). -/
def excuseMeets (slot d1 d2 : Nat) (n : Sessions) (e : Excuse) : Bool :=
  e.slot == slot && sessionsMeet e.sessions n && e.first ≤ d2 && d1 ≤ e.last

/-- The left piece of a trimmed entry (Table 3 of Chapter 6). -/
def leftPiece (d1 : Nat) (e : Excuse) : List Excuse := if e.first < d1 then [{ e with last := d1 - 1 }] else []

/-- The middle piece of a trimmed entry. -/
def middlePiece (d1 d2 : Nat) (n : Sessions) (e : Excuse) : List Excuse :=
  match sessionsOutside e.sessions n with
  | some m => [{ e with first := max e.first d1, last := min e.last d2, sessions := m }]
  | none => []

/-- The right piece of a trimmed entry. -/
def rightPiece (d2 : Nat) (e : Excuse) : List Excuse := if d2 < e.last then [{ e with first := d2 + 1 }] else []

/-- The pieces of a trimmed entry that are present, in their order (Table 3 of Chapter 6, R115). -/
def excusePieces (d1 d2 : Nat) (n : Sessions) (e : Excuse) : List Excuse :=
  leftPiece d1 e ++ middlePiece d1 d2 n e ++ rightPiece d2 e

/-- The table after the trim: the first piece of an entry keeps its place, the others join the end (R115). -/
def trimExcuses (slot d1 d2 : Nat) (n : Sessions) (l : List Excuse) : List Excuse :=
  (l.flatMap fun e => if excuseMeets slot d1 d2 n e then (excusePieces d1 d2 n e).take 1 else [e])
    ++ l.flatMap fun e => if excuseMeets slot d1 d2 n e then (excusePieces d1 d2 n e).drop 1 else []

/-- Whether an entry merges with a new one (R115). -/
def excuseTouches (x e : Excuse) : Bool :=
  e.slot == x.slot && e.sessions == x.sessions && e.reason == x.reason
    && (e.last + 1 == x.first || e.first == x.last + 1)

/-- The first entry that satisfies a test is replaced, and the later ones leave the list. -/
def replaceFirst (p : Excuse → Bool) (x : Excuse) : List Excuse → List Excuse
  | [] => []
  | e :: es => if p e then x :: es.filter (fun e => !p e) else e :: replaceFirst p x es

/-- A new entry running over its merged neighbours, with its own source. -/
def mergedExcuse (x : Excuse) (l : List Excuse) : Excuse :=
  { x with first := (l.filter (excuseTouches x)).foldl (fun a e => min a e.first) x.first
           last := (l.filter (excuseTouches x)).foldl (fun a e => max a e.last) x.last }

/-- The new entry joins the table, merged with the neighbours it touches (R115). -/
def joinExcuse (x : Excuse) (l : List Excuse) : List Excuse :=
  if l.any (excuseTouches x) then replaceFirst (excuseTouches x) (mergedExcuse x l) l else l ++ [x]

/-- The table after the whole insertion of a new entry's range. -/
def insertedExcuses (x : Excuse) (l : List Excuse) : List Excuse :=
  joinExcuse x (trimExcuses x.slot x.first x.last x.sessions l)

/-- How many entries a pupil's slot holds. -/
def excusesOf (slot : Nat) (l : List Excuse) : Nat := l.countP fun e => e.slot == slot

/-- The free entries of the table (R116). -/
def freeExcuses (l : List Excuse) : Nat := Config.excuseEntries - l.length

/-- Whether the need of a change of the table exceeds its free entries (R116). DEDUCED, log 15. -/
def needExceeds (slot : Nat) (before after : List Excuse) : Bool :=
  excusesOf slot before + freeExcuses before < excusesOf slot after

/-! ### Today's part (R117) -/

/-- EXCUSE mark requests for the sessions of a list. -/
def requestExcuses (slot : Nat) : List Session → State → State
  | [], s => s
  | x :: xs, s => requestExcuses slot xs (requestMark slot x .excuse s)

/-- Whether a range's part for today is applied: it covers today, and the record day is today. -/
def todayApplies (s : State) (slot d1 d2 : Nat) : Bool :=
  d1 ≤ s.sched.day && s.sched.day ≤ d2 && ((entryAt s slot).map (·.recordDay)) == some s.sched.day

/-- Apply today's part. -/
def applyToday (slot d1 d2 : Nat) (n : Sessions) (s : State) : State :=
  if todayApplies s slot d1 d2 then requestExcuses slot (sessionsOf n) s else s

/-- Write the excuse table. -/
def setExcuses (l : List Excuse) (s : State) : State := s.modRoll fun u => { u with excuses := l }

/-! ### Parent reports (R111 to R118) -/

/-- The cause for which a report is not matched, if any (R112). -/
def unmatchedCause (s : State) (r : ParentReport) : Option UnmatchedCause :=
  match findPupil s r.pupil with
  | none => some .noPupil
  | some (_, e) =>
    if !pupilInRange r.pupil then some .noPupil
    else
      match tabFind s.roll.families e.family with
      | none => some .noFamily
      | some f =>
        match f.contacts.find? fun c => c.handle == r.handle with
        | none => some .noContact
        | some c => if c.mayReport then none else some .noPermission

/-- The first day of a report's range (R113). -/
def reportFirst (today offset : Nat) : Nat := today + min 14 offset

/-- The last day of a range of `count` days held within the year (R113). -/
def rangeLast (d1 count : Nat) : Nat := min 365 (d1 + count - 1)

/-- The clamped day count of a report (R113). -/
def reportCount (count : Nat) : Nat := max 1 (min 10 count)

/-- The pupil number in a PARENT_REPORT's payload, when it is long enough to hold it. DESIGN CHOICE, log 15. -/
def reportPupil (bs : List Byte) : Option Nat := (takeNum 2 (bs.drop 4)).map Prod.fst

/-- The sessions in a PARENT_REPORT's payload, when it is long enough to hold them and they name a value: a reply with
no range repeats them (R175). DESIGN CHOICE, log 15. -/
def reportSessions (bs : List Byte) : Option Sessions := (bs[9]?).bind fun b => sessionsList[b.toNat]?

/-- A reply that carries no range. DEDUCED, log 15. -/
def plainReply (st : ParentStatus) (pupil : Option Nat) (sessions : Option Sessions) : ParentReply :=
  { status := st, pupil := pupil, first := none, last := none, sessions := sessions, applied := false,
    amCode := none, pmCode := none }

/-- The code a reply carries for a session: when today's part was applied to it. -/
def replyCode (s : State) (slot : Nat) (n : Sessions) (applied : Bool) (x : Session) : Option MarkCode :=
  if applied && hasSession n x then some (markAt s slot x).code else none

/-- The entry a matched report inserts. -/
def reportExcuse (slot d1 : Nat) (r : ParentReport) : Excuse :=
  { slot := slot, first := d1, last := rangeLast d1 (reportCount r.count), sessions := r.sessions,
    reason := r.reason, source := .parent }

/-- Insert a matched report's range and apply today's part (R113 to R117). -/
def insertReport (r : ParentReport) (slot : Nat) (s : State) : State × ParentReply :=
  let d1 := reportFirst s.sched.day r.offset
  if 365 < d1 then (s, plainReply .accepted (some r.pupil) (some r.sessions))
  else
    let x := reportExcuse slot d1 r
    let l := insertedExcuses x s.roll.excuses
    if needExceeds slot s.roll.excuses l then
      (alert (.excusesFull r.pupil r.handle r.reason d1 x.last r.sessions
          (excusesOf slot l - excusesOf slot s.roll.excuses) (freeExcuses s.roll.excuses)) s,
        plainReply .full (some r.pupil) (some r.sessions))
    else
      let applied := todayApplies s slot d1 x.last
      let s := applyToday slot d1 x.last r.sessions (setExcuses l s)
      (s, { status := .accepted, pupil := some r.pupil, first := some d1, last := some x.last,
            sessions := some r.sessions, applied := applied,
            amCode := replyCode s slot r.sessions applied .am,
            pmCode := replyCode s slot r.sessions applied .pm })

/-- Judge a PARENT_REPORT's payload (R111). DEDUCED, log 15. -/
def judgeReport (bs : List Byte) (s : State) : State × ParentReply :=
  if writersHeld s || s.sched.clock = .unset then
    (s, plainReply .busy (reportPupil bs) (reportSessions bs))
  else
    match decodeParentReport bs with
    | none => (s, plainReply .malformed (reportPupil bs) (reportSessions bs))
    | some r =>
      match unmatchedCause s r with
      | some c => (alert (.unmatchedReport r c) s, plainReply .notMatched (some r.pupil) (some r.sessions))
      | none =>
        match findPupil s r.pupil with
        | none => (s, plainReply .notMatched (some r.pupil) (some r.sessions))
        | some (slot, _) => insertReport r slot s

/-- A PARENT_REPORT taken by the Message Unit, and its reply (R111, R118). -/
def takeParentReport (bs : List Byte) (s : State) : State :=
  let (s, r) := judgeReport bs s
  tryOffers (handGateway (.parentReply r) s)

/-! ### Excuse requests (R120 to R122) -/

/-- The entry ADD_EXCUSE inserts (R120). -/
def officeExcuse (slot d1 : Nat) (a : AddExcuseArgs) : Excuse :=
  { slot := slot, first := d1, last := rangeLast d1 a.count, sessions := a.sessions, reason := a.reason,
    source := .office }

/-- The first session of a set. -/
def firstSession : Sessions → Session
  | .am => .am
  | .pm => .pm
  | .both => .am

/-- Insert an office excuse and apply today's part (R120). -/
def insertOffice (a : AddExcuseArgs) (slot d1 : Nat) (l : List Excuse) (s : State) : State × Status × ReplyData :=
  let last := rangeLast d1 a.count
  let applied := todayApplies s slot d1 last
  let s := applyToday slot d1 last a.sessions (setExcuses l s)
  served (.excuseAdded (l.find? fun e => e.slot == slot && excuseCovers e d1 (firstSession a.sessions))
    (freeExcuses l)
    (if applied then some ((sessionsOf a.sessions).map fun x => (markAt s slot x).code) else none)) (tryOffers s)

/-- ADD_EXCUSE (R120). -/
def reqAddExcuse (a : AddExcuseArgs) (s : State) : State × Status × ReplyData :=
  if writersHeld s then refuse .busy s
  else if !pupilInRange a.pupil || 14 < a.offset || a.count = 0 || 10 < a.count then refuse .badArg s
  else if s.sched.clock = .unset then refuse .state s
  else
    match findPupil s a.pupil with
    | none => refuse .notFound s
    | some (slot, _) =>
      let d1 := s.sched.day + a.offset
      if 365 < d1 then refuse .badArg s
      else
        let l := insertedExcuses (officeExcuse slot d1 a) s.roll.excuses
        if needExceeds slot s.roll.excuses l then refuse .full s else insertOffice a slot d1 l s

/-- How many of the entries a range meets leave exactly `k` pieces (R121). -/
def trimCount (slot d1 d2 k : Nat) (l : List Excuse) : Nat :=
  l.countP fun e => excuseMeets slot d1 d2 .both e && (excusePieces d1 d2 .both e).length == k

/-- REMOVE_EXCUSE (R121): the need is the number of entries split in two. -/
def reqRemoveExcuse (pupil first last : Nat) (s : State) : State × Status × ReplyData :=
  if writersHeld s then refuse .busy s
  else if !pupilInRange pupil || 365 < last || last < first then refuse .badArg s
  else
    match findPupil s pupil with
    | none => refuse .notFound s
    | some (slot, _) =>
      let old := s.roll.excuses
      let l := trimExcuses slot first last .both old
      if freeExcuses old < trimCount slot first last 2 old then refuse .full s
      else served (.excuseRemoved (trimCount slot first last 1 old) (trimCount slot first last 0 old)
        (trimCount slot first last 2 old) (freeExcuses l)) (setExcuses l s)

/-- The entries a READ_EXCUSES selector names (R122). -/
def selectExcuses (s : State) : ExcuseSelector → List Excuse
  | .all => s.roll.excuses
  | .pupil n => s.roll.excuses.filter fun e => some e.slot == (findPupil s n).map Prod.fst

/-- BAD_ARG of a READ_EXCUSES selector. -/
def badExcuseSelector : ExcuseSelector → Bool
  | .all => false
  | .pupil n => !pupilInRange n

/-- NOT_FOUND of a READ_EXCUSES selector. -/
def excuseSelectorMissing (s : State) : ExcuseSelector → Bool
  | .all => false
  | .pupil n => (findPupil s n).isNone

/-- READ_EXCUSES (R122). -/
def reqReadExcuses (sel : ExcuseSelector) (start count : Nat) (s : State) : State × Status × ReplyData :=
  if count = 0 || 255 < start || badExcuseSelector sel then refuse .badArg s
  else if excuseSelectorMissing s sel then refuse .notFound s
  else
    let l := selectExcuses s sel
    served (.excuses l.length (freeExcuses s.roll.excuses) s.sched.day
      (((l.drop start).take (min count 12)).map fun e => (pupilAt s e.slot, e))) s

/-! ### Excuses at settlement (R123) -/

/-- The EXCUSE requests of a pupil's entries that cover a day, in list order. -/
def settleRequests (slot day : Nat) : List Excuse → State → State
  | [], s => s
  | e :: es, s =>
    settleRequests slot day es
      (if e.slot = slot ∧ e.first ≤ day ∧ day ≤ e.last then requestExcuses slot (sessionsOf e.sessions) s else s)

/-- A pupil's excuses applied to the new day: expired entries leave, and the rest that cover the day excuse it. -/
def settleExcuses (slot day : Nat) (s : State) : State :=
  let l := s.roll.excuses.filter fun e => !(e.slot == slot && e.last < day)
  settleRequests slot day l (setExcuses l s)

end Sys2Proof.Machine
end

