-- ==== Sys2Proof/Machine/Gateway.lean ====
section
/-! DEFINITION. The gateway line (R134 to R139, R111) and the three notice requests (R141 to R143). -/

namespace Sys2Proof.Machine

open Sys2Proof

/-- READY's frame code (Table 3 of Chapter 11). -/
def readyCode : Byte := 0x0C

/-- OUTCOME's frame code. -/
def outcomeCode : Byte := 0x0D

/-- PARENT_REPORT's frame code. -/
def parentReportCode : Byte := 0x0E

/-- READY (R134): the credit limit, and an occasion for offers. -/
def takeReady (bs : List Byte) (s : State) : State :=
  match decodeReady bs with
  | none => s
  | some credit => tryOffers (s.modMsg fun m => { m with creditLimit := min 8 credit })

/-- OUTCOME (R137). -/
def takeOutcomeFrame (bs : List Byte) (s : State) : State :=
  match decodeOutcome bs with
  | none => s
  | some (number, attempt, r) => takeOutcome number attempt r s

/-- A good frame on the gateway line: an overrun while the port holds one, else taken at once by `f` (R136, R146). The
port holds a frame only while a PARENT_REPORT is judged, which lies within one command: between commands it holds none.
DEDUCED, log 12. -/
def gatewayFrame (src kind : Byte) (bs : List Byte) (f : State → State) (s : State) : State :=
  match s.line.gwHeld with
  | some _ => countInvalid .gateway .overrun (goodHeader src kind bs.length) s
  | none => f s

/-- A good frame of another kind: the Message Unit takes it from the port as it takes each frame (R136), and no rule
gives it an effect. DEDUCED, log 12. -/
def discardOther (s : State) : State := s

/-- GATEWAY_FRAME_SENT: the next frame handed is sent (R136). -/
def takeGatewaySent (s : State) : State :=
  match s.line.gwSending with
  | none => s
  | some _ =>
    match s.line.gwWaiting with
    | [] => s.modLine fun u => { u with gwSending := none }
    | f :: fs => s.modLine fun u => { u with gwSending := some f, gwWaiting := fs }

/-- NOT_BEFORE_REACHED: a QUEUED record has become eligible, and offers are re-examined (R135). -/
def takeNotBefore (number : Nat) (s : State) : State :=
  match findNotice s number fun n => n.state == .queued && n.notBefore ≤ s.sched.second with
  | none => s
  | some _ => tryOffers s

/-- BAD_ARG of SEND_NOTICE (R141). -/
def badSendNotice (family template : Nat) (ps : List Nat) : Bool :=
  2047 < family || template = 0 || ps.isEmpty || 4 < ps.length || ps.any (fun p => !pupilInRange p) || !ps.Nodup

/-- The OFFICE record of SEND_NOTICE (R141). DESIGN CHOICE, log 16, unsafe: its outcome timer holds 0 while it is
QUEUED. -/
def officeNotice (s : State) (family template : Nat) (ps : List Nat) (position : Nat) : Notice :=
  { number := s.msg.nextNumber, family := family, pupils := ps.map fun p => (p, false), reason := .office,
    session := none, period := none, minutes := none, template := template, position := position, attempts := 0,
    notBefore := s.sched.second, state := .queued, timer := 0, lastOffered := none }

/-- Whether a pupil on the roll belongs to another family (R141). -/
def foreignPupil (s : State) (family pupil : Nat) : Bool :=
  match findPupil s pupil with
  | some (_, e) => e.family != family
  | none => false

/-- SEND_NOTICE (R141). -/
def reqSendNotice (family template : Nat) (ps : List Nat) (s : State) : State × Status × ReplyData :=
  if writersHeld s then refuse .busy s
  else if badSendNotice family template ps then refuse .badArg s
  else if (tabFind s.roll.families family).isNone || ps.any (fun p => (findPupil s p).isNone) then refuse .notFound s
  else if ps.any (foreignPupil s family) then refuse .badArg s
  else
    match firstNotify (contactsOf s family) with
    | none => refuse .state s
    | some i =>
      if s.msg.notices.any fun n => n.family == family && n.reason == .office then refuse .duplicate s
      else if Config.noticeRecords ≤ s.msg.notices.length then refuse .full s
      else served (.noticeSent s.msg.nextNumber (s.msg.notices.length + 1))
        (tryOffers (appendNotice (officeNotice s family template ps i) s))

/-- The records a READ_NOTICES selector names (R142). -/
def selectNotices (s : State) : NoticeSelector → List Notice
  | .all => s.msg.notices
  | .family f => s.msg.notices.filter fun n => n.family == f
  | .number k => s.msg.notices.filter fun n => n.number == k

/-- BAD_ARG of a READ_NOTICES selector. -/
def badNoticeSelector : NoticeSelector → Bool
  | .all => false
  | .family f => 2047 < f
  | .number _ => false

/-- READ_NOTICES (R142). -/
def reqReadNotices (sel : NoticeSelector) (start count : Nat) (s : State) : State × Status × ReplyData :=
  if count = 0 || 255 < start || badNoticeSelector sel then refuse .badArg s
  else served (.notices
    { windowOpen := s.msg.windowOpen, walk := s.msg.walk, cursor := s.msg.cursor, rewalk := s.msg.rewalk,
      deferral := s.msg.deferral, creditLimit := s.msg.creditLimit, inFlight := inFlight s,
      count := s.msg.notices.length, nextNumber := s.msg.nextNumber, templates := s.msg.templates,
      selected := (selectNotices s sel).length, records := ((selectNotices s sel).drop start).take (min count 6) }) s

/-- One template entry written. -/
def setTemplate (t : Templates) (x : NoticeReason × Nat) : Templates :=
  match x.1 with
  | .absence => { t with absence := x.2 }
  | .lateClosed => { t with lateClosed := x.2 }
  | .internal => { t with internal := x.2 }
  | .concern => { t with concern := x.2 }
  | .office => t

/-- LOAD_TEMPLATES (R143). -/
def reqLoadTemplates (es : List (NoticeReason × Nat)) (s : State) : State × Status × ReplyData :=
  if es.isEmpty || 4 < es.length || es.any (fun x => x.1 == .office) then refuse .badArg s
  else if !(es.map Prod.fst).Nodup then refuse .duplicate s
  else
    let t := es.foldl setTemplate s.msg.templates
    served (.templates t) (s.modMsg fun m => { m with templates := t })

end Sys2Proof.Machine
end

