-- ==== Sys2Proof/Machine/Bell.lean ====
section
/-! DEFINITION. The Bell Sequencer (Chapter 3): jobs and their list, the visit of the zones, sounder reports, contact
inputs, relays and the bell requests. -/

namespace Sys2Proof.Machine

open Sys2Proof

/-! ### Jobs (R49, R50) -/

/-- A job with its zone cursor at 0 (R51). -/
def startJob (j : BellJob) : CurrentJob := { job := j, zone := 0, ringing := none }

/-- Whether a job arriving now discards a waiting one (R50). -/
def jobDiscards (s : State) : Bool := s.bell.current.isSome && Config.bellJobs ≤ s.bell.waiting.length

/-- A job joins the job list, or becomes current at once (R50). -/
def joinJob (j : BellJob) (s : State) : State :=
  match s.bell.current, s.bell.waiting with
  | none, [] => s.modBell fun u => { u with current := some (startJob j) }
  | _, [] => s.modBell fun u => { u with waiting := [j] }
  | _, w :: ws =>
    if (w :: ws).length < Config.bellJobs then s.modBell fun u => { u with waiting := u.waiting ++ [j] }
    else
      (alert (.bellDropped w.zones w.tone w.origin) (s.modBell fun u => { u with waiting := ws })).modBell
        fun u => { u with waiting := u.waiting ++ [j] }

/-- The job an input makes (R57). -/
def inputJob (n : Nat) (c : InputConfig) : BellJob :=
  { zones := c.zones, tone := c.tone, duration := c.duration, override := c.override, origin := .input n }

/-! ### Ringing a zone (R51 to R54) -/

/-- Keep the first of each repeated pair. -/
def firstsOnly : List (Nat × Byte) → List (Nat × Byte) → List (Nat × Byte)
  | seen, [] => seen
  | seen, x :: xs => firstsOnly (if seen.contains x then seen else seen ++ [x]) xs

/-- A zone's sounders in station-table order, each once (R52). -/
def sounders (s : State) (z : Nat) : List (Nat × Byte) :=
  firstsOnly [] ((List.range 48).filterMap fun n =>
    let e := stationAt s n
    if e.enabled && e.kind == .sounder && e.unit == z then some (e.segment, e.address) else none)

/-- Replace the current job's progress. -/
def setCurrent (c : Option CurrentJob) (s : State) : State := s.modBell fun u => { u with current := c }

/-- Begin a zone's sounding: the count is extended, never shortened (R54). -/
def beginSounding (z duration : Nat) (s : State) : State :=
  refreshRelays (s.modBell fun u =>
    { u with sounding := tabSet 0 z (max (tabGet 0 u.sounding z) duration) u.sounding })

/-- Write a zone record (R53). -/
def writeZone (z : Nat) (o : ZoneOutcome) (origin : Origin) (sent acked : Nat) (s : State) : State :=
  setZoneAt z { outcome := o, day := s.sched.day, second := s.sched.second, origin := some origin, sent := sent,
                acked := acked } s

/-- The BELL frame of a job (R52). -/
def bellFrame (j : BellJob) (a : Byte) : FieldFrame := ⟨a, .bell j.tone j.duration 1⟩

/-- Whether the sequencer's frame is waiting outside a segment's full queue (R52, R152). -/
def bellOutside (s : State) (seg : Nat) : Bool := (segmentAt s seg).outside.any fun f => outputClass f == 1

/-- A current job's sounder that is first to be handed has been handed. -/
def dropHanded (c : CurrentJob) : CurrentJob :=
  { c with ringing := c.ringing.map fun r => { r with toHand := r.toHand.drop 1, handed := r.handed + 1 } }

/-- The LOW_LEVEL inputs that make a further job at a job's end: each still held whose pending flag is then clear
(R57). -/
def inputsAsking (s : State) : List Nat :=
  (List.range 8).filter fun n => (inputAt s n).live && !inputPending s n

/-- Each input of a list makes its job in turn. -/
def joinInputJobs : List Nat → State → State
  | [], s => s
  | n :: ns, s => joinInputJobs ns (joinJob (inputJob n (inputAt s n).config) s)

/-- The oldest waiting job becomes current when there is none (R50). -/
def promote (s : State) : State :=
  match s.bell.current, s.bell.waiting with
  | none, j :: js => s.modBell fun u => { u with current := some (startJob j), waiting := js }
  | none, [] => s
  | some _, _ => s

/-- The end of the current job (R51, R57). Which inputs ask is settled before any of them makes its job, so that one
whose job another's discards asks again only when a current job next ends. DEDUCED, log 11. -/
def endJob (s : State) : State :=
  let s := promote (setCurrent none s)
  joinInputJobs (inputsAsking s) s

/-- The outcome of a rung zone (R53). -/
def ringOutcome (r : ZoneRing) : ZoneOutcome := if r.acked = r.handed then .confirmed else .unconfirmed

/-- Arrive at the zone under the cursor, or pass the last (R51). -/
def visitZone (c : CurrentJob) (s : State) : State :=
  let next := some { c with zone := c.zone + 1, ringing := none }
  if !inZones c.job.zones c.zone then setCurrent next s
  else if !c.job.override && zoneSuppressed s c.zone then
    setCurrent next (writeZone c.zone .suppressed c.job.origin 0 0 s)
  else
    setCurrent (some { c with ringing := some ⟨sounders s c.zone, 0, 0, 0⟩ })
      (beginSounding c.zone c.job.duration s)

/-- What the sequencer does next, or `none` when it waits for a frame to be admitted or reported. -/
def bellStep (s : State) : Option State :=
  match s.bell.current with
  | none =>
    match s.bell.waiting with
    | [] => none
    | _ :: _ => some (promote s)
  | some c =>
    match c.ringing with
    | none => if 16 ≤ c.zone then some (endJob s) else some (visitZone c s)
    | some r =>
      match r.toHand with
      | [] =>
        if r.reported = r.handed then
          some (setCurrent (some { c with zone := c.zone + 1, ringing := none })
            (writeZone c.zone (ringOutcome r) c.job.origin r.handed r.acked s))
        else none
      | (seg, a) :: _ =>
        if bellOutside s seg then none
        else if queueTakes (segmentAt s seg) (bellFrame c.job a) then
          some (setCurrent (some (dropHanded c)) (handFrame seg (bellFrame c.job a) s))
        else some (handFrame seg (bellFrame c.job a) s)

/-- Let the sequencer run, at most as many moves as the fuel. -/
def bellMoves : Nat → State → State
  | 0, s => s
  | fuel + 1, s =>
    match bellStep s with
    | none => s
    | some s' => bellMoves fuel s'

/-- Let the sequencer run until it waits. DESIGN CHOICE, log 11: 512 moves at most, continued at the next tick. -/
def bellRun (s : State) : State := bellMoves 512 s

/-- A job arrives, and the sequencer runs (R50, R51). -/
def takeJob (j : BellJob) (s : State) : State := bellRun (joinJob j s)

/-- The end of a BELL exchange reported to the sequencer (R52, R53). -/
def bellReport (seg : Nat) (a : Byte) (standsFor : Nat) (acked : Bool) (s : State) : State :=
  match s.bell.current with
  | none => s
  | some c =>
    match c.ringing with
    | none => s
    | some r =>
      let r' := { r with reported := r.reported + standsFor, acked := r.acked + if acked then standsFor else 0 }
      let s := setCurrent (some { c with ringing := some r' }) s
      bellRun (if acked then s else alert (.bellUnconfirmed c.zone seg a c.job.origin s.sched.second) s)

/-- The sequencer's frame that waited outside a queue has been admitted (R152). -/
def bellAdmitted (s : State) : State :=
  match s.bell.current with
  | none => s
  | some c => bellRun (setCurrent (some (dropHanded c)) s)

/-! ### Contact inputs (R57) -/

/-- Whether a change of level makes a job (R57). -/
def changeMakesJob (sense : Sense) (level : Level) : Bool :=
  match sense, level with
  | .falling, .low => true
  | .falling, .high => false
  | .rising, .low => false
  | .rising, .high => true
  | .anyChange, .low => true
  | .anyChange, .high => true
  | .lowLevel, .low => true
  | .lowLevel, .high => false

/-- Whether an input held at a level goes on ringing (R57). -/
def goesOn (c : InputConfig) (level : Level) : Bool :=
  c.function == .ringNow && c.sense == .lowLevel && level == .low

/-- A change of an input's debounced level (R57). -/
def changeLevel (n : Nat) (level : Level) (s : State) : State :=
  let i := inputAt s n
  let s := setInputAt n { i with level := level, live := goesOn i.config level } s
  if i.config.function = .ringNow ∧ changeMakesJob i.config.sense level = true then takeJob (inputJob n i.config) s
  else s

/-- A raw level that has held unbroken for `heldMs` milliseconds (R57). -/
def takeInputChange (n : Nat) (level : Level) (heldMs : Nat) (s : State) : State :=
  let i := inputAt s n
  if i.taken ∧ i.level ≠ level ∧ i.config.debounce ≤ heldMs then changeLevel n level s else s

/-- The first level of an input after a power-up (R57). -/
def takeFirstLevel (n : Nat) (level : Level) (s : State) : State :=
  let i := inputAt s n
  if i.taken then s
  else
    let s := setInputAt n { i with level := level, taken := true, live := goesOn i.config level } s
    if goesOn i.config level then takeJob (inputJob n i.config) s else s

/-! ### Ticks, restart and clearing (R54, R62, R63) -/

/-- One seconds tick lowers every sounding count, and the relays follow (R54, R60). -/
def tickSounding (s : State) : State :=
  refreshRelays (s.modBell fun u => { u with sounding := tabulate 0 16 fun z => tabGet 0 u.sounding z - 1 })

/-- A zone's sounding count stands at 0: its AUTO relays open (R54, R60). -/
def takeSoundingExpiry (z : Nat) (s : State) : State :=
  if soundingAt s z = 0 then refreshRelays s else s

/-- An input whose level is to be taken afresh (R57, R63). DESIGN CHOICE, log 9, unsafe: until its first level is taken
it reads HIGH, and a SUPPRESS input holds no zone. -/
def freshInput (i : ContactInput) : ContactInput := { i with level := .high, taken := false, live := false }

/-- The Bell Sequencer at a retained restart (R63). -/
def bellRestart (s : State) : State :=
  refreshRelays (openRelays (s.modBell fun u =>
    { u with current := none, waiting := [], sounding := [],
             inputs := tabulate coldInput 8 fun n => freshInput (tabGet coldInput u.inputs n) }))

/-! ### Bell requests (R55, R56, R59, R61) -/

/-- The bell status (R56). -/
def bellStatus (s : State) : BellStatus :=
  { current := s.bell.current, waiting := s.bell.waiting,
    zones := (List.range 16).map (zoneAt s), sounding := (List.range 16).map (soundingAt s),
    inputs := (List.range 8).map fun n =>
      { config := (inputAt s n).config, level := (inputAt s n).level, active := suppressActive (inputAt s n),
        pending := inputPending s n },
    relays := [relayAt s 0, relayAt s 1] }

/-- RING (R55). DEDUCED, log 11: the bell status after the run. -/
def reqRing (zones : ZoneMask) (tone duration : Nat) (override : Bool) (s : State) : State × Status × ReplyData :=
  if tone = 0 || 7 < tone || duration = 0 || 30 < duration then refuse .badArg s
  else if zones = 0 then served (.bellStatus (bellStatus s)) s
  else
    let j : BellJob := { zones := zones, tone := tone, duration := duration, override := override, origin := .office }
    let s' := takeJob j s
    served (.ring (bellStatus s') s.bell.current.isNone (jobDiscards s)) s'

/-- A configuration outside Table 2 of Chapter 3, or a RING_NOW without a tone or a zone (R59). -/
def badInput (x : Nat × InputConfig) : Bool :=
  7 < x.1 || !(x.2.debounce = 0 || x.2.debounce = 10 || x.2.debounce = 40) || 7 < x.2.tone || x.2.duration = 0
    || 30 < x.2.duration || (x.2.function == .ringNow && (x.2.tone = 0 || x.2.zones = 0))

/-- Give the named inputs their configurations; a level held through the load no longer goes on ringing (R59). -/
def loadInputs : List (Nat × InputConfig) → State → State
  | [], s => s
  | x :: xs, s => loadInputs xs (setInputAt x.1 { inputAt s x.1 with config := x.2, live := false } s)

/-- LOAD_INPUTS (R59). -/
def reqLoadInputs (es : List (Nat × InputConfig)) (s : State) : State × Status × ReplyData :=
  if es.isEmpty || 8 < es.length || es.any badInput then refuse .badArg s
  else if !(es.map Prod.fst).Nodup then refuse .duplicate s
  else
    let s := loadInputs es s
    served (.bellStatus (bellStatus s)) s

/-- SET_RELAY (R61). -/
def reqSetRelay (relay : Nat) (o : RelayOverride) (zone : Option Nat) (s : State) : State × Status × ReplyData :=
  if 1 < relay || (match zone with | some z => decide (15 < z) | none => false) then refuse .badArg s
  else
    let r := relayAt s relay
    let s := refreshRelay relay (s.modBell fun u =>
      { u with relays := tabSet coldRelay relay { r with override := o, zone := zone.getD r.zone } u.relays })
    served (.bellStatus (bellStatus s)) s

end Sys2Proof.Machine
end

