-- ==== Sys2Proof/Machine/Gate.lean ====
section
/-! DEFINITION. The Gate Unit (Chapter 4): the decision on each tap, lateness, arrivals, referrals, movements and the
gate requests. -/

namespace Sys2Proof.Machine

open Sys2Proof

/-! ### Modes (R66, R67) -/

/-- Give one gate a mode; a change empties its duplicate-tap memory (R66). -/
def setGateMode (g : Nat) (mode : GateMode) (s : State) : State :=
  if (gateAt s g).mode = mode then s
  else setGateAt g { gateAt s g with mode := mode, memory := none } s

/-- Give the gates of a list a mode, those that are in the mask. -/
def setModes (mask : GateMask) (mode : GateMode) : List Nat → State → State
  | [], s => s
  | g :: gs, s => setModes mask mode gs (if inGates mask g then setGateMode g mode s else s)

/-- A GATE_MODE event or SET_GATE_MODE (R66, R67). -/
def applyGateMode (mask : GateMask) (mode : GateMode) (s : State) : State := setModes mask mode (List.range 8) s

/-- SET_GATE_MODE (R67). -/
def reqSetGateMode (mask : GateMask) (mode : GateMode) (s : State) : State × Status × ReplyData :=
  let s := applyGateMode mask mode s
  served (.gateModes ((List.range 8).map fun g => ((gateAt s g).mode, gateStateAt s g))) s

/-! ### Session, band and minutes late (R73 to R75) -/

/-- The session of a tap, and whether it is an early arrival (R73). -/
def tapSession (s : State) (t : Nat) : Option (Session × Bool) :=
  match lookupTime s (.sessionOpen .am), lookupTime s (.sessionOpen .pm) with
  | none, none => none
  | some a, none => some (.am, t < a)
  | none, some p => some (.pm, t < p)
  | some a, some p =>
    if a ≤ t ∧ p ≤ t then some (if a ≤ p then .pm else .am, false)
    else if a ≤ t then some (.am, false)
    else if p ≤ t then some (.pm, false)
    else some (if a ≤ p then .am else .pm, true)

/-- The band of a tap from its session's start and close and the gate's grace (R74). -/
def bandOf (start close : Option Nat) (g t : Nat) : Band :=
  match start with
  | none => .onTime
  | some st =>
    if t ≤ st + g then .onTime
    else
      match close with
      | none => .late
      | some c => if t ≤ c + g then .late else .lateAfterClose

/-- The minutes late of a tap in a late band (R75): whole minutes or parts of them, at most 240. -/
def minutesOf (start g t : Nat) : Nat := min 240 ((t - start - g + 59) / 60)

/-- What is judged of an arrival: its session, band and minutes late. -/
structure Judged where
  session : Option Session
  band : Band
  minutes : Nat
  deriving DecidableEq, Repr

/-- Judge an arrival at a gate (R72). -/
def judgeArrival (s : State) (g t : Nat) : Judged :=
  match tapSession s t with
  | none => ⟨none, .onTime, 0⟩
  | some (x, true) => ⟨some x, .onTime, 0⟩
  | some (x, false) =>
    let start := lookupTime s (.sessionStart x)
    let b := bandOf start (lookupTime s (.sessionClose x)) (graceAt s g) t
    ⟨some x, b, if b = .onTime then 0 else minutesOf (start.getD 0) (graceAt s g) t⟩

/-! ### Movements (R83, R84) -/

/-- Whether a movement's report carries the session mark (R84). DESIGN CHOICE, log 25, unsafe: REENTRY is no arrival
kind here, although it stands in Table 6. -/
def reportsMark : MovementKind → Bool
  | .arrivalOnTime => true
  | .arrivalLate => true
  | .arrivalAfterClose => true
  | .return => true
  | .signOut => false
  | .reentry => false
  | .referralExpired => false
  | .refused => false

/-- The pupil's on-site state in a slot. -/
def siteAt (s : State) (slot : Nat) : OnSite := ((entryAt s slot).map (·.day.onSite)).getD .offSite

/-- The sequence number the next movement takes, if it is listed (R83). -/
def nextSequence (s : State) : Option Nat :=
  if s.gate.movements.length < Config.movementRecords then some s.gate.movements.length else none

/-- Append a movement, or leave it unlisted with the day's one alert (R83). -/
def listMovement (m : Movement) (s : State) : State :=
  if s.gate.movements.length < Config.movementRecords then
    s.modGate fun u => { u with movements := u.movements ++ [m] }
  else if s.gate.movementsFull then s
  else alert (.movementsFull s.sched.day s.sched.second) (s.modGate fun u => { u with movementsFull := true })

/-- Record a movement and queue its ARRIVAL report (R83, R84). DESIGN CHOICE, log 21, unsafe: an unlisted movement's
MOVEMENTS_FULL alert is offered before its ARRIVAL report. -/
def recordMovement (m : Movement) (slot : Nat) (x : Option Session) (s : State) : State :=
  let sequence := nextSequence s
  let s := listMovement m s
  let mark := if reportsMark m.kind then x.map (markAt s slot) else none
  offerReport (.arrival m sequence (siteAt s slot) mark) s

/-! ### Arrivals and sign-outs (R71, R76, R77) -/

/-- The movement kind of an arrival by the on-site state when it is applied (Table 6 of Chapter 4). -/
def arrivalKind (site : OnSite) (b : Band) : MovementKind :=
  match site, b with
  | .onSite, _ => .reentry
  | .signedOut, _ => .return
  | .offSite, .onTime => .arrivalOnTime
  | .offSite, .late => .arrivalLate
  | .offSite, .lateAfterClose => .arrivalAfterClose

/-- The mark request of a late band (R77). -/
def bandRequest : Band → Option MarkRequest
  | .onTime => none
  | .late => some .gateLate
  | .lateAfterClose => some .gateLateClosed

/-- Whether an arrival makes a request against a mark (R77). -/
def requestable : MarkCode → Bool
  | .untaken => true
  | .absent => true
  | .excused => true
  | .present => false
  | .late => false
  | .lateAfterClose => false
  | .offsite => false
  | .notRequired => false

/-- The mark request an arrival makes, if it makes one (R76, R77). -/
def arrivalRequest (s : State) (slot : Nat) (k : MovementKind) (j : Judged) : Option (Session × MarkRequest) :=
  match j.session, bandRequest j.band with
  | some x, some r => if k ≠ .reentry ∧ requestable (markAt s slot x).code = true then some (x, r) else none
  | some _, none => none
  | none, _ => none

/-- Add an arrival's minutes to the day's minutes late, held to 240 (R77). -/
def addMinutes (slot minutes : Nat) (s : State) : State :=
  modEntry slot (fun e => { e with day := { e.day with minutesLate := satAdd 240 e.day.minutesLate minutes } }) s

/-- Make an arrival's mark request, with its minutes (R77). -/
def makeArrivalRequest (slot minutes : Nat) (r : Option (Session × MarkRequest)) (s : State) : State :=
  match r with
  | none => s
  | some (x, k) => addMinutes slot minutes (requestMark slot x k s)

/-- The LATE due flag of an arrival's session, when the mark stands at LATE_AFTER_CLOSE (R77). -/
def judgeLateDue (slot : Nat) (r : Option (Session × MarkRequest)) (s : State) : State :=
  match r with
  | none => s
  | some (x, _) => if (markAt s slot x).code = .lateAfterClose then setDue slot (.late x) s else s

/-- The first tap-in of the day is kept (R76). -/
def setArrival (slot t g : Nat) (s : State) : State :=
  modEntry slot (fun e =>
    { e with day := { e.day with arrival := e.day.arrival.orElse fun _ => some ⟨t, g⟩ } }) s

/-- The minutes a movement carries (R83). -/
def movementMinutes (k : MovementKind) (minutes : Nat) : Option Nat :=
  match k with
  | .arrivalLate => some minutes
  | .arrivalAfterClose => some minutes
  | .arrivalOnTime => none
  | .signOut => none
  | .return => none
  | .reentry => none
  | .referralExpired => none
  | .refused => none

/-- Apply an arrival (R76): arrival field, on-site state, mark request, movement. `excused` is ADMIT_EXCUSED (R82): an
EXCUSE request follows for the session, and the LATE due flag is judged after both. -/
def applyArrival (slot g : Nat) (j : Judged) (t now : Nat) (referral : Option Nat) (excused : Bool) (s : State) :
    State × MovementKind :=
  let k := arrivalKind (siteAt s slot) j.band
  let s := setOnSite slot .onSite (setArrival slot t g s)
  let r := arrivalRequest s slot k j
  let s := makeArrivalRequest slot j.minutes r s
  let s := if excused then s else judgeLateDue slot r s
  let s := recordMovement
    { second := now, gate := g, direction := .inward, pupil := pupilAt s slot, kind := k,
      minutes := movementMinutes k j.minutes, referral := referral } slot j.session s
  match j.session, excused with
  | some x, true => (judgeLateDue slot r (requestMark slot x .excuse s), k)
  | none, true => (judgeLateDue slot r s, k)
  | _, false => (s, k)

/-- Apply a sign-out (R71). -/
def applySignOut (slot g now : Nat) (referral : Option Nat) (s : State) : State :=
  let s := setOnSite slot .signedOut s
  recordMovement
    { second := now, gate := g, direction := .outward, pupil := pupilAt s slot, kind := .signOut, minutes := none,
      referral := referral } slot none s

/-! ### Answers (R78) -/

/-- A tap as the segment controller delivers it (R68, R149). -/
structure TapIn where
  gate : Nat
  direction : Direction
  token : Handle
  sequence : Nat
  segment : Nat
  address : Byte
  deriving DecidableEq, Repr

/-- Hand a GATE_ANSWER to the reader's segment (R78). -/
def answerReader (segment : Nat) (address : Byte) (sequence : Nat) (a : Answer) (pupil : Option Nat)
    (j : Option Judged) (s : State) : State :=
  handFrame segment ⟨address, .gateAnswer sequence a pupil (j.map (·.band)) ((j.map (·.minutes)).getD 0)⟩ s

/-- The pupil number of a known token. -/
def tokenPupil (s : State) (t : Handle) : Option Nat := (findToken s t).map fun p => p.2.pupil

/-- Answer a tap. -/
def answerTap (t : TapIn) (a : Answer) (j : Option Judged) (s : State) : State :=
  answerReader t.segment t.address t.sequence a (tokenPupil s t.token) j s

/-- Write a gate's duplicate-tap memory (R68). -/
def remember (g : Nat) (token : Handle) (a : Answer) (s : State) : State :=
  setGateAt g { gateAt s g with memory := some ⟨token, a, s.sched.second, 0⟩ } s

/-- Answer a tap decided at steps 4 to 7 of Table 3 and remember the answer (R68). -/
def decided (t : TapIn) (a : Answer) (j : Option Judged) (s : State) : State :=
  remember t.gate t.token a (answerTap t a j s)

/-! ### Taps (R68 to R72, R79, R80) -/

/-- Whether a tap is a duplicate of the remembered one (R69). -/
def duplicateTap (s : State) (g : Nat) (token : Handle) : Option Answer :=
  match (gateAt s g).memory with
  | none => none
  | some m =>
    if s.office.params.dupWindow ≠ 0 ∧ m.token = token ∧ m.age ≤ s.office.params.dupWindow then some m.answer
    else none

/-- The reason for a referral of an IN tap, if one is needed (R72). -/
def inwardReferral (mode : GateMode) (b : Band) (flag : Bool) : Option ReferralReason :=
  if mode = .referral then some .mode
  else if mode = .timed ∧ b = .lateAfterClose then some .lateClosed
  else if flag then some .pupilFlag
  else none

/-- The number the next hold would have (R79). -/
def nextReferral (s : State) : Nat := (s.gate.referralCounter + 1) % 256

/-- The referral a hold writes (R79, Table 4 of Chapter 4). -/
def referralFor (s : State) (t : TapIn) (slot : Nat) (why : ReferralReason) (session : Option Session)
    (band : Option Band) (minutes : Nat) : Referral :=
  { number := nextReferral s, slot := slot, direction := t.direction, reason := why, session := session, band := band,
    minutes := minutes, tapSecond := s.sched.second, segment := t.segment, address := t.address,
    sequence := t.sequence, timer := s.office.params.referralTimeout, token := t.token }

/-- A tap that needs a referral (R79): a hold, or SEE_OFFICE when the report queue has no room. -/
def makeReferral (t : TapIn) (slot pupil : Nat) (why : ReferralReason) (session : Option Session) (j : Option Judged)
    (s : State) : State :=
  let r := referralFor s t slot why session (j.map (·.band)) ((j.map (·.minutes)).getD 0)
  if reportRoom s then
    let s := alert (.referral t.gate pupil t.direction why session r.band r.minutes r.tapSecond r.number) s
    let s := s.modGate fun u => { u with referralCounter := r.number }
    decided t .hold j (setGateAt t.gate { gateAt s t.gate with referral := some r } s)
  else
    decided t .seeOffice j (recordMovement
      { second := s.sched.second, gate := t.gate, direction := t.direction, pupil := pupil, kind := .referralExpired,
        minutes := none, referral := none } slot none s)

/-- Steps 6 and 7 of Table 3: a known token at a gate that is not SHUT (R71, R72). -/
def knownTap (t : TapIn) (slot : Nat) (e : RollEntry) (s : State) : State :=
  let now := s.sched.second
  match t.direction with
  | .outward =>
    if e.noSelfExit then makeReferral t slot e.pupil .noSelfExit ((tapSession s now).map Prod.fst) none s
    else decided t .opened none (applySignOut slot t.gate now none s)
  | .inward =>
    let j := judgeArrival s t.gate now
    match inwardReferral (gateAt s t.gate).mode j.band e.referOnArrival with
    | some why => makeReferral t slot e.pupil why j.session (some j) s
    | none => decided t .opened (some j) (applyArrival slot t.gate j now now none false s).1

/-- Steps 3 to 7 of Table 3. -/
def freshTap (t : TapIn) (s : State) : State :=
  match duplicateTap s t.gate t.token with
  | some a => answerTap t a none s
  | none =>
    match findToken s t.token with
    | none => decided t .refuse none (alert (.unknownToken t.gate t.direction t.token s.sched.second) s)
    | some (slot, e) =>
      if (gateAt s t.gate).mode = .shut then decided t .refuse none s else knownTap t slot e s

/-- Decide a tap (Table 3 of Chapter 4). DEDUCED, log 13. -/
def decideTap (t : TapIn) (s : State) : State :=
  match (gateAt s t.gate).referral with
  | some r => answerTap t (if r.token = t.token then .hold else .engaged) none s
  | none => if outOfService s t.gate then answerTap t .seeOffice none s else freshTap t s

/-- A TAP delivered to the Gate Unit (R68). -/
def takeTap (g : Nat) (d : Direction) (segment : Nat) (address : Byte) (bs : List Byte) (s : State) : State :=
  match decodeTap bs with
  | none => answerReader segment address (sequenceAt 4 bs) .refuse none none s
  | some (token, sequence) => decideTap ⟨g, d, token, sequence, segment, address⟩ s

/-! ### The end of a referral (R81, R82, R88, R89) -/

/-- A referral's judged arrival, for an IN referral. -/
def judgedOf (r : Referral) : Option Judged := r.band.map fun b => ⟨r.session, b, r.minutes⟩

/-- Remove a gate's referral, which stops its timer. -/
def clearReferral (g : Nat) (s : State) : State := setGateAt g { gateAt s g with referral := none } s

/-- Answer the reader that made a held tap. DEDUCED, log 13. -/
def answerHeld (r : Referral) (a : Answer) (s : State) : State :=
  answerReader r.segment r.address r.sequence a (some (pupilAt s r.slot)) (judgedOf r) s

/-- The REFERRAL_EXPIRED movement of a referral (R81, R89). -/
def recordExpired (g : Nat) (r : Referral) (s : State) : State :=
  recordMovement
    { second := s.sched.second, gate := g, direction := r.direction, pupil := pupilAt s r.slot,
      kind := .referralExpired, minutes := none, referral := some r.number } r.slot none s

/-- A referral expires (R81). -/
def expireReferral (g : Nat) (r : Referral) (s : State) : State :=
  let s := recordExpired g r (answerHeld r .seeOffice (clearReferral g s))
  let s := alert (.referralExpired g (pupilAt s r.slot) r.direction r.number) s
  remember g r.token .seeOffice s

/-- The expiry of a gate's referral, when its timer has reached 0 (R81). -/
def takeReferralExpiry (g : Nat) (s : State) : State :=
  match (gateAt s g).referral with
  | none => s
  | some r => if r.timer = 0 then expireReferral g r s else s

/-- An admitted pupil: the arrival or the sign-out of the held tap (R82). -/
def letIn (g : Nat) (r : Referral) (excused : Bool) (s : State) : State × MovementKind :=
  match judgedOf r with
  | some j =>
    let s := modEntry r.slot (fun e => { e with referOnArrival := false }) s
    applyArrival r.slot g j r.tapSecond s.sched.second (some r.number) excused s
  | none =>
    let s := applySignOut r.slot g s.sched.second (some r.number) s
    match r.session, excused with
    | some x, true => (requestMark r.slot x .excuse s, .signOut)
    | none, true => (s, .signOut)
    | _, false => (s, .signOut)

/-- A refused pupil: a REFUSED movement and nothing else (R82). -/
def refuseHeld (g : Nat) (r : Referral) (s : State) : State × MovementKind :=
  (recordMovement
    { second := s.sched.second, gate := g, direction := r.direction, pupil := pupilAt s r.slot, kind := .refused,
      minutes := none, referral := some r.number } r.slot none s, .refused)

/-- The office's decision applied to a referral (R82). DEDUCED, log 13. -/
def decideReferral (g : Nat) (r : Referral) (d : Decision) (s : State) : State × MovementKind :=
  match d with
  | .letIn => letIn g r false s
  | .letInExcused => letIn g r true s
  | .refuse => refuseHeld g r s

/-- The answer a decision sends to the reader (R82). -/
def decisionAnswer : Decision → Answer
  | .letIn => .opened
  | .letInExcused => .opened
  | .refuse => .seeOffice

/-- ANSWER_REFERRAL (R82). -/
def reqAnswerReferral (g number : Nat) (d : Decision) (s : State) : State × Status × ReplyData :=
  if writersHeld s then refuse .busy s
  else if 7 < g || 255 < number then refuse .badArg s
  else
    match (gateAt s g).referral with
    | none => refuse .stale s
    | some r =>
      if r.number ≠ number then refuse .stale s
      else
        let sequence := nextSequence s
        let (s, k) := decideReferral g r d (clearReferral g s)
        let s := remember g r.token (decisionAnswer d) (answerHeld r (decisionAnswer d) s)
        served (.referralAnswer k sequence (r.session.map (markAt s r.slot))) (tryOffers s)

/-- Cancel a referral at the day's end (R88). DEDUCED, log 13. -/
def cancelAtDayEnd (g : Nat) (s : State) : State :=
  match (gateAt s g).referral with
  | none => s
  | some r => answerHeld r .seeOffice (clearReferral g s)

/-- Cancel a referral at a restart (R89). DEDUCED, log 13. -/
def cancelAtRestart (g : Nat) (s : State) : State :=
  match (gateAt s g).referral with
  | none => s
  | some r => recordExpired g r (clearReferral g s)

/-- An update of every gate of a list in turn. DESIGN CHOICE, log 21, unsafe: gates 0 to 7 ascending, where several
referrals are cancelled at a restart or a day's end (R88, R89) or expire at one tick (R81). -/
def eachGate (f : Nat → State → State) : List Nat → State → State
  | [], s => s
  | g :: gs, s => eachGate f gs (f g s)

/-- Empty a gate's duplicate-tap memory. -/
def forgetTap (g : Nat) (s : State) : State := setGateAt g { gateAt s g with memory := none } s

/-- The Gate Unit at the day-end notice (R88). -/
def gateDayEnd (s : State) : State :=
  let s := eachGate cancelAtDayEnd (List.range 8) s
  let s := s.modGate fun u => { u with movements := [], movementsFull := false }
  eachGate forgetTap (List.range 8) s

/-- The Gate Unit at a retained restart (R89). -/
def gateRestart (s : State) : State := eachGate forgetTap (List.range 8) (eachGate cancelAtRestart (List.range 8) s)

/-- One seconds tick for a gate: its referral timer and its memory's age (R69, R81). -/
def tickGate (g : Nat) (s : State) : State :=
  let x := gateAt s g
  let memory := x.memory.map fun m => { m with age := satAdd 16 m.age 1 }
  let referral := x.referral.map fun r => { r with timer := r.timer - 1 }
  setGateAt g { x with memory := memory, referral := referral } s

/-! ### Reading (R85, R87) -/

/-- READ_MOVEMENTS (R85). -/
def reqReadMovements (start count : Nat) (s : State) : State × Status × ReplyData :=
  if 1023 < start || count = 0 then refuse .badArg s
  else served (.movements s.sched.day s.gate.movements.length s.gate.movementsFull
    ((((List.range s.gate.movements.length).zip s.gate.movements).drop start).take (min count 12))) s

/-- One gate of READ_GATES (R87). -/
def gateView (s : State) (g : Nat) : GateView :=
  { mode := (gateAt s g).mode, state := gateStateAt s g, outOfService := outOfService s g, grace := graceAt s g,
    memory := (gateAt s g).memory, referral := (gateAt s g).referral.map fun r => (r, pupilAt s r.slot) }

/-- READ_GATES (R87). -/
def reqReadGates (s : State) : State × Status × ReplyData :=
  served (.gates ((List.range 8).map (gateView s)) s.gate.referralCounter s.gate.onSiteCount s.gate.movements.length
    s.gate.movementsFull) s

end Sys2Proof.Machine
end

