-- ==== Sys2Proof/Machine/Register.lean ====
section
/-! DEFINITION. The Register Unit (Chapter 5): windows, register frames, the close walk and the period-end walk. -/

namespace Sys2Proof.Machine

open Sys2Proof

/-! ### Opening and closing windows (R92, R94, R100, R106) -/

/-- The expected pupils of a group in a session (R91). -/
def expectedCount (s : State) (x : Session) (group : Nat) : Nat :=
  s.roll.roll.countP fun p => p.2.form == group && expectedIn p.2 x

/-- A form window as it opens with a count (R92). -/
def openedForm (n : Nat) : FormWindow := { expected := n, unmarked := n, taken := false, done := n == 0 }

/-- Clear the register-marked state of an expected pupil (R92). -/
def clearRegistered (x : Session) (e : RollEntry) : RollEntry :=
  if expectedIn e x then { e with day := { e.day with registerMarked := e.day.registerMarked.set x false } } else e

/-- SESSION_OPEN(x) (R92). DEDUCED, log 14. -/
def openSession (x : Session) (s : State) : State :=
  match formState s x with
  | .notOpened =>
    (s.modReg fun u =>
      { u with form := u.form.set x ⟨.opened, tabulate coldForm 128 fun g => openedForm (expectedCount s x g)⟩ }).modRoll
        fun u => { u with roll := u.roll.map fun p => (p.1, clearRegistered x p.2) }
  | .opened => s
  | .closed => s

/-- Append a walk to the walk list (R105). -/
def addWalk (k : WalkKind) (s : State) : State := s.modReg fun u => { u with walks := u.walks ++ [⟨k, 0⟩] }

/-- REGISTER_NOT_TAKEN alerts of the groups of a list (R100). -/
def notTakenAlerts (x : Session) : List Nat → State → State
  | [], s => s
  | g :: gs, s =>
    notTakenAlerts x gs
      (if (formAt s x g).expected ≠ 0 ∧ (formAt s x g).taken = false then alert (.registerNotTaken x g) s else s)

/-- SESSION_CLOSE(x), or a close without an event for x (R100). -/
def closeSession (x : Session) (s : State) : State :=
  match formState s x with
  | .opened =>
    let s := s.modReg fun u => { u with form := u.form.set x { u.form.get x with state := .closed } }
    let s := notTakenAlerts x (List.range 128) s
    addWalk (.close x (lookupTime s (.sessionStart x))) s
  | .notOpened => s
  | .closed => s

/-- PERIOD_START(k) (R94). -/
def startPeriod (k : Nat) (s : State) : State :=
  match lessonAt s k with
  | .notOpened => setLessonAt k .opened s
  | .opened => s
  | .closed => s

/-- PERIOD_END(k), or a close without an event for period k (R94). -/
def endPeriod (k : Nat) (s : State) : State :=
  match lessonAt s k with
  | .opened => addWalk (.periodEnd k) (setLessonAt k .closed s)
  | .notOpened => s
  | .closed => s

/-! ### Register frames (R95 to R99) -/

/-- First marking of a pupil in an OPEN form window, with REGISTER_DONE when the count reaches 0 (R93, R97). -/
def markRegistered (slot : Nat) (x : Session) (group : Nat) (s : State) : State :=
  match entryAt s slot with
  | none => s
  | some e =>
    if e.day.registerMarked.get x then s
    else
      let s := modEntry slot
        (fun e => { e with day := { e.day with registerMarked := e.day.registerMarked.set x true } }) s
      let w := formAt s x group
      if w.unmarked = 1 then
        offerReport (.registerDone x group w.expected s.sched.second)
          (setFormAt x group { w with unmarked := 0, done := true } s)
      else setFormAt x group { w with unmarked := w.unmarked - 1 } s

/-- The mark request of a form register entry (R97). -/
def entryRequest : EntryMark → MarkRequest
  | .present => .regPresent
  | .late => .regLate
  | .absent => .regAbsent

/-- The window's taken flag is set by its first accepted entry (R97). -/
def setTaken (x : Session) (group : Nat) (s : State) : State :=
  setFormAt x group { formAt s x group with taken := true } s

/-- An entry of a FORM frame (R97). -/
def formEntry (x : Session) (group : Nat) (en : Nat × EntryMark) (s : State) : State × Option RefuseReason :=
  match findPupil s en.1 with
  | none => (s, some .notFound)
  | some (slot, e) =>
    if !pupilInRange en.1 then (s, some .notFound)
    else if e.form ≠ group then (s, some .wrongGroup)
    else if !expectedIn e x then (s, some .notExpected)
    else (markRegistered slot x group (setTaken x group (requestMark slot x (entryRequest en.2) s)), none)

/-- The lesson mark of a lesson register entry (R98). -/
def entryLesson : EntryMark → LessonMark
  | .present => .present
  | .late => .late
  | .absent => .absent

/-- An entry of a LESSON frame (R98). -/
def lessonEntry (k room : Nat) (en : Nat × EntryMark) (s : State) : State × Option RefuseReason :=
  match findPupil s en.1 with
  | none => (s, some .notFound)
  | some (slot, _) =>
    if !pupilInRange en.1 then (s, some .notFound)
    else
      let s := modEntry slot
        (fun e => { e with day := { e.day with lessons := tabSet .unset k (entryLesson en.2) e.day.lessons } }) s
      let s := setRoomAt k slot room s
      (if en.2 = .absent then s else arriveOffSite slot s, none)

/-- An entry of a frame with its target. -/
def applyEntry (t : RegisterTarget) (en : Nat × EntryMark) (s : State) : State × Option RefuseReason :=
  match t with
  | .form x g => formEntry x g en s
  | .lesson k room => lessonEntry k room en s

/-- The entries of a frame in list order, with the refused ones and their reasons. -/
def applyEntries (t : RegisterTarget) : List (Nat × EntryMark) → State → State × List (Nat × RefuseReason)
  | [], s => (s, [])
  | en :: ens, s =>
    let (s, why) := applyEntry t en s
    let (s, rest) := applyEntries t ens s
    match why with
    | none => (s, rest)
    | some w => (s, (en.1, w) :: rest)

/-- The state of a frame's target window (R96). -/
def targetState (s : State) : RegisterTarget → WindowState
  | .form x _ => formState s x
  | .lesson k _ => lessonAt s k

/-- The unmarked count an OK acknowledgement carries (R99). -/
def ackUnmarked (s : State) : RegisterTarget → Option Nat
  | .form x g => some (formAt s x g).unmarked
  | .lesson _ _ => none

/-- A REGISTER that is not malformed, with its acknowledgement (R96). -/
def applyRegister (f : RegisterFrame) (s : State) : State × FieldBody :=
  match targetState s f.target with
  | .notOpened => (s, .registerAck f.sequence .tooEarly 0 0 none [])
  | .closed => (s, .registerAck f.sequence .closed 0 0 none [])
  | .opened =>
    let (s, refused) := applyEntries f.target f.entries s
    (s, .registerAck f.sequence .ok (f.entries.length - refused.length) refused.length (ackUnmarked s f.target)
      (refused.take 8))

/-- A REGISTER delivered to the Register Unit, with its acknowledgement (R95, R99). DEDUCED, log 14. -/
def takeRegister (bs : List Byte) (s : State) : State × FieldBody :=
  match decodeRegister bs with
  | none => (s, .registerAck (sequenceAt 0 bs) .malformed 0 0 none [])
  | some f => applyRegister f s

/-! ### The walks (R101 to R105) -/

/-- Whether an arrival was in good time for the close walk (R101). -/
def inGoodTime (s : State) (reference : Option Nat) (a : Arrival) : Bool :=
  match reference with
  | none => true
  | some t => a.second ≤ t + graceAt s a.gate

/-- The close walk's visit of one slot (R101). -/
def closeVisit (slot : Nat) (x : Session) (reference : Option Nat) (s : State) : State :=
  match entryAt s slot with
  | none => s
  | some e =>
    if (e.day.marks.get x).code ≠ .untaken then s
    else
      match e.day.arrival with
      | some a =>
        if e.day.onSite = .onSite ∧ inGoodTime s reference a = true then
          alert (.unmarkedOnSite e.pupil x e.form a s.sched.second) (requestMark slot x (.close .present) s)
        else requestMark slot x (.close .absent) s
      | none => requestMark slot x (.close .absent) s

/-- The period-end walk's visit of one slot (R104). -/
def periodVisit (slot k : Nat) (s : State) : State :=
  match entryAt s slot with
  | none => s
  | some e =>
    if tabGet LessonMark.unset e.day.lessons k = .absent ∧ e.day.onSite = .onSite then
      let s := alert (.internalAbsence e.pupil k (roomAt s k slot) s.sched.second) s
      if e.day.flags.doneInternal then s else setDue slot .internal s
    else s

/-- Whether the running walk is of a kind. -/
def walkIsClose (w : Walk) : Bool :=
  match w.kind with
  | .close _ _ => true
  | .periodEnd _ => false

/-- A visit at a walk's cursor. -/
def walkVisit (w : Walk) (s : State) : State :=
  match w.kind with
  | .close x ref => closeVisit w.cursor x ref s
  | .periodEnd k => periodVisit w.cursor k s

/-- The running walk moves on one slot; at 3072 it leaves the list and asks for a notice walk (R101, R103, R104). -/
def advanceWalk (s : State) : State :=
  match s.reg.walks with
  | [] => s
  | w :: ws =>
    if Config.rollSlots ≤ w.cursor + 1 then walkRequest (s.modReg fun u => { u with walks := ws })
    else s.modReg fun u => { u with walks := { w with cursor := w.cursor + 1 } :: ws }

/-- One visit of the running walk, if it is of the kind asked for. -/
def walkStep (close : Bool) (s : State) : State :=
  match s.reg.walks with
  | [] => s
  | w :: _ => if walkIsClose w = close then advanceWalk (walkVisit w s) else s

/-! ### Reading, the day's end and restart (R107 to R109) -/

/-- READ_WINDOWS (R107). -/
def reqReadWindows (x : Session) (first count : Nat) (s : State) : State × Status × ReplyData :=
  if 127 < first || count = 0 || 32 < count || 128 < first + count then refuse .badArg s
  else served (.windows
    ((List.range count).map fun i => (first + i, formState s x, formAt s x (first + i)))
    ((List.range 10).map fun i => lessonAt s (i + 1)) s.reg.walks) s

/-- The Register Unit at the day-end notice (R108). -/
def registerDayEnd (s : State) : State :=
  s.modReg fun _ => { form := ⟨⟨.notOpened, []⟩, ⟨.notOpened, []⟩⟩, lessons := [], rooms := [], walks := [] }

/-- The Register Unit at a retained restart: the running walk starts again (R109). -/
def registerRestart (s : State) : State :=
  s.modReg fun u =>
    match u.walks with
    | [] => u
    | w :: ws => { u with walks := { w with cursor := 0 } :: ws }

end Sys2Proof.Machine
end

