-- ==== Sys2Proof/Machine/Segment.lean ====
section
/-! DEFINITION. The Line Unit's field segments (Chapter 8): received frames, exchanges, presence, output, invalid
frames, and the requests of the station table, the poll lists and the ports. -/

namespace Sys2Proof.Machine

open Sys2Proof

/-! ### Presence (R155) -/

/-- The STATION_ABSENT alert of an entry (R155). -/
def absentAlert (n : Nat) (e : Station) (a : Byte) (s : State) : State :=
  alert (.stationAbsent n e.segment a e.kind e.unit) s

/-- The STATION_BACK alert of an entry (R155). -/
def backAlert (n : Nat) (e : Station) (a : Byte) (s : State) : State :=
  alert (.stationBack n e.segment a e.kind e.unit) s

/-- A presence record after an exchange (Table 5 of Chapter 8). -/
def presenceAfter (e : Station) (reply : Bool) : Station :=
  if reply then { e with presence := .present, misses := 0 }
  else
    match e.presence with
    | .absent => { e with misses := 3 }
    | .present =>
      if 2 ≤ e.misses then { e with presence := .absent, misses := 3 } else { e with misses := e.misses + 1 }

/-- Credit an exchange to the classifying entry of its address (R154, R155). -/
def creditExchange (seg : Nat) (a : Byte) (reply : Bool) (s : State) : State :=
  match classify s seg a with
  | none => s
  | some n =>
    let e := stationAt s n
    let e' := presenceAfter e reply
    let s := setStationAt n e' s
    match e.presence, e'.presence with
    | .present, .absent => absentAlert n e a s
    | .absent, .present => backAlert n e a s
    | .present, .present => s
    | .absent, .absent => s

/-! ### Exchanges (R153, R154) -/

/-- The open exchange of a segment ends, and its line becomes free (R154). -/
def closeExchange (seg : Nat) (s : State) : State :=
  segmentChoose seg (setSegmentAt seg { segmentAt s seg with exchange := none } s)

/-- Report the end of a BELL exchange that was not acknowledged (R154). -/
def reportMissed (seg : Nat) (x : Exchange) (s : State) : State :=
  match x.kind with
  | .poll => s
  | .bell n => bellReport seg x.address n false s

/-- The open exchange ends as a miss, credited or not (R154). DEDUCED, log 6. -/
def missExchange (seg : Nat) (x : Exchange) (credited : Bool) (s : State) : State :=
  let s := reportMissed seg x s
  closeExchange seg (if credited then creditExchange seg x.address false s else s)

/-- EXCHANGE_MISS (R154). -/
def takeExchangeMiss (seg : Nat) (s : State) : State :=
  match (segmentAt s seg).exchange with
  | none => s
  | some x => missExchange seg x true s

/-- What a frame opens when it has been sent (R153). -/
def opens (f : FieldFrame) : Option ExchangeKind :=
  match f.body with
  | .poll => some .poll
  | .bell _ _ n => some (.bell n)
  | .gateAnswer _ _ _ _ _ => none
  | .registerAck _ _ _ _ _ _ => none
  | .busy _ _ => none

/-- FIELD_FRAME_SENT: the last byte of the frame being sent has gone (R153, R154). -/
def takeFrameSent (seg : Nat) (s : State) : State :=
  let g := segmentAt s seg
  match g.sending with
  | none => s
  | some f =>
    segmentChoose seg
      (setSegmentAt seg { g with sending := none, exchange := (opens f).map fun k => ⟨f.dest, k⟩ } s)

/-- OUTPUT_QUEUE_ADMIT: the frame that has waited longest outside joins the queue when a place is free (R152). -/
def takeAdmit (seg : Nat) (s : State) : State :=
  let g := segmentAt s seg
  match g.outside with
  | [] => s
  | f :: fs =>
    if g.queue.length < Config.queueFrames then
      let s := segmentChoose seg (setSegmentAt seg (joinQueue { g with outside := fs } f) s)
      if outputClass f = 1 then bellAdmitted s else s
    else s

/-! ### Received frames (R146, R148, R149, R156) -/

/-- TAP's frame code (Table 3 of Chapter 11). -/
def tapCode : Byte := 0x06

/-- REGISTER's frame code. -/
def registerCode : Byte := 0x07

/-- BELL_ACK's frame code. -/
def bellAckCode : Byte := 0x08

/-- NOTHING's frame code. -/
def nothingCode : Byte := 0x09

/-- The direction of a reader kind; `none` for the other kinds (R149). -/
def readerDirection : StationKind → Option Direction
  | .gateIn => some .inward
  | .gateOut => some .outward
  | .terminal => none
  | .sounder => none

/-- Answer BUSY in place of a delivery (R156). -/
def answerBusy (seg : Nat) (a kind : Byte) (sequence : Nat) (s : State) : State :=
  handFrame seg ⟨a, .busy kind sequence⟩ s

/-- A TAP in a POLL exchange (Table 3 of Chapter 8, R156). -/
def deliverTap (seg : Nat) (a : Byte) (e : Station) (bs : List Byte) (s : State) : State :=
  match readerDirection e.kind with
  | none => s
  | some d => if writersHeld s then answerBusy seg a tapCode (sequenceAt 4 bs) s else takeTap e.unit d seg a bs s

/-- A REGISTER in a POLL exchange (Table 3 of Chapter 8, R156). -/
def deliverRegister (seg : Nat) (a : Byte) (e : Station) (bs : List Byte) (s : State) : State :=
  if e.kind ≠ .terminal then s
  else if writersHeld s then answerBusy seg a registerCode (sequenceAt 0 bs) s
  else
    let (s, ack) := takeRegister bs s
    handFrame seg ⟨a, ack⟩ s

/-- A reply in a POLL exchange: presence first, then delivery, and the exchange ends (R149). DESIGN CHOICE, log 26,
unsafe: a NOTHING whose payload is not empty (R176) is a reply like any other. -/
def replyToPoll (seg : Nat) (a : Byte) (e : Station) (kind : Byte) (bs : List Byte) (s : State) : State :=
  let s := creditExchange seg a true s
  let s :=
    if kind = tapCode then deliverTap seg a e bs s
    else if kind = registerCode then deliverRegister seg a e bs s
    else s
  closeExchange seg s

/-- A reply in a BELL exchange: a BELL_ACK of a SOUNDER is delivered as ACKED, any other is MISSED (R149, R154).
DEDUCED, log 6. DESIGN CHOICE, log 26, unsafe: the payload is not read, so that a BELL_ACK whose payload is not empty,
which R176 leaves to the block's rule and no rule treats, counts as ACKED. -/
def replyToBell (seg : Nat) (a : Byte) (e : Station) (kind : Byte) (n : Nat) (s : State) : State :=
  if kind = bellAckCode ∧ e.kind = .sounder then
    closeExchange seg (bellReport seg a n true (creditExchange seg a true s))
  else closeExchange seg (creditExchange seg a true (bellReport seg a n false s))

/-- An exchange with a stranger frame's address ends as a miss credited to no entry (R148, R154). -/
def strangerEnds (seg : Nat) (src : Byte) (s : State) : State :=
  match (segmentAt s seg).exchange with
  | none => s
  | some x => if x.address = src then missExchange seg x false s else s

/-- Whether a stranger frame ends a BELL exchange, so that two blocks may offer alerts (R147, R52). -/
def strangerEndsBell (s : State) (seg : Nat) (src : Byte) : Bool :=
  match (segmentAt s seg).exchange with
  | none => false
  | some x =>
    match x.kind with
    | .poll => false
    | .bell _ => x.address == src

/-- A stranger frame (R148): counted, and it ends the exchange when it comes from the exchange's address (R154). Where
that is a BELL's, the order of the Line Unit's PORT_ERRORS and the Bell Sequencer's BELL_UNCONFIRMED is open (R162).
FREE VALUE, log 7. -/
def strangerFrame (seg : Nat) (src kind : Byte) (bs : List Byte) (s : State) : State :=
  let count := countInvalid (.field seg) .stranger (goodHeader src kind bs.length)
  if strangerEndsBell s seg src then
    let s' := s.countChoice
    if Config.eitherOrder s.choices then count (strangerEnds seg src s') else strangerEnds seg src (count s')
  else strangerEnds seg src (count s)

/-- A good frame that is not a stranger, by the exchange open on its segment (Table 3 of Chapter 8). -/
def classifiedFrame (seg : Nat) (n : Nat) (src kind : Byte) (bs : List Byte) (s : State) : State :=
  match (segmentAt s seg).exchange with
  | none => s
  | some x =>
    if x.address ≠ src then s
    else
      match x.kind with
      | .poll => replyToPoll seg src (stationAt s n) kind bs s
      | .bell m => replyToBell seg src (stationAt s n) kind m s

/-- A good frame addressed to the M24 on a field segment. While the controller is sending, the receiver ignores the
line (R146). DEDUCED, log 6. -/
def fieldFrame (seg : Nat) (src kind : Byte) (bs : List Byte) (s : State) : State :=
  if (segmentAt s seg).sending.isSome then s
  else
    match classify s seg src with
    | none => strangerFrame seg src kind bs s
    | some n => classifiedFrame seg n src kind bs s

/-! ### Invalid frames (R146, R147) -/

/-- Whether a port is sending on a half-duplex line, and so hears nothing (R146). -/
def deaf (s : State) : Port → Bool
  | .uplink => false
  | .gateway => false
  | .field n => (segmentAt s n).sending.isSome

/-- Whether a fault can be found on a port (R146): an overrun needs a frame still held, which the uplink port shows and
which on the gateway port is the moment a PARENT_REPORT is judged (R136), and a stranger frame is a command of its own.
DEDUCED, log 12. -/
def faultArises (s : State) (p : Port) (f : FrameFault) : Bool :=
  match f with
  | .stranger => false
  | .overrun =>
    match p with
    | .uplink => s.line.upHeld.isSome
    | .gateway => true
    | .field _ => false
  | .parity => true
  | .framing => true
  | .short => true
  | .noise => true
  | .length => true
  | .check => true

/-- INVALID_FRAME (R146). -/
def takeInvalid (p : Port) (f : FrameFault) (h : FrameHeader) (s : State) : State :=
  if deaf s p || !faultArises s p f then s else countInvalid p f h s

/-! ### Requests (R150, R151, R157) -/

/-- BAD_ARG of LOAD_STATION (R150). -/
def badStation (a : LoadStationArgs) : Bool :=
  47 < a.entry || !stationAddress a.address || 3 < a.segment || (a.mask != 0xFF && a.kind != .terminal) ||
    match a.kind with
    | .gateIn => 7 < a.unit
    | .gateOut => 7 < a.unit
    | .sounder => 15 < a.unit
    | .terminal => false

/-- The entry LOAD_STATION stores (R150). -/
def loadedStation (a : LoadStationArgs) : Station :=
  { address := a.address, mask := a.mask, segment := a.segment, kind := a.kind,
    unit := if a.kind = .terminal then 0 else a.unit, enabled := a.enabled, presence := .present, misses := 0 }

/-- LOAD_STATION (R150). -/
def reqLoadStation (a : LoadStationArgs) (s : State) : State × Status × ReplyData :=
  if badStation a then refuse .badArg s
  else served (.station (loadedStation a)) (setStationAt a.entry (loadedStation a) s)

/-- LOAD_POLL_LIST (R151). -/
def reqLoadPollList (seg : Nat) (as : List Byte) (s : State) : State × Status × ReplyData :=
  if 3 < seg || 32 < as.length || as.any (fun a => !stationAddress a) then refuse .badArg s
  else if !as.Nodup then refuse .duplicate s
  else served (.pollStored as.length)
    (segmentChoose seg (setSegmentAt seg { segmentAt s seg with poll := as, cursor := 0, cycle := 0 } s))

/-- How many frames of a class a queue holds. -/
def classCount (c : Nat) (q : List FieldFrame) : Nat := q.countP fun f => outputClass f == c

/-- A field segment as READ_PORTS shows it (R157). -/
def segmentView (s : State) (n : Nat) : SegmentView :=
  let g := segmentAt s n
  { addresses := g.poll.length, cursor := g.cursor, cycle := g.cycle, bells := classCount 1 g.queue,
    answers := classCount 2 g.queue, acks := classCount 3 g.queue, outside := g.outside.length,
    exchange := g.exchange }

/-- The ports in order. -/
def allPorts : List Port := [.uplink, .gateway, .field 0, .field 1, .field 2, .field 3]

/-- An error record after a READ_PORTS (R147, R157). -/
def readErrors (clear : Bool) (r : ErrorRecord) : ErrorRecord :=
  if clear then clearedErrors else { r with capture := none, alerted := false }

/-- READ_PORTS, selector PORTS (R157). -/
def reqReadPorts (clear : Bool) (s : State) : State × Status × ReplyData :=
  let data := ReplyData.ports (allPorts.map fun p => (p, errorsAt s p)) ((List.range 4).map (segmentView s))
    s.office.lost
  let s := s.modLine fun u =>
    { u with errors := tabulate clearedErrors 6 fun i => readErrors clear (tabGet clearedErrors u.errors i) }
  served data (s.modOffice fun o => { o with lost := if clear then 0 else o.lost })

/-- READ_PORTS, selector STATIONS (R157). -/
def reqReadStations (first count : Nat) (s : State) : State × Status × ReplyData :=
  if 47 < first || count = 0 then refuse .badArg s
  else served (.stations ((List.range (min (min count 12) (48 - first))).map fun i => stationAt s (first + i))) s

/-- READ_PORTS, selector POLL_LIST (R157). -/
def reqReadPollList (seg : Nat) (s : State) : State × Status × ReplyData :=
  if 3 < seg then refuse .badArg s
  else served (.pollList (segmentAt s seg).poll (segmentAt s seg).cursor (segmentAt s seg).cycle) s

/-! ### Restart (R158) -/

/-- A segment with its queue, frames in flight and exchange gone, and its polling from the start. -/
def restartSegment (g : Segment) : Segment :=
  { g with cursor := 0, cycle := 0, queue := [], outside := [], sending := none, exchange := none }

/-- Every station PRESENT with a miss count of 0, and every queue, exchange, poll cursor and error record cleared
(R158). The frames held and waiting on the uplink and the gateway line are dealt with by the caller. DEDUCED, log
17. -/
def lineRestart (s : State) : State :=
  s.modLine fun u =>
    { u with
      stations := tabulate coldStation 48 fun n =>
        { tabGet coldStation u.stations n with presence := .present, misses := 0 }
      segments := tabulate coldSegment 4 fun n => restartSegment (tabGet coldSegment u.segments n)
      errors := [], upHeld := none, gwHeld := none, gwWaiting := [] }

/-- Let every segment's controller choose in turn. -/
def chooseAll : List Nat → State → State
  | [], s => s
  | n :: ns, s => chooseAll ns (segmentChoose n s)

end Sys2Proof.Machine
end

