-- ==== Sys2Proof/Machine/Schedule.lean ====
section
/-! DEFINITION. The Schedule Unit (Chapter 2): events, swaps, silent runs, rollover triggers and the start of a
settlement, the new day, and the clock, calendar and plan requests. -/

namespace Sys2Proof.Machine

open Sys2Proof

/-! ### Taking an event (R33, R34) -/

/-- An event's side effect (Table 2 of Chapter 2). -/
def eventSide (a : EventAct) (s : State) : State :=
  match a with
  | .bell => s
  | .sessionOpen x => openSession x s
  | .sessionStart _ => s
  | .sessionClose x => closeSession x s
  | .periodStart k => startPeriod k s
  | .periodEnd k => endPeriod k s
  | .gateMode m g => applyGateMode m g s
  | .noticeWindowOpen => openNoticeWindow s
  | .noticeWindowClose => closeNoticeWindow s

/-- The bell job of an event taken sounding, if it rings (R34). -/
def eventJob (e : Event) : Option BellJob :=
  if e.tone = 0 ∨ e.zones = 0 then none
  else some { zones := e.zones, tone := e.tone, duration := e.duration, override := false, origin := .event }

/-- Whether a side effect closes OPEN form windows, and so may raise alerts. -/
def closesForms (s : State) : EventAct → Bool
  | .sessionClose x => formOpen s x
  | .bell => false
  | .sessionOpen _ => false
  | .sessionStart _ => false
  | .periodStart _ => false
  | .periodEnd _ => false
  | .gateMode _ _ => false
  | .noticeWindowOpen => false
  | .noticeWindowClose => false

/-- Whether a job arriving now may raise a BELL_DROPPED alert. -/
def jobMayDrop (s : State) : Bool := jobDiscards s || (List.range 8).any fun n => (inputAt s n).live

/-- Take an event (R33, R34). Where both its bell job and its side effect may raise alerts, their order is open
(R33, R162). FREE VALUE, log 7. -/
def takeEvent (sounding : Bool) (e : Event) (s : State) : State :=
  match if sounding then eventJob e else none with
  | none => eventSide e.act s
  | some j =>
    if closesForms s e.act && jobMayDrop s then
      let s' := s.countChoice
      if Config.eitherOrder s.choices then eventSide e.act (takeJob j s') else takeJob j (eventSide e.act s')
    else takeJob j (eventSide e.act s)

/-! ### The cursor and swaps (R35, R37, R38) -/

/-- The cursor at the first event after a time. -/
def seatCursor (es : List Event) (t : Nat) : Cursor :=
  match es.findIdx? fun e => t < e.time with
  | some i => .next i
  | none => .past

/-- The cursor past index `i` of a plan (R35). -/
def cursorAfter (es : List Event) (i : Nat) : Cursor := if i + 1 < es.length then .next (i + 1) else .past

/-- The cursor at the first event of a plan, or past the last of an empty one (R40). -/
def firstCursor (es : List Event) : Cursor := if es.isEmpty then .past else .next 0

/-- Whether an act's time in the active plan is missing or at or before a time (R38). -/
def gone (s : State) (a : EventAct) (t : Nat) : Bool :=
  match lookupTime s a with
  | none => true
  | some c => c ≤ t

/-- Closes without an event for the sessions of a list (R38). -/
def closeSessions (t : Nat) : List Session → State → State
  | [], s => s
  | x :: xs, s => closeSessions t xs (if gone s (.sessionClose x) t then closeSession x s else s)

/-- Closes without an event for the periods of a list (R38). -/
def closePeriods (t : Nat) : List Nat → State → State
  | [], s => s
  | k :: ks, s => closePeriods t ks (if gone s (.periodEnd k) t then endPeriod k s else s)

/-- A swap to plan `p` at time `t` (R38). -/
def swapTo (p t : Nat) (s : State) : State :=
  let s := s.modSched fun u =>
    { u with active := some p, staged := none, cursor := seatCursor (tabGet [] u.plans p) t }
  closePeriods t ((List.range 10).map (· + 1)) (closeSessions t [.am, .pm] s)

/-- Carry out a pending stage at time `t`. -/
def swapStaged (t : Nat) (s : State) : State :=
  match s.sched.staged with
  | none => s
  | some p => swapTo p t s

/-- Whether the cursor stands at the first event or past the last (R37). -/
def atEdge (c : Cursor) : Bool :=
  match c with
  | .next i => i == 0
  | .past => true
  | .absent => false

/-- A pending stage is carried out at once when the cursor stands at the first event or past the last (R37).
DEDUCED, log 18. -/
def swapAtEdge (s : State) : State := if atEdge s.sched.cursor then swapStaged s.sched.second s else s

/-- The event under the cursor with its index. -/
def nextEvent (s : State) : Option (Nat × Event) :=
  match s.sched.cursor with
  | .next i => ((activeEvents s)[i]?).map fun e => (i, e)
  | .past => none
  | .absent => none

/-- Take the event under the cursor, advance past it, and swap after a boundary event (R35, R38). -/
def takeNextEvent (sounding : Bool) (i : Nat) (e : Event) (s : State) : State :=
  let es := activeEvents s
  let s := (takeEvent sounding e s).modSched fun u => { u with cursor := cursorAfter es i }
  if e.boundary then swapStaged e.time s else s

/-- Take every event after `t1` (from the start of the day when absent) and at or before `t2`. DEDUCED, log 18. -/
def runEvents (sounding : Bool) (t1 : Option Nat) (t2 : Nat) : Nat → State → State
  | 0, s => s
  | fuel + 1, s =>
    match nextEvent s with
    | none => s
    | some (i, e) =>
      if t2 < e.time then s
      else if (match t1 with | none => true | some t => decide (t < e.time)) then
        runEvents sounding t1 t2 fuel (takeNextEvent sounding i e s)
      else
        let es := activeEvents s
        runEvents sounding t1 t2 fuel (s.modSched fun u => { u with cursor := cursorAfter es i })

/-- Write the last processed time, with the clock's day (R35). -/
def setProcessed (t : Nat) (s : State) : State := s.modSched fun u => { u with lastSecond := t, lastDay := u.day }

/-- A silent run (R34). -/
def silentRun (t1 : Option Nat) (t2 : Nat) (s : State) : State :=
  setProcessed t2 (swapAtEdge (runEvents false t1 t2 65 s))

/-- The events a tick takes sounding, and the last processed time (R35). -/
def tickEvents (s : State) : State :=
  setProcessed s.sched.second (swapAtEdge (runEvents true none s.sched.second 65 s))

/-! ### Rollover (R15, R39, R40) -/

/-- The day-end notice to the Gate Unit, the Register Unit and the Message Unit (R39). -/
def dayEndNotice (s : State) : State := messageDayEnd (registerDayEnd (gateDayEnd s))

/-- The Roll Store starts a settlement into a new day, and the day-end notice follows (R15, R39). DESIGN CHOICE, log 24,
unsafe: it follows in the same step, before any mark-change notification of the settlement (R144). -/
def startSettlement (day : Nat) (s : State) : State :=
  dayEndNotice (s.modRoll fun u => { u with rollState := .rollover day, cursor := 0 })

/-- Whether the Roll Store can start a settlement now (R15). -/
def maySettle (s : State) : Bool := !rollingOver s && !walkRunning s

/-- A trigger reaches the Roll Store, which starts or holds its settlement (R15). DEDUCED, log 3. -/
def passTrigger (day : Nat) (s : State) : State :=
  if maySettle s && s.roll.heldTriggers.isEmpty then startSettlement day s
  else s.modRoll fun u => { u with heldTriggers := u.heldTriggers ++ [day] }

/-- A rollover trigger (R39). -/
def rolloverTrigger (day : Nat) (s : State) : State :=
  passTrigger day (s.modSched fun u =>
    { u with active := none, cursor := .absent, staged := none, state := .ending, outstanding := u.outstanding + 1,
             lastDay := day })

/-- The settlement of the oldest held trigger starts, when nothing holds it (R15). -/
def takeSettlementStart (s : State) : State :=
  match s.roll.heldTriggers with
  | [] => s
  | d :: ds => if maySettle s then startSettlement d (s.modRoll fun u => { u with heldTriggers := ds }) else s

/-- The plan the calendar gives a day; day 366 is CLOSED (R29, R31). -/
def calendarPlan (s : State) (day : Nat) : Option Nat := if 365 < day then none else tabFind s.sched.calendar day

/-- The new day begins (R40). -/
def beginDay (s : State) : State :=
  match calendarPlan s s.sched.day with
  | some p =>
    silentRun none s.sched.second (s.modSched fun u =>
      { u with active := some p, cursor := firstCursor (tabGet [] u.plans p), state := .active })
  | none =>
    setProcessed s.sched.second (s.modSched fun u =>
      { u with active := none, cursor := .absent, state := .closedDay })

/-! ### Setting the clock (R41 to R44) -/

/-- SET_CLOCK on an UNSET clock (R41). -/
def setUnsetClock (day second : Nat) (s : State) : State :=
  beginDay ((s.modSched fun u => { u with clock := .set, day := day, second := second }).modRoll fun u =>
    { u with roll := u.roll.map fun p => (p.1, { p.2 with recordDay := day }) })

/-- SET_CLOCK to another day (R42). -/
def setOtherDay (day second : Nat) (s : State) : State :=
  rolloverTrigger day (s.modSched fun u => { u with day := day, second := second })

/-- SET_CLOCK to a later second of the same day (R43). DEDUCED, log 18. -/
def setForward (second : Nat) (s : State) : State :=
  let old := s.sched.second
  let s := s.modSched fun u => { u with second := second }
  if s.sched.state = .active then silentRun (some old) second s else s

/-- SET_CLOCK to an earlier second of the same day (R44). -/
def setBackward (second : Nat) (s : State) : State :=
  let es := activeEvents s
  let s := s.modSched fun u => { u with second := second }
  if s.sched.state = .active then
    swapAtEdge (setProcessed second (s.modSched fun u => { u with cursor := seatCursor es second }))
  else s

/-- The case of SET_CLOCK by the clock it finds (R41 to R44). -/
def setClock (day second : Nat) (s : State) : State :=
  if s.sched.clock = .unset then setUnsetClock day second s
  else if day ≠ s.sched.day then setOtherDay day second s
  else if s.sched.second < second then setForward second s
  else if second < s.sched.second then setBackward second s
  else s

/-- SET_CLOCK (R41). -/
def reqSetClock (day second : Nat) (s : State) : State × Status × ReplyData :=
  if 365 < day || Config.lastSecond < second then refuse .badArg s
  else if s.sched.state = .ending || s.office.catchUp then refuse .busy s
  else
    let s := setClock day second s
    served (.clock s.sched.day s.sched.second s.sched.state) (tryOffers s)

/-! ### Staging (R37) -/

/-- STAGE_PLAN in the ACTIVE state (R37). DESIGN CHOICE, log 22, unsafe: the reply for the plan already active carries
the swap flag clear. -/
def stageActive (p : Nat) (s : State) : State × Status × ReplyData :=
  if s.sched.active = some p then served (.stage false) (s.modSched fun u => { u with staged := none })
  else
    let s := s.modSched fun u => { u with staged := some p }
    served (.stage (atEdge s.sched.cursor)) (tryOffers (swapAtEdge s))

/-- STAGE_PLAN (R37). DESIGN CHOICE, log 22, unsafe: the reply on a CLOSED_DAY carries the swap flag set. -/
def reqStagePlan (p : Nat) (s : State) : State × Status × ReplyData :=
  if 7 < p then refuse .badArg s
  else if s.office.catchUp then refuse .state s
  else
    match s.sched.state with
    | .unset => refuse .state s
    | .ending => refuse .state s
    | .active => stageActive p s
    | .closedDay =>
      served (.stage true) (tryOffers (swapTo p s.sched.second (s.modSched fun u => { u with state := .active })))

/-! ### Loading and reading plans and the calendar (R31, R45 to R48) -/

/-- An event field outside its values (R45). -/
def badEvent (e : Event) : Bool :=
  Config.lastSecond < e.time || 7 < e.tone || e.duration = 0 || 30 < e.duration ||
    match e.act with
    | .periodStart k => k = 0 || 10 < k
    | .periodEnd k => k = 0 || 10 < k
    | .bell => false
    | .sessionOpen _ => false
    | .sessionStart _ => false
    | .sessionClose _ => false
    | .gateMode _ _ => false
    | .noticeWindowOpen => false
    | .noticeWindowClose => false

/-- The times of an act in a list of events. -/
def timesOf (a : EventAct) (es : List Event) : List Nat := (es.filter fun e => e.act == a).map (·.time)

/-- Whether every time of one act is before every time of another. -/
def allBefore (a b : EventAct) (es : List Event) : Bool :=
  (timesOf a es).all fun t => (timesOf b es).all fun u => t < u

/-- Whether an act occurs at most once. -/
def atMostOnce (a : EventAct) (es : List Event) : Bool := (timesOf a es).length ≤ 1

/-- The conditions of R32 for one session. -/
def sessionOk (es : List Event) (x : Session) : Bool :=
  atMostOnce (.sessionOpen x) es && atMostOnce (.sessionStart x) es && atMostOnce (.sessionClose x) es
    && allBefore (.sessionOpen x) (.sessionStart x) es && allBefore (.sessionOpen x) (.sessionClose x) es
    && allBefore (.sessionStart x) (.sessionClose x) es

/-- The conditions of R32 for one period. -/
def periodOk (es : List Event) (k : Nat) : Bool :=
  atMostOnce (.periodStart k) es && atMostOnce (.periodEnd k) es && allBefore (.periodStart k) (.periodEnd k) es

/-- Whether times rise strictly. -/
def timesRise : List Event → Bool
  | [] => true
  | [_] => true
  | a :: b :: es => a.time < b.time && timesRise (b :: es)

/-- The conditions a plan keeps (R32). -/
def planOk (es : List Event) : Bool :=
  timesRise es && sessionOk es .am && sessionOk es .pm && allBefore (.sessionOpen .am) (.sessionOpen .pm) es
    && (List.range 10).all fun i => periodOk es (i + 1)

/-- BAD_ARG of a LOAD_PLAN part (R45). -/
def badPart (plan start : Nat) (es : List Event) (final : Bool) : Bool :=
  7 < plan || 16 < es.length || (es.isEmpty && !(final && start = 0)) || es.any badEvent || 32 < start + es.length

/-- The events a part's plan has received before it; `none` when the part does not continue the build (R45). -/
def buildBefore (s : State) (plan start : Nat) : Option (List Event) :=
  if start = 0 then some []
  else
    match s.sched.build with
    | none => none
    | some b => if b.plan = plan ∧ b.events.length = start then some b.events else none

/-- A part that R45 accepts: held, or, when final, checked and stored (R46). -/
def acceptPart (plan : Nat) (all : List Event) (final : Bool) (s : State) : State × Status × ReplyData :=
  if !final then served (.eventCount all.length) (s.modSched fun u => { u with build := some ⟨plan, all⟩ })
  else if planOk all then
    served (.eventCount all.length)
      (s.modSched fun u => { u with plans := tabSet [] plan all u.plans, build := none })
  else refuse .badArg s

/-- LOAD_PLAN (R45, R46). -/
def reqLoadPlan (plan start : Nat) (es : List Event) (final : Bool) (s : State) : State × Status × ReplyData :=
  if badPart plan start es final then refuse .badArg s
  else if s.sched.active = some plan || s.sched.staged = some plan then refuse .state s
  else
    match buildBefore s plan start with
    | none => refuse .state s
    | some before => acceptPart plan (before ++ es) final s

/-- READ_PLAN, selector PLAN (R47). -/
def reqReadPlan (p start : Nat) (s : State) : State × Status × ReplyData :=
  if 7 < p || (planAt s p).length < start then refuse .badArg s
  else served (.planEvents (planAt s p).length (((planAt s p).drop start).take 16)) s

/-- A day's calendar entry (R31). -/
def calendarEntry (s : State) (day : Nat) : CalEntry :=
  match calendarPlan s day with
  | some p => .plan p
  | none => .closed

/-- READ_PLAN, selector CALENDAR (R47). -/
def reqReadCalendar (first count : Nat) (s : State) : State × Status × ReplyData :=
  if count = 0 || 200 < count || 366 < first + count then refuse .badArg s
  else served (.calendar ((List.range count).map fun i => calendarEntry s (first + i))) s

/-- Write consecutive calendar entries. -/
def writeCalendar (first : Nat) : List CalEntry → Table Nat → Table Nat
  | [], t => t
  | .plan p :: es, t => writeCalendar (first + 1) es (tabInsert first p t)
  | .closed :: es, t => writeCalendar (first + 1) es (tabErase first t)

/-- An entry that names no plan 0 to 7. -/
def badCalEntry : CalEntry → Bool
  | .plan p => 7 < p
  | .closed => false

/-- LOAD_CALENDAR (R31). -/
def reqLoadCalendar (first : Nat) (es : List CalEntry) (s : State) : State × Status × ReplyData :=
  if es.isEmpty || 200 < es.length || 366 < first + es.length || es.any badCalEntry then refuse .badArg s
  else served .none (s.modSched fun u => { u with calendar := writeCalendar first es u.calendar })

/-- READ_CLOCK (R48). -/
def reqReadClock (s : State) : State × Status × ReplyData :=
  served (.schedule
    { clock := s.sched.clock,
      time := if s.sched.clock = .set then some (s.sched.day, s.sched.second) else none,
      state := s.sched.state, active := s.sched.active, staged := s.sched.staged, cursor := s.sched.cursor,
      next := (nextEvent s).map Prod.snd, lastSecond := s.sched.lastSecond, lastDay := s.sched.lastDay,
      today := calendarEntry s s.sched.day, outstanding := s.sched.outstanding }) s

end Sys2Proof.Machine
end

