-- ==== Sys2Proof/Machine/Settle.lean ====
section
/-! DEFINITION. Settlement at rollover (R15 to R19) and its completion (R40, R173). -/

namespace Sys2Proof.Machine

open Sys2Proof

/-- Count one session mark in P and A, up to P = 1023 (R16). -/
def countAttended (code : MarkCode) (t : TermRecord) : TermRecord :=
  if countsInP code && t.p < 1023 then { t with p := t.p + 1, a := if countsInA code then t.a + 1 else t.a } else t

/-- Count one session mark in U (R16). -/
def countUnexplained (code : MarkCode) (t : TermRecord) : TermRecord :=
  if countsInU code then { t with u := satAdd 1023 t.u 1 } else t

/-- Count one session mark (R16). -/
def countMark (code : MarkCode) (t : TermRecord) : TermRecord := countUnexplained code (countAttended code t)

/-- Whether a code is a late one (R17). -/
def isLate : MarkCode → Bool
  | .late => true
  | .lateAfterClose => true
  | .untaken => false
  | .present => false
  | .absent => false
  | .excused => false
  | .offsite => false
  | .notRequired => false

/-- Count the day's lateness once (R17). -/
def countLateness (d : DayRecord) (t : TermRecord) : TermRecord :=
  { t with lateCount := satAdd 1023 t.lateCount (if isLate d.marks.am.code || isLate d.marks.pm.code then 1 else 0)
           lateMinutes := satAdd 65535 t.lateMinutes d.minutesLate }

/-- The level at or above which the concern flag is cleared (R18). -/
def clearingLevel (p : Params) : Nat := min 1000 (p.threshold + p.hysteresis)

/-- The concern flag after a night (R18). -/
def concernAfter (p : Params) (t : TermRecord) : Bool :=
  if t.concern then attendance t < clearingLevel p
  else p.pmin ≤ t.p && attendance t < p.threshold

/-- Whether a night raises concern (R18). -/
def concernRaised (p : Params) (t : TermRecord) : Bool := !t.concern && concernAfter p t

/-- The counts of a slot's term record at settlement, before concern (R16, R17). -/
def settledCounts (e : RollEntry) : TermRecord :=
  countLateness e.day (countMark e.day.marks.pm.code (countMark e.day.marks.am.code e.term))

/-- A slot's entry with its term figures settled and its day record cleared (R16 to R19). -/
def settledEntry (p : Params) (e : RollEntry) : RollEntry :=
  { e with day := clearedDay, term := { settledCounts e with concern := concernAfter p (settledCounts e) } }

/-- The mark-change notification of a cleared mark (R19). -/
def notifyCleared (slot : Nat) (x : Session) (old : MarkCode) (s : State) : State :=
  if old = .untaken then s else markChanged slot x old .untaken s

/-- Settle a filled slot whole, into a new day (R16 to R19). -/
def settleEntry (slot day : Nat) (e : RollEntry) (s : State) : State :=
  let raised := concernRaised s.office.params (settledCounts e)
  let s := modEntry slot (settledEntry s.office.params) s
  let s := notifyCleared slot .pm e.day.marks.pm.code (notifyCleared slot .am e.day.marks.am.code s)
  let s := adjustOnSite e.day.onSite .offSite s
  let s := if raised then setDue slot .concern s else s
  let s := settleExcuses slot day s
  modEntry slot (fun e => { e with recordDay := day }) s

/-- Settle the slot at the cursor: an empty slot, or one already settled into the day, is passed over (R15). -/
def settleCursor (day : Nat) (s : State) : State :=
  match entryAt s s.roll.cursor with
  | none => s
  | some e => if e.recordDay = day then s else settleEntry s.roll.cursor day e s

/-- The end of catch-up (R173). -/
def endCatchUp (s : State) : State := s.modOffice fun o => { o with catchUp := false }

/-- A settlement is complete: the roll is NORMAL, and the new day begins when none is outstanding (R15, R40, R173). -/
def completeSettlement (s : State) : State :=
  let s := (s.modRoll fun u => { u with rollState := .normal }).modSched
    fun u => { u with outstanding := u.outstanding - 1 }
  if s.sched.outstanding = 0 then endCatchUp (beginDay s) else s

/-- One step of the settlement walk (R15). DESIGN CHOICE, log 4. -/
def takeSettleSlot (s : State) : State :=
  match s.roll.rollState with
  | .normal => s
  | .rollover day =>
    let s := if Config.rollSlots ≤ s.roll.cursor then s else settleCursor day s
    if Config.rollSlots ≤ s.roll.cursor + 1 then
      tryOffers (completeSettlement (s.modRoll fun u => { u with cursor := Config.rollSlots }))
    else s.modRoll fun u => { u with cursor := u.cursor + 1 }

end Sys2Proof.Machine
end

