-- ==== Sys2Proof/Machine/Restart.lean ====
section
/-! DEFINITION. The seconds tick (R28), and retention: power, cold start, retained restart and catch-up
(Chapter 10). -/

namespace Sys2Proof.Machine

open Sys2Proof

/-! ### The seconds tick (R28 to R30) -/

/-- An outcome timer falls by one (R139). -/
def tickNotice (n : Notice) : Notice := if n.state = .queued then n else { n with timer := n.timer - 1 }

/-- Time-outs left over from the tick before are taken first. -/
def takeTimeouts : List Notice → State → State
  | [], s => s
  | n :: ns, s => takeTimeouts ns (takeTimeout n.number s)

/-- Expiries whose timers already stand at 0. DESIGN CHOICE, logs 2 and 21, unsafe: gates ascending, then records in
queue order. -/
def takeExpiries (s : State) : State := takeTimeouts s.msg.notices (eachGate takeReferralExpiry (List.range 8) s)

/-- The timers that count the tick in either clock state (R54, R69, R81, R139). -/
def tickTimers (s : State) : State :=
  let s := eachGate tickGate (List.range 8) s
  tickSounding (s.modMsg fun m => { m with notices := m.notices.map tickNotice })

/-- The clock one second on, and whether a wrap has raised the day number (R28, R29). -/
def advanceClock (u : ScheduleUnit) : ScheduleUnit × Bool :=
  if u.clock = .unset then (u, false)
  else if u.second < Config.lastSecond then ({ u with second := u.second + 1 }, false)
  else if u.day < Config.outOfYear then ({ u with second := 0, day := u.day + 1 }, true)
  else ({ u with second := 0 }, false)

/-- The clock advances without main power: no event is taken and no trigger is passed (R30). -/
def tickClockOnly (s : State) : State := s.modSched fun u => (advanceClock u).1

/-- The clock advances on main power: a wrap passes its trigger, and the events whose time has come are taken. -/
def tickClock (s : State) : State :=
  if s.sched.clock = .unset then s
  else
    let wrapped := (advanceClock s.sched).2
    let s := tickClockOnly s
    tickEvents (if wrapped then rolloverTrigger s.sched.day s else s)

/-- SECONDS_TICK on main power (R28). DEDUCED, log 2: the order of the parts. -/
def takeTick (s : State) : State := tryOffers (bellRun (tickClock (tickTimers (takeExpiries s))))

/-! ### Cold start and CLEAR_ALL (R169) -/

/-- Every item at its cold start value. The backup monitor's finding, the commands waiting and the orders settled are
no items of the part's records. DEDUCED, log 17. -/
def coldStart (s : State) : State :=
  { State.reset with
    choices := s.choices
    pending := s.pending
    office := { State.reset.office with backupLow := s.office.backupLow, retentionValid := !s.office.backupLow } }

/-- CLEAR_ALL's cold start: a frame that has begun to be sent is not cut short (R161, R169). DEDUCED, log 17. -/
def clearAll (s : State) : State :=
  (coldStart s).modLine fun u => { u with upSending := s.line.upSending, gwSending := s.line.gwSending }

/-- CLEAR_ALL (R169). -/
def reqClearAll (s : State) : State × Status × ReplyData :=
  let s := clearAll s
  served (.cleared s.office.retentionValid) s

/-! ### Retained restart (R170) -/

/-- The first stage: reports discarded and counted, and the Line Unit restarted. -/
def restartFirst (s : State) : State :=
  lineRestart (s.modOffice fun o => { o with lost := satAdd 65535 o.lost o.reports.length, reports := [] })

/-- Whether both the Gate Unit and the Message Unit have reports to make at a restart. -/
def bothReport (s : State) : Bool :=
  ((List.range 8).any fun g => (gateAt s g).referral.isSome)
    && s.msg.notices.any fun n => n.state == .withdrawnPending

/-- The Gate Unit and the Message Unit restart, in either order (R170). FREE VALUE, log 7. -/
def restartGateMessage (s : State) : State :=
  if bothReport s then
    let s' := s.countChoice
    if Config.eitherOrder s.choices then gateRestart (messageRestart s') else messageRestart (gateRestart s')
  else messageRestart (gateRestart s)

/-- The second stage: every other block restarts by its own rule. -/
def restartSecond (s : State) : State :=
  (registerRestart (restartGateMessage (bellRestart s))).modSched fun u => { u with build := none }

/-- The days catch-up passes triggers for (R172). -/
def missedDays (s : State) : List Nat :=
  if s.sched.clock = .set then (List.range (s.sched.day - s.sched.lastDay)).map fun i => s.sched.lastDay + 1 + i
  else []

/-- Pass a trigger for each day of a list (R172). -/
def passTriggers : List Nat → State → State
  | [], s => s
  | d :: ds, s => passTriggers ds (rolloverTrigger d s)

/-- The day-end notice of a settlement found in progress (R170). -/
def resumeSettlement (s : State) : State := if rollingOver s then dayEndNotice s else s

/-- Catch-up brings the day's events up to date when no settlement is outstanding (R173). DEDUCED, log 18. -/
def catchUpEvents (s : State) : State :=
  if s.sched.state = .active ∧ s.sched.lastSecond < s.sched.second then
    silentRun (some s.sched.lastSecond) s.sched.second s
  else setProcessed s.sched.second s

/-- The third stage: catch-up begins, and ends at once when it has no settlement to wait for (R172, R173). -/
def beginCatchUp (s : State) : State :=
  let days := missedDays s
  let s := s.modOffice fun o => { o with catchUp := true }
  let s := passTriggers days (resumeSettlement s)
  if s.sched.outstanding = 0 then endCatchUp (catchUpEvents s) else s

/-- RESTART (R171). DEDUCED, log 17. DESIGN CHOICE, log 17, unsafe: the reply carries the retention-valid flag as it
stands after it has been set again. -/
def reqRestart (s : State) : State × Status × ReplyData :=
  let s := restartFirst s
  let lost := s.office.lost
  let s := restartSecond s
  let triggers := (missedDays s).length
  let s := beginCatchUp s
  let s := s.modOffice fun o => { o with retentionValid := o.retentionValid || !o.backupLow }
  let s := chooseAll (List.range 4) s
  served (.restart s.office.retentionValid s.sched.state s.office.catchUp triggers lost) s

/-! ### Power (R168, R169) -/

/-- The frames being sent are cut off (R168). DEDUCED, log 17. -/
def cutFrames (s : State) : State :=
  s.modLine fun u =>
    { u with upSending := none, gwSending := none,
             segments := tabulate coldSegment 4 fun n => { tabGet coldSegment u.segments n with sending := none } }

/-- POWER_FAIL (R168): the part stops, and its relays open. -/
def takePowerFail (s : State) : State :=
  if s.office.powered then (openRelays (cutFrames s)).modOffice fun o => { o with powered := false } else s

/-- A retained restart on the return of main power (R158, R159, R170): the request in hand is discarded too. -/
def powerRestart (s : State) : State :=
  let s := s.modOffice fun o => { o with powered := true, agent := .idle, reply := none }
  chooseAll (List.range 4) (beginCatchUp (restartSecond (restartFirst s)))

/-- POWER_UP (R169). -/
def takePowerUp (s : State) : State :=
  if s.office.powered then s
  else if s.office.retentionValid then powerRestart s
  else coldStart s

/-- BACKUP_LOW (R168): below its threshold, the supply holds the flag clear. DEDUCED, log 17. -/
def takeBackupLow (below : Bool) (s : State) : State :=
  s.modOffice fun o => { o with backupLow := below, retentionValid := o.retentionValid && !below }

end Sys2Proof.Machine
end

