-- ==== Sys2Proof/Machine/Uplink.lean ====
section
/-! DEFINITION. The Office Agent (Chapter 9): parameters, the judgement of a taken frame, replies, and the uplink's
traffic. -/

namespace Sys2Proof.Machine

open Sys2Proof

/-! ### Parameters (R164 to R166) -/

/-- A parameter's range (Table 5 of Chapter 9). -/
def paramRange : ParamName → Nat × Nat
  | .grace => (0, 300)
  | .dupWindow => (0, 15)
  | .referralTimeout => (10, 250)
  | .outcomeTimeout => (30, 600)
  | .retryGap => (60, 3600)
  | .threshold => (500, 990)
  | .hysteresis => (0, 50)
  | .pmin => (0, 100)
  | .portThreshold => (1, 255)

/-- A value clamped to its parameter's range (R165). -/
def clampParam (n : ParamName) (v : Nat) : Nat := max (paramRange n).1 (min (paramRange n).2 v)

/-- What an item names: a parameter, or one gate's grace. -/
def itemKey (x : ParamItem) : ParamName × Option Nat := (x.name, if x.name = .grace then x.gate else none)

/-- A grace item that names no gate or a gate above 7 (R165). -/
def badItem (x : ParamItem) : Bool :=
  x.name == .grace && match x.gate with
    | none => true
    | some g => decide (7 < g)

/-- Write one item, clamped (R165). -/
def writeParam (p : Params) (x : ParamItem) : Params :=
  let v := clampParam x.name x.value
  match x.name with
  | .grace => { p with grace := tabSet defaultGrace (x.gate.getD 0) v p.grace }
  | .dupWindow => { p with dupWindow := v }
  | .referralTimeout => { p with referralTimeout := v }
  | .outcomeTimeout => { p with outcomeTimeout := v }
  | .retryGap => { p with retryGap := v }
  | .threshold => { p with threshold := v }
  | .hysteresis => { p with hysteresis := v }
  | .pmin => { p with pmin := v }
  | .portThreshold => { p with portThreshold := v }

/-- SET_PARAMS (R165). -/
def reqSetParams (items : List ParamItem) (s : State) : State × Status × ReplyData :=
  if items.isEmpty || 16 < items.length || items.any badItem then refuse .badArg s
  else if !(items.map itemKey).Nodup then refuse .duplicate s
  else
    let p := items.foldl writeParam s.office.params
    served (.params p (items.map fun x => clampParam x.name x.value != x.value))
      (s.modOffice fun o => { o with params := p })

/-- READ_PARAMS (R166). -/
def reqReadParams (s : State) : State × Status × ReplyData := served (.params s.office.params []) s

/-! ### Judging a taken frame (R160) -/

/-- The rule that specifies each request (Table 3 of Chapter 9). -/
def serve (r : Request) (s : State) : State × Status × ReplyData :=
  match r with
  | .loadRoll a => reqLoadRoll a s
  | .readRoll sel => reqReadRoll sel s
  | .dropRoll p => reqDropRoll p s
  | .loadFamily f held cs => reqLoadFamily f held cs s
  | .readFamily f => reqReadFamily f s
  | .setMark p x c => reqSetMark p x c s
  | .adjustCounts a => reqAdjustCounts a s
  | .loadCalendar first es => reqLoadCalendar first es s
  | .stagePlan p => reqStagePlan p s
  | .setClock d t => reqSetClock d t s
  | .loadPlan p start es final => reqLoadPlan p start es final s
  | .readPlanPlan p start => reqReadPlan p start s
  | .readPlanCalendar first count => reqReadCalendar first count s
  | .readClock => reqReadClock s
  | .ring z tone d o => reqRing z tone d o s
  | .loadInputs es => reqLoadInputs es s
  | .setRelay n o z => reqSetRelay n o z s
  | .setGateMode m g => reqSetGateMode m g s
  | .answerReferral g n d => reqAnswerReferral g n d s
  | .readMovements start count => reqReadMovements start count s
  | .readGates => reqReadGates s
  | .readWindows x first count => reqReadWindows x first count s
  | .addExcuse a => reqAddExcuse a s
  | .removeExcuse p first last => reqRemoveExcuse p first last s
  | .readExcuses sel start count => reqReadExcuses sel start count s
  | .sendNotice f t ps => reqSendNotice f t ps s
  | .readNotices sel start count => reqReadNotices sel start count s
  | .loadTemplates es => reqLoadTemplates es s
  | .loadStation a => reqLoadStation a s
  | .loadPollList g as => reqLoadPollList g as s
  | .readPortsPorts clear => reqReadPorts clear s
  | .readPortsStations first count => reqReadStations first count s
  | .readPortsPollList g => reqReadPollList g s
  | .setParams items => reqSetParams items s
  | .readParams => reqReadParams s
  | .restart => reqRestart s
  | .clearAll => reqClearAll s

/-- A request's reply. -/
def replyOf (tag : Byte) (code : Nat) (r : State × Status × ReplyData) : State × Reply :=
  (r.1, { tag := tag, request := some code, status := r.2.1, data := r.2.2 })

/-- A refusal before any block sees the frame (R160). -/
def rejected (tag : Byte) (code : Option Nat) (s : State) : State × Reply :=
  (s, { tag := tag, request := code, status := .badArg, data := .none })

/-- REQUEST's frame code (Table 3 of Chapter 11). -/
def requestFrameCode : Byte := 0x0F

/-- Judge a frame still in bytes (R160). -/
def judgeRaw (tag kind : Byte) (bs : List Byte) (s : State) : State × Reply :=
  if kind ≠ requestFrameCode then rejected tag none s
  else
    match bs with
    | [] => rejected tag none s
    | b :: rest =>
      match decodeArgs b.toNat rest with
      | none => rejected tag (some b.toNat) s
      | some r => replyOf tag b.toNat (serve r s)

/-- Judge a taken frame (R160). -/
def judgeFrame (f : UplinkIn) (s : State) : State × Reply :=
  match f.body with
  | .request r =>
    if countsOk r then replyOf f.header.tag (requestCode r) (serve r s)
    else rejected f.header.tag (some (requestCode r)) s
  | .raw kind bs => judgeRaw f.header.tag kind bs s

/-! ### Replies and the uplink's traffic (R159, R161) -/

/-- The reply goes ahead of a report that became ready with it (R161): the report stays at the front of the queue, and
where the request's later reports filled the queue, the last of them has no place and is lost (R163). -/
def replyFirst (reply : Reply) (r : Report) (s : State) : State :=
  (s.modOffice fun o =>
    { o with reports := (r :: o.reports).take Config.reportSlots
             lost := if reportRoom s then o.lost else satAdd 65535 o.lost 1 }).modLine
    fun u => { u with upSending := some (.reply reply) }

/-- Place a reply in the buffer (R160). `free` says whether the line was free when the request was taken: a report
that has since taken the line became ready together with the reply, and the order is open (R161). FREE VALUE, log
7. -/
def placeReply (free : Bool) (reply : Reply) (s : State) : State :=
  let s := s.modOffice fun o => { o with agent := .replying, reply := some reply }
  match free, s.line.upSending with
  | true, some (.report r) =>
    let s' := s.countChoice
    if Config.eitherOrder s.choices then replyFirst reply r s' else s'
  | true, some (.reply _) => s
  | true, none => uplinkChoose s
  | false, _ => uplinkChoose s

/-- The Office Agent takes a frame and carries it out to its reply (R159, R160). -/
def takeUplink (f : UplinkIn) (s : State) : State :=
  let free := s.line.upSending.isNone
  let (s, reply) := judgeFrame f (s.modOffice fun o => { o with agent := .working })
  placeReply free reply s

/-- The header of a good frame on the uplink. -/
def uplinkHeader (f : UplinkIn) : FrameHeader :=
  match f.body with
  | .request r => goodHeader f.header.src requestFrameCode (encodeRequest r).length
  | .raw kind bs => goodHeader f.header.src kind bs.length

/-- A good frame arrives on the uplink: taken at once when the agent is IDLE, else held, else an overrun (R159).
DEDUCED, log 5. -/
def uplinkArrive (f : UplinkIn) (s : State) : State :=
  if s.office.agent = .idle then takeUplink f s
  else
    match s.line.upHeld with
    | none => s.modLine fun u => { u with upHeld := some f }
    | some _ => countInvalid .uplink .overrun (uplinkHeader f) s

/-- The agent takes the frame held behind the request that has ended (R159). -/
def takeHeld (s : State) : State :=
  match s.line.upHeld with
  | none => s
  | some f => takeUplink f (s.modLine fun u => { u with upHeld := none })

/-- UPLINK_FRAME_SENT (R161). DEDUCED, log 5. -/
def takeUplinkSent (s : State) : State :=
  match s.line.upSending with
  | none => s
  | some (.report _) => uplinkChoose (s.modLine fun u => { u with upSending := none })
  | some (.reply _) =>
    takeHeld (uplinkChoose ((s.modLine fun u => { u with upSending := none }).modOffice
      fun o => { o with agent := .idle, reply := none }))

/-- A REQUEST with its arguments in fields arrives on the uplink. -/
def requestArrives (h : UpHeader) (r : Request) (s : State) : State := uplinkArrive ⟨h, .request r⟩ s

end Sys2Proof.Machine
end

