-- ==== Sys2Proof/Machine/LineCommands.lean ====
section
/-! DEFINITION. The meanings of the commands that are not requests: ticks, the part's own steps, station and gateway
frames, contact inputs and power. Each takes its effect on main power only, unless its rule says otherwise (R168). -/

namespace Sys2Proof.Machine

open Sys2Proof

/-- SECONDS_TICK (R28, R30): the tick counts on the backup supply; without main power only the clock does. -/
def execSecondsTick (s : State) : Host.Outcome State Fault Refusal :=
  .next (if s.office.powered then takeTick s else tickClockOnly s)

/-- SETTLEMENT_START (R15). -/
def execSettlementStart (s : State) : Host.Outcome State Fault Refusal :=
  whenPowered takeSettlementStart s

/-- SETTLE_SLOT (R15 to R19). -/
def execSettleSlot (s : State) : Host.Outcome State Fault Refusal :=
  whenPowered takeSettleSlot s

/-- CLOSE_WALK_VISIT (R101). -/
def execCloseWalkVisit (s : State) : Host.Outcome State Fault Refusal :=
  whenPowered (walkStep true) s

/-- PERIOD_END_WALK_VISIT (R104). -/
def execPeriodEndWalkVisit (s : State) : Host.Outcome State Fault Refusal :=
  whenPowered (walkStep false) s

/-- NOTICE_WALK_VISIT (R129). -/
def execNoticeWalkVisit (s : State) : Host.Outcome State Fault Refusal :=
  whenPowered noticeVisit s

/-- TAP (R68, R149): a good frame of kind TAP. -/
def execTap (seg : Nat) (src : Byte) (payload : List Byte) (s : State) : Host.Outcome State Fault Refusal :=
  whenPowered (fieldFrame seg src tapCode payload) s

/-- REFERRAL_EXPIRY (R81). -/
def execReferralExpiry (gate : Nat) (s : State) : Host.Outcome State Fault Refusal :=
  whenPowered (takeReferralExpiry gate) s

/-- REGISTER (R95, R149): a good frame of kind REGISTER. -/
def execRegister (seg : Nat) (src : Byte) (payload : List Byte) (s : State) : Host.Outcome State Fault Refusal :=
  whenPowered (fieldFrame seg src registerCode payload) s

/-- NOTHING (R149). -/
def execNothing (seg : Nat) (src : Byte) (s : State) : Host.Outcome State Fault Refusal :=
  whenPowered (fieldFrame seg src nothingCode []) s

/-- BELL_ACK (R52, R149). -/
def execBellAck (seg : Nat) (src : Byte) (s : State) : Host.Outcome State Fault Refusal :=
  whenPowered (fieldFrame seg src bellAckCode []) s

/-- WRONG_KIND_REPLY (R149): the exchange, the entry and the kind decide, as for every good frame. -/
def execWrongKindReply (seg : Nat) (src kind : Byte) (payload : List Byte) (s : State) :
    Host.Outcome State Fault Refusal :=
  whenPowered (fieldFrame seg src kind payload) s

/-- OUT_OF_TURN_FRAME (R149). -/
def execOutOfTurnFrame (seg : Nat) (src kind : Byte) (payload : List Byte) (s : State) :
    Host.Outcome State Fault Refusal :=
  whenPowered (fieldFrame seg src kind payload) s

/-- STRANGER_FRAME (R148). -/
def execStrangerFrame (seg : Nat) (src kind : Byte) (payload : List Byte) (s : State) :
    Host.Outcome State Fault Refusal :=
  whenPowered (fieldFrame seg src kind payload) s

/-- INVALID_FRAME (R146, R147). -/
def execInvalidFrame (port : Port) (fault : FrameFault) (header : FrameHeader) (s : State) :
    Host.Outcome State Fault Refusal :=
  whenPowered (takeInvalid port fault header) s

/-- EXCHANGE_MISS (R154). -/
def execExchangeMiss (seg : Nat) (s : State) : Host.Outcome State Fault Refusal :=
  whenPowered (takeExchangeMiss seg) s

/-- FIELD_FRAME_SENT (R153). -/
def execFieldFrameSent (seg : Nat) (s : State) : Host.Outcome State Fault Refusal :=
  whenPowered (takeFrameSent seg) s

/-- OUTPUT_QUEUE_ADMIT (R152). -/
def execOutputQueueAdmit (seg : Nat) (s : State) : Host.Outcome State Fault Refusal :=
  whenPowered (takeAdmit seg) s

/-- SOUNDING_COUNT_EXPIRY (R54, R60). -/
def execSoundingCountExpiry (zone : Nat) (s : State) : Host.Outcome State Fault Refusal :=
  whenPowered (takeSoundingExpiry zone) s

/-- INPUT_CHANGE (R57). -/
def execInputChange (input : Nat) (level : Level) (heldMs : Nat) (s : State) : Host.Outcome State Fault Refusal :=
  whenPowered (takeInputChange input level heldMs) s

/-- READY (R134, R136). -/
def execReady (src : Byte) (payload : List Byte) (s : State) : Host.Outcome State Fault Refusal :=
  whenPowered (gatewayFrame src readyCode payload (takeReady payload)) s

/-- NOT_BEFORE_REACHED (R135). -/
def execNotBeforeReached (notice : Nat) (s : State) : Host.Outcome State Fault Refusal :=
  whenPowered (takeNotBefore notice) s

/-- OUTCOME (R137, R136). -/
def execOutcome (src : Byte) (payload : List Byte) (s : State) : Host.Outcome State Fault Refusal :=
  whenPowered (gatewayFrame src outcomeCode payload (takeOutcomeFrame payload)) s

/-- OUTCOME_TIMEOUT (R139). -/
def execOutcomeTimeout (notice : Nat) (s : State) : Host.Outcome State Fault Refusal :=
  whenPowered (takeTimeout notice) s

/-- PARENT_REPORT (R111, R136). -/
def execParentReport (src : Byte) (payload : List Byte) (s : State) : Host.Outcome State Fault Refusal :=
  whenPowered (gatewayFrame src parentReportCode payload (takeParentReport payload)) s

/-- GATEWAY_FRAME_SENT (R136). -/
def execGatewayFrameSent (s : State) : Host.Outcome State Fault Refusal :=
  whenPowered takeGatewaySent s

/-- UPLINK_FRAME_SENT (R161). -/
def execUplinkFrameSent (s : State) : Host.Outcome State Fault Refusal :=
  whenPowered takeUplinkSent s

/-- UNKNOWN_REQUEST (R160): a good frame on the uplink, judged from its bytes. -/
def execUnknownRequest (h : UpHeader) (kind : Byte) (payload : List Byte) (s : State) :
    Host.Outcome State Fault Refusal :=
  whenPowered (uplinkArrive ⟨h, .raw kind payload⟩) s

/-- POWER_FAIL (R168). -/
def execPowerFail (s : State) : Host.Outcome State Fault Refusal :=
  .next (takePowerFail s)

/-- POWER_UP (R169). -/
def execPowerUp (s : State) : Host.Outcome State Fault Refusal :=
  .next (takePowerUp s)

/-- BACKUP_LOW (R168): the monitor watches with main power present or not. -/
def execBackupLow (below : Bool) (s : State) : Host.Outcome State Fault Refusal :=
  .next (takeBackupLow below s)

/-- FIRST_LEVEL_TAKEN (R57). -/
def execFirstLevelTaken (input : Nat) (level : Level) (s : State) : Host.Outcome State Fault Refusal :=
  whenPowered (takeFirstLevel input level) s

/-- GATEWAY_OTHER_FRAME (R136): taken at once, and discarded. -/
def execGatewayOtherFrame (src kind : Byte) (payload : List Byte) (s : State) : Host.Outcome State Fault Refusal :=
  whenPowered (gatewayFrame src kind payload discardOther) s

end Sys2Proof.Machine
end

