-- ==== Sys2Proof/Machine/OfficeCommands.lean ====
section
/-! DEFINITION. The meanings of the requests of the uplink: each is a good REQUEST frame that arrives there, is taken
when the Office Agent is IDLE, and is carried out by the rule that specifies it (`serve` of Uplink.lean). -/

namespace Sys2Proof.Machine

open Sys2Proof

/-- LOAD_ROLL (R21), as a REQUEST on the uplink (R159, R160). -/
def execLoadRoll (h : UpHeader) (a : LoadRollArgs) (s : State) : Host.Outcome State Fault Refusal :=
  whenPowered (requestArrives h (.loadRoll a)) s

/-- READ_ROLL (R22), as a REQUEST on the uplink (R159, R160). -/
def execReadRoll (h : UpHeader) (sel : RollSelector) (s : State) : Host.Outcome State Fault Refusal :=
  whenPowered (requestArrives h (.readRoll sel)) s

/-- DROP_ROLL (R23), as a REQUEST on the uplink (R159, R160). -/
def execDropRoll (h : UpHeader) (pupil : Nat) (s : State) : Host.Outcome State Fault Refusal :=
  whenPowered (requestArrives h (.dropRoll pupil)) s

/-- LOAD_FAMILY (R24), as a REQUEST on the uplink (R159, R160). -/
def execLoadFamily (h : UpHeader) (family : Nat) (held : Bool) (contacts : List Contact) (s : State) :
    Host.Outcome State Fault Refusal :=
  whenPowered (requestArrives h (.loadFamily family held contacts)) s

/-- READ_FAMILY (R25), as a REQUEST on the uplink (R159, R160). -/
def execReadFamily (h : UpHeader) (family : Nat) (s : State) : Host.Outcome State Fault Refusal :=
  whenPowered (requestArrives h (.readFamily family)) s

/-- SET_MARK (R26), as a REQUEST on the uplink (R159, R160). -/
def execSetMark (h : UpHeader) (pupil : Nat) (session : Session) (code : MarkCode) (s : State) :
    Host.Outcome State Fault Refusal :=
  whenPowered (requestArrives h (.setMark pupil session code)) s

/-- ADJUST_COUNTS (R27), as a REQUEST on the uplink (R159, R160). -/
def execAdjustCounts (h : UpHeader) (a : AdjustArgs) (s : State) : Host.Outcome State Fault Refusal :=
  whenPowered (requestArrives h (.adjustCounts a)) s

/-- LOAD_CALENDAR (R31), as a REQUEST on the uplink (R159, R160). -/
def execLoadCalendar (h : UpHeader) (first : Nat) (entries : List CalEntry) (s : State) :
    Host.Outcome State Fault Refusal :=
  whenPowered (requestArrives h (.loadCalendar first entries)) s

/-- STAGE_PLAN (R37), as a REQUEST on the uplink (R159, R160). -/
def execStagePlan (h : UpHeader) (p : Nat) (s : State) : Host.Outcome State Fault Refusal :=
  whenPowered (requestArrives h (.stagePlan p)) s

/-- SET_CLOCK (R41), as a REQUEST on the uplink (R159, R160). -/
def execSetClock (h : UpHeader) (day second : Nat) (s : State) : Host.Outcome State Fault Refusal :=
  whenPowered (requestArrives h (.setClock day second)) s

/-- LOAD_PLAN (R45), as a REQUEST on the uplink (R159, R160). -/
def execLoadPlan (h : UpHeader) (plan start : Nat) (events : List Event) (final : Bool) (s : State) :
    Host.Outcome State Fault Refusal :=
  whenPowered (requestArrives h (.loadPlan plan start events final)) s

/-- READ_PLAN, selector PLAN (R47), as a REQUEST on the uplink (R159, R160). -/
def execReadPlanPlan (h : UpHeader) (p start : Nat) (s : State) : Host.Outcome State Fault Refusal :=
  whenPowered (requestArrives h (.readPlanPlan p start)) s

/-- READ_PLAN, selector CALENDAR (R47), as a REQUEST on the uplink (R159, R160). -/
def execReadPlanCalendar (h : UpHeader) (first count : Nat) (s : State) : Host.Outcome State Fault Refusal :=
  whenPowered (requestArrives h (.readPlanCalendar first count)) s

/-- READ_CLOCK (R48), as a REQUEST on the uplink (R159, R160). -/
def execReadClock (h : UpHeader) (s : State) : Host.Outcome State Fault Refusal :=
  whenPowered (requestArrives h .readClock) s

/-- RING (R55), as a REQUEST on the uplink (R159, R160). -/
def execRing (h : UpHeader) (zones : ZoneMask) (tone duration : Nat) (override : Bool) (s : State) :
    Host.Outcome State Fault Refusal :=
  whenPowered (requestArrives h (.ring zones tone duration override)) s

/-- LOAD_INPUTS (R59), as a REQUEST on the uplink (R159, R160). -/
def execLoadInputs (h : UpHeader) (entries : List (Nat × InputConfig)) (s : State) :
    Host.Outcome State Fault Refusal :=
  whenPowered (requestArrives h (.loadInputs entries)) s

/-- SET_RELAY (R61), as a REQUEST on the uplink (R159, R160). -/
def execSetRelay (h : UpHeader) (relay : Nat) (override : RelayOverride) (zone : Option Nat) (s : State) :
    Host.Outcome State Fault Refusal :=
  whenPowered (requestArrives h (.setRelay relay override zone)) s

/-- SET_GATE_MODE (R67), as a REQUEST on the uplink (R159, R160). -/
def execSetGateMode (h : UpHeader) (mask : GateMask) (mode : GateMode) (s : State) :
    Host.Outcome State Fault Refusal :=
  whenPowered (requestArrives h (.setGateMode mask mode)) s

/-- ANSWER_REFERRAL (R82), as a REQUEST on the uplink (R159, R160). -/
def execAnswerReferral (h : UpHeader) (gate number : Nat) (decision : Decision) (s : State) :
    Host.Outcome State Fault Refusal :=
  whenPowered (requestArrives h (.answerReferral gate number decision)) s

/-- READ_MOVEMENTS (R85), as a REQUEST on the uplink (R159, R160). -/
def execReadMovements (h : UpHeader) (start count : Nat) (s : State) : Host.Outcome State Fault Refusal :=
  whenPowered (requestArrives h (.readMovements start count)) s

/-- READ_GATES (R87), as a REQUEST on the uplink (R159, R160). -/
def execReadGates (h : UpHeader) (s : State) : Host.Outcome State Fault Refusal :=
  whenPowered (requestArrives h .readGates) s

/-- READ_WINDOWS (R107), as a REQUEST on the uplink (R159, R160). -/
def execReadWindows (h : UpHeader) (session : Session) (first count : Nat) (s : State) :
    Host.Outcome State Fault Refusal :=
  whenPowered (requestArrives h (.readWindows session first count)) s

/-- ADD_EXCUSE (R120), as a REQUEST on the uplink (R159, R160). -/
def execAddExcuse (h : UpHeader) (a : AddExcuseArgs) (s : State) : Host.Outcome State Fault Refusal :=
  whenPowered (requestArrives h (.addExcuse a)) s

/-- REMOVE_EXCUSE (R121), as a REQUEST on the uplink (R159, R160). -/
def execRemoveExcuse (h : UpHeader) (pupil first last : Nat) (s : State) : Host.Outcome State Fault Refusal :=
  whenPowered (requestArrives h (.removeExcuse pupil first last)) s

/-- READ_EXCUSES (R122), as a REQUEST on the uplink (R159, R160). -/
def execReadExcuses (h : UpHeader) (sel : ExcuseSelector) (start count : Nat) (s : State) :
    Host.Outcome State Fault Refusal :=
  whenPowered (requestArrives h (.readExcuses sel start count)) s

/-- SEND_NOTICE (R141), as a REQUEST on the uplink (R159, R160). -/
def execSendNotice (h : UpHeader) (family template : Nat) (pupils : List Nat) (s : State) :
    Host.Outcome State Fault Refusal :=
  whenPowered (requestArrives h (.sendNotice family template pupils)) s

/-- READ_NOTICES (R142), as a REQUEST on the uplink (R159, R160). -/
def execReadNotices (h : UpHeader) (sel : NoticeSelector) (start count : Nat) (s : State) :
    Host.Outcome State Fault Refusal :=
  whenPowered (requestArrives h (.readNotices sel start count)) s

/-- LOAD_TEMPLATES (R143), as a REQUEST on the uplink (R159, R160). -/
def execLoadTemplates (h : UpHeader) (entries : List (NoticeReason × Nat)) (s : State) :
    Host.Outcome State Fault Refusal :=
  whenPowered (requestArrives h (.loadTemplates entries)) s

/-- LOAD_STATION (R150), as a REQUEST on the uplink (R159, R160). -/
def execLoadStation (h : UpHeader) (a : LoadStationArgs) (s : State) : Host.Outcome State Fault Refusal :=
  whenPowered (requestArrives h (.loadStation a)) s

/-- LOAD_POLL_LIST (R151), as a REQUEST on the uplink (R159, R160). -/
def execLoadPollList (h : UpHeader) (segment : Nat) (addresses : List Byte) (s : State) :
    Host.Outcome State Fault Refusal :=
  whenPowered (requestArrives h (.loadPollList segment addresses)) s

/-- READ_PORTS, selector PORTS (R157), as a REQUEST on the uplink (R159, R160). -/
def execReadPortsPorts (h : UpHeader) (clear : Bool) (s : State) : Host.Outcome State Fault Refusal :=
  whenPowered (requestArrives h (.readPortsPorts clear)) s

/-- READ_PORTS, selector STATIONS (R157), as a REQUEST on the uplink (R159, R160). -/
def execReadPortsStations (h : UpHeader) (first count : Nat) (s : State) : Host.Outcome State Fault Refusal :=
  whenPowered (requestArrives h (.readPortsStations first count)) s

/-- READ_PORTS, selector POLL_LIST (R157), as a REQUEST on the uplink (R159, R160). -/
def execReadPortsPollList (h : UpHeader) (segment : Nat) (s : State) : Host.Outcome State Fault Refusal :=
  whenPowered (requestArrives h (.readPortsPollList segment)) s

/-- SET_PARAMS (R165), as a REQUEST on the uplink (R159, R160). -/
def execSetParams (h : UpHeader) (items : List ParamItem) (s : State) : Host.Outcome State Fault Refusal :=
  whenPowered (requestArrives h (.setParams items)) s

/-- READ_PARAMS (R166), as a REQUEST on the uplink (R159, R160). -/
def execReadParams (h : UpHeader) (s : State) : Host.Outcome State Fault Refusal :=
  whenPowered (requestArrives h .readParams) s

/-- RESTART (R171), as a REQUEST on the uplink (R159, R160). -/
def execRestart (h : UpHeader) (s : State) : Host.Outcome State Fault Refusal :=
  whenPowered (requestArrives h .restart) s

/-- CLEAR_ALL (R169), as a REQUEST on the uplink (R159, R160). -/
def execClearAll (h : UpHeader) (s : State) : Host.Outcome State Fault Refusal :=
  whenPowered (requestArrives h .clearAll) s

end Sys2Proof.Machine
end

