-- ==== Sys2Proof/Machine/Dispatch.lean ====
section
/-! DEFINITION. The meaning of each command. -/

namespace Sys2Proof.Machine

open Sys2Proof

def exec (i : Instr) (s : State) : Host.Outcome State Fault Refusal :=
  match i with
  | .secondsTick => Sys2Proof.Machine.execSecondsTick s
  | .settlementStart => Sys2Proof.Machine.execSettlementStart s
  | .settleSlot => Sys2Proof.Machine.execSettleSlot s
  | .closeWalkVisit => Sys2Proof.Machine.execCloseWalkVisit s
  | .periodEndWalkVisit => Sys2Proof.Machine.execPeriodEndWalkVisit s
  | .noticeWalkVisit => Sys2Proof.Machine.execNoticeWalkVisit s
  | .tap seg src payload => Sys2Proof.Machine.execTap seg src payload s
  | .referralExpiry gate => Sys2Proof.Machine.execReferralExpiry gate s
  | .register seg src payload => Sys2Proof.Machine.execRegister seg src payload s
  | .nothing seg src => Sys2Proof.Machine.execNothing seg src s
  | .bellAck seg src => Sys2Proof.Machine.execBellAck seg src s
  | .wrongKindReply seg src kind payload => Sys2Proof.Machine.execWrongKindReply seg src kind payload s
  | .outOfTurnFrame seg src kind payload => Sys2Proof.Machine.execOutOfTurnFrame seg src kind payload s
  | .strangerFrame seg src kind payload => Sys2Proof.Machine.execStrangerFrame seg src kind payload s
  | .invalidFrame port fault header => Sys2Proof.Machine.execInvalidFrame port fault header s
  | .exchangeMiss seg => Sys2Proof.Machine.execExchangeMiss seg s
  | .fieldFrameSent seg => Sys2Proof.Machine.execFieldFrameSent seg s
  | .outputQueueAdmit seg => Sys2Proof.Machine.execOutputQueueAdmit seg s
  | .soundingCountExpiry zone => Sys2Proof.Machine.execSoundingCountExpiry zone s
  | .inputChange input level heldMs => Sys2Proof.Machine.execInputChange input level heldMs s
  | .ready src payload => Sys2Proof.Machine.execReady src payload s
  | .notBeforeReached notice => Sys2Proof.Machine.execNotBeforeReached notice s
  | .outcome src payload => Sys2Proof.Machine.execOutcome src payload s
  | .outcomeTimeout notice => Sys2Proof.Machine.execOutcomeTimeout notice s
  | .parentReport src payload => Sys2Proof.Machine.execParentReport src payload s
  | .gatewayFrameSent => Sys2Proof.Machine.execGatewayFrameSent s
  | .uplinkFrameSent => Sys2Proof.Machine.execUplinkFrameSent s
  | .unknownRequest h kind payload => Sys2Proof.Machine.execUnknownRequest h kind payload s
  | .loadRoll h a => Sys2Proof.Machine.execLoadRoll h a s
  | .readRoll h sel => Sys2Proof.Machine.execReadRoll h sel s
  | .dropRoll h pupil => Sys2Proof.Machine.execDropRoll h pupil s
  | .loadFamily h family held contacts => Sys2Proof.Machine.execLoadFamily h family held contacts s
  | .readFamily h family => Sys2Proof.Machine.execReadFamily h family s
  | .setMark h pupil session code => Sys2Proof.Machine.execSetMark h pupil session code s
  | .adjustCounts h a => Sys2Proof.Machine.execAdjustCounts h a s
  | .loadCalendar h first entries => Sys2Proof.Machine.execLoadCalendar h first entries s
  | .stagePlan h p => Sys2Proof.Machine.execStagePlan h p s
  | .setClock h day second => Sys2Proof.Machine.execSetClock h day second s
  | .loadPlan h plan start events final => Sys2Proof.Machine.execLoadPlan h plan start events final s
  | .readPlanPlan h p start => Sys2Proof.Machine.execReadPlanPlan h p start s
  | .readPlanCalendar h first count => Sys2Proof.Machine.execReadPlanCalendar h first count s
  | .readClock h => Sys2Proof.Machine.execReadClock h s
  | .ring h zones tone duration override => Sys2Proof.Machine.execRing h zones tone duration override s
  | .loadInputs h entries => Sys2Proof.Machine.execLoadInputs h entries s
  | .setRelay h relay override zone => Sys2Proof.Machine.execSetRelay h relay override zone s
  | .setGateMode h mask mode => Sys2Proof.Machine.execSetGateMode h mask mode s
  | .answerReferral h gate number decision => Sys2Proof.Machine.execAnswerReferral h gate number decision s
  | .readMovements h start count => Sys2Proof.Machine.execReadMovements h start count s
  | .readGates h => Sys2Proof.Machine.execReadGates h s
  | .readWindows h session first count => Sys2Proof.Machine.execReadWindows h session first count s
  | .addExcuse h a => Sys2Proof.Machine.execAddExcuse h a s
  | .removeExcuse h pupil first last => Sys2Proof.Machine.execRemoveExcuse h pupil first last s
  | .readExcuses h sel start count => Sys2Proof.Machine.execReadExcuses h sel start count s
  | .sendNotice h family template pupils => Sys2Proof.Machine.execSendNotice h family template pupils s
  | .readNotices h sel start count => Sys2Proof.Machine.execReadNotices h sel start count s
  | .loadTemplates h entries => Sys2Proof.Machine.execLoadTemplates h entries s
  | .loadStation h a => Sys2Proof.Machine.execLoadStation h a s
  | .loadPollList h segment addresses => Sys2Proof.Machine.execLoadPollList h segment addresses s
  | .readPortsPorts h clear => Sys2Proof.Machine.execReadPortsPorts h clear s
  | .readPortsStations h first count => Sys2Proof.Machine.execReadPortsStations h first count s
  | .readPortsPollList h segment => Sys2Proof.Machine.execReadPortsPollList h segment s
  | .setParams h items => Sys2Proof.Machine.execSetParams h items s
  | .readParams h => Sys2Proof.Machine.execReadParams h s
  | .restart h => Sys2Proof.Machine.execRestart h s
  | .clearAll h => Sys2Proof.Machine.execClearAll h s
  | .powerFail => Sys2Proof.Machine.execPowerFail s
  | .powerUp => Sys2Proof.Machine.execPowerUp s
  | .backupLow below => Sys2Proof.Machine.execBackupLow below s
  | .firstLevelTaken input level => Sys2Proof.Machine.execFirstLevelTaken input level s
  | .gatewayOtherFrame src kind payload => Sys2Proof.Machine.execGatewayOtherFrame src kind payload s

end Sys2Proof.Machine
end

