-- ==== Sys2Proof/Machine/Wire.lean ====
section
/-! DEFINITION. The bytes of the frames the part sends (R174, R175, Table 4 of Chapter 11): every frame to a station, to
the gateway and to the office, and the bytes and bits each port has on its line. -/

namespace Sys2Proof.Machine

open Sys2Proof

/-! ### Bits (R174); mark is `true` -/

/-- Whether a number of bits of a byte set is odd. -/
def oddOnes (b : Byte) : Bool := (List.range 8).foldl (fun acc i => acc ^^ b.getLsbD i) false

/-- The odd parity bit of a byte: with it, the number of ones is odd. -/
def parityBit (b : Byte) : Bool := !oddOnes b

/-- A byte's bits in the order sent: start bit at space, data from the least significant, odd parity, stop bit at
mark. -/
def lineBits (b : Byte) : List Bool :=
  false :: ((List.range 8).map fun i => b.getLsbD i) ++ [parityBit b, true]

/-- The break that opens each frame the part sends: 13 bit-times at space, then 2 at mark. -/
def breakBits : List Bool := List.replicate 13 false ++ List.replicate 2 true

/-- The bits of a frame the part sends, from its break through its check. The gap that may stand between two bytes is
timing and is left out. -/
def frameBits (bs : List Byte) : List Bool := breakBits ++ bs.flatMap lineBits

/-! ### The line frame (R174) -/

/-- The M24's address. -/
def ownAddress : Byte := 0x01

/-- The gateway's address. -/
def gatewayAddress : Byte := 0x02

/-- The office server's address. -/
def officeAddress : Byte := 0x00

/-- The bytes of a frame before its check (Table 1 of Chapter 11). -/
def uncheckedBytes (dest src kind tag : Byte) (payload : List Byte) : List Byte :=
  [dest, src, kind, tag] ++ putNum 1 payload.length ++ payload

/-- Bytes followed by the check over them, high byte first. -/
def withCheck (bs : List Byte) : List Byte := bs ++ putNum 2 (crc bs).toNat

/-- The bytes of a frame the part sends, from the destination through the check. -/
def frameBytes (dest kind tag : Byte) (payload : List Byte) : List Byte :=
  withCheck (uncheckedBytes dest ownAddress kind tag payload)

/-! ### Fields -/

/-- An enumerated field that may be absent. -/
def putOptEnum {α : Type} [DecidableEq α] (values : List α) : Option α → List Byte
  | none => [0xFF]
  | some x => putEnum values x

/-- AM, PM, NONE: the order of Table 4 of Chapter 11. -/
def optSessionList : List (Option Session) := [some .am, some .pm, none]

/-- A session of which NONE is a value: a notice's (Table 1 of Chapter 7) or a referral's (Table 4 of Chapter 4). -/
def putOptSession (x : Option Session) : List Byte := putEnum optSessionList x

/-- Mark sources (Table 3 of Chapter 1). -/
def sourceList : List MarkSource := [.register, .gate, .excuse, .close, .office]

/-- Lesson marks (R7). -/
def lessonList : List LessonMark := [.unset, .present, .late, .absent]

/-- On-site states (R12). -/
def siteList : List OnSite := [.offSite, .onSite, .signedOut]

/-- Directions. -/
def directionList : List Direction := [.inward, .outward]

/-- Answers to a reader (Table 4 of Chapter 11). -/
def answerList : List Answer := [.opened, .hold, .engaged, .seeOffice, .refuse]

/-- Bands in the order of Table 4 of Chapter 11, NONE first; NONE is the band where none was judged. -/
def bandList : List (Option Band) := [none, some .onTime, some .late, some .lateAfterClose]

/-- Notice window states (R127). -/
inductive NoticeWindow
  | opened | closed
  deriving DecidableEq, Repr

/-- Notice window states in the order of R127. -/
def noticeWindowList : List NoticeWindow := [.opened, .closed]

/-- Referral reasons (Table 4 of Chapter 4). -/
def referralReasonList : List ReferralReason := [.mode, .lateClosed, .pupilFlag, .noSelfExit]

/-- Movement kinds (R83). -/
def movementKindList : List MovementKind :=
  [.arrivalOnTime, .arrivalLate, .arrivalAfterClose, .signOut, .return, .reentry, .referralExpired, .refused]

/-- Gate states (Table 1 of Chapter 4). -/
def gateStateList : List GateState := [.ready, .holding, .offline]

/-- Window states (R90). -/
def windowList : List WindowState := [.notOpened, .opened, .closed]

/-- Zone outcomes (R53). -/
def zoneOutcomeList : List ZoneOutcome := [.none, .confirmed, .unconfirmed, .suppressed]

/-- Clock states. -/
def clockList : List ClockState := [.set, .unset]

/-- Schedule states (Table 3 of Chapter 2). -/
def schedList : List SchedState := [.unset, .active, .closedDay, .ending]

/-- Presence. -/
def presenceList : List Presence := [.present, .absent]

/-- Causes of an unmatched report (R112). -/
def causeList : List UnmatchedCause := [.noPupil, .noFamily, .noContact, .noPermission]

/-- Results of a notice record (Table 4 of Chapter 7). -/
def resultList : List NoticeResult := [.delivered, .contactFailed, .withdrawn, .dropped]

/-- Notice record states (Table 2 of Chapter 7). -/
def noticeStateList : List NoticeState := [.queued, .offered, .withdrawnPending]

/-- Notice walk states (R128). -/
def walkStateList : List WalkState := [.idle, .running, .paused]

/-- Capture kinds (Table 1 of Chapter 8). -/
def faultList : List FrameFault := [.parity, .framing, .short, .noise, .length, .check, .overrun, .stranger]

/-- Acknowledgement statuses (Table 4 of Chapter 11). -/
def ackList : List AckStatus := [.ok, .tooEarly, .closed, .malformed]

/-- Refusal reasons of a register entry. -/
def refuseList : List RefuseReason := [.notFound, .wrongGroup, .notExpected]

/-- Statuses of a PARENT_REPLY. -/
def parentStatusList : List ParentStatus := [.accepted, .notMatched, .full, .busy, .malformed]

/-- Reply statuses (Table 1 of Chapter 9). -/
def statusList : List Status := [.ok, .badArg, .notFound, .duplicate, .full, .state, .busy, .stale]

/-- Relay positions. -/
def positionList : List RelayPosition := [.opened, .closed]

/-- Levels of a contact input. -/
def levelList : List Level := [.high, .low]

/-- Sources of an excuse. -/
def excuseSourceList : List ExcuseSource := [.parent, .office]

/-- A session mark: its code and its source. -/
def putMark (m : Mark) : List Byte := putEnum markCodes m.code ++ putOptEnum sourceList m.source

/-- A mark that may be absent. -/
def putOptMark : Option Mark → List Byte
  | none => [0xFF, 0xFF]
  | some m => putMark m

/-- A job's origin and input number. -/
def putOrigin : Origin → List Byte
  | .event => putNum 1 0 ++ putOpt 1 none
  | .office => putNum 1 1 ++ putOpt 1 none
  | .input n => putNum 1 2 ++ putOpt 1 (some n)

/-- A job's origin alone. -/
def putOriginKind (o : Origin) : List Byte := (putOrigin o).take 1

/-! ### Frames to stations and the gateway (Table 4 of Chapter 11) -/

/-- A frame's kind code. -/
def fieldKind : FieldBody → Byte
  | .poll => 0x01
  | .gateAnswer _ _ _ _ _ => 0x02
  | .registerAck _ _ _ _ _ _ => 0x03
  | .bell _ _ _ => 0x04
  | .busy _ _ => 0x05

/-- A refused entry of a REGISTER_ACK. -/
def putRefusal (x : Nat × RefuseReason) : List Byte := putNum 2 x.1 ++ putEnum refuseList x.2

/-- The payload of a frame to a station. DESIGN CHOICE, log 20, unsafe: the layouts Chapter 11 leaves open. -/
def fieldPayload : FieldBody → List Byte
  | .poll => []
  | .gateAnswer q a p b m => putNum 1 q ++ putEnum answerList a ++ putOpt 2 p ++ putEnum bandList b ++ putNum 1 m
  | .registerAck q st acc rej u l =>
    putNum 1 q ++ putEnum ackList st ++ putNum 1 acc ++ putNum 1 rej ++ putOpt 2 u ++ putList putRefusal l
  | .bell t d _ => putNum 1 t ++ putNum 1 d
  | .busy k q => [k] ++ putNum 1 q

/-- The bytes of a frame to a station. -/
def fieldBytes (f : FieldFrame) : List Byte := frameBytes f.dest (fieldKind f.body) 0 (fieldPayload f.body)

/-- The payload of an OFFER. -/
def offerPayload (o : Offer) : List Byte :=
  putNum 2 o.number ++ putNum 1 o.attempt ++ putNum 1 o.template ++ putHandle o.handle ++ putEnum channelList o.channel
    ++ putOptSession o.session ++ putOpt 1 o.period ++ putOpt 1 o.minutes ++ putList (putNum 2) o.pupils

/-- The payload of a PARENT_REPLY. -/
def parentReplyPayload (r : ParentReply) : List Byte :=
  putEnum parentStatusList r.status ++ putOpt 2 r.pupil ++ putOpt 2 r.first ++ putOpt 2 r.last
    ++ putOptEnum sessionsList r.sessions ++ putFlag r.applied ++ putOptEnum markCodes r.amCode
    ++ putOptEnum markCodes r.pmCode

/-- The bytes of a frame to the gateway. -/
def gatewayBytes : GatewayFrame → List Byte
  | .offer o => frameBytes gatewayAddress 0x0A 0 (offerPayload o)
  | .parentReply r => frameBytes gatewayAddress 0x0B 0 (parentReplyPayload r)

/-! ### Reports (R162, Table 2 and Table 4 of Chapter 9) -/

/-- A movement with its sequence number. -/
def putMovement (sequence : Option Nat) (m : Movement) : List Byte :=
  putOpt 2 sequence ++ putNum 3 m.second ++ putNum 1 m.gate ++ putEnum directionList m.direction ++ putNum 2 m.pupil
    ++ putEnum movementKindList m.kind ++ putOpt 1 m.minutes ++ putOpt 1 m.referral

/-- The counts of an error record; the stranger count is a field segment's. -/
def putCounts (p : Port) (r : ErrorRecord) : List Byte :=
  putNum 1 r.parity ++ putNum 1 r.framing ++ putNum 1 r.noise ++ putNum 1 r.check ++ putNum 1 r.overrun ++
    match p with
    | .field _ => putNum 1 r.stranger
    | .uplink => []
    | .gateway => []

/-- A byte that may be absent. -/
def putOptByte (b : Option Byte) : List Byte := putOpt 1 (b.map (·.toNat))

/-- A first-error capture; an empty one is absent in every field. -/
def putCapture : Option (FrameFault × FrameHeader) → List Byte
  | none => [0xFF, 0xFF, 0xFF, 0xFF, 0xFF]
  | some (f, h) =>
    putEnum faultList f ++ putOptByte h.dest ++ putOptByte h.src ++ putOptByte h.kind ++ putOpt 1 h.length

/-- A station named by an alert. -/
def putStationName (n seg : Nat) (a : Byte) (k : StationKind) (u : Nat) : List Byte :=
  putNum 1 n ++ putNum 1 seg ++ [a] ++ putEnum stationKindList k ++ putNum 1 u

/-- An alert's kind (Table 4 of Chapter 9). -/
def alertKind : Alert → Nat
  | .missingOnSite _ _ _ _ => 0
  | .unmarkedOnSite _ _ _ _ _ => 1
  | .registerNotTaken _ _ => 2
  | .internalAbsence _ _ _ _ => 3
  | .unknownToken _ _ _ _ => 4
  | .referral _ _ _ _ _ _ _ _ _ => 5
  | .referralExpired _ _ _ _ => 6
  | .movementsFull _ _ => 7
  | .bellDropped _ _ _ => 8
  | .bellUnconfirmed _ _ _ _ _ => 9
  | .unmatchedReport _ _ => 10
  | .excusesFull _ _ _ _ _ _ _ _ => 11
  | .contactFailed _ _ _ _ _ => 12
  | .badContact _ _ _ _ => 13
  | .stationAbsent _ _ _ _ _ => 14
  | .stationBack _ _ _ _ _ => 15
  | .portErrors _ _ => 16

/-- An alert's details in the order of the rule that raises it. -/
def alertDetails : Alert → List Byte
  | .missingOnSite p x c src => putNum 2 p ++ putEnum sessionList x ++ putEnum markCodes c ++ putOptEnum sourceList src
  | .unmarkedOnSite p x f a t =>
    putNum 2 p ++ putEnum sessionList x ++ putNum 1 f ++ putNum 3 a.second ++ putNum 1 a.gate ++ putNum 3 t
  | .registerNotTaken x f => putEnum sessionList x ++ putNum 1 f
  | .internalAbsence p k r t => putNum 2 p ++ putNum 1 k ++ putNum 1 r ++ putNum 3 t
  | .unknownToken g d token t => putNum 1 g ++ putEnum directionList d ++ putHandle token ++ putNum 3 t
  | .referral g p d why x b m t n =>
    putNum 1 g ++ putNum 2 p ++ putEnum directionList d ++ putEnum referralReasonList why ++ putOptSession x
      ++ putEnum bandList b ++ putNum 1 m ++ putNum 3 t ++ putNum 1 n
  | .referralExpired g p d n => putNum 1 g ++ putNum 2 p ++ putEnum directionList d ++ putNum 1 n
  | .movementsFull d t => putNum 2 d ++ putNum 3 t
  | .bellDropped z t o => putZones z ++ putNum 1 t ++ putOrigin o
  | .bellUnconfirmed z seg a o t => putNum 1 z ++ putNum 1 seg ++ [a] ++ putOriginKind o ++ putNum 3 t
  | .unmatchedReport r c =>
    putHandle r.handle ++ putNum 2 r.pupil ++ putEnum reasonList r.reason ++ putNum 1 r.offset ++ putNum 1 r.count
      ++ putEnum sessionsList r.sessions ++ putEnum causeList c
  | .excusesFull p h r d1 d2 n need free =>
    putNum 2 p ++ putHandle h ++ putEnum reasonList r ++ putNum 2 d1 ++ putNum 2 d2 ++ putEnum sessionsList n
      ++ putNum 1 need ++ putNum 2 free
  | .contactFailed f p r x n =>
    putNum 2 f ++ putOpt 2 p ++ putEnum noticeReasonList r ++ putOptSession x ++ putOpt 2 n
  | .badContact f p h n => putNum 2 f ++ putNum 1 p ++ putHandle h ++ putNum 2 n
  | .stationAbsent n seg a k u => putStationName n seg a k u
  | .stationBack n seg a k u => putStationName n seg a k u
  | .portErrors p r => putNum 1 (portIndex p) ++ putCounts p r ++ putCapture r.capture

/-- A pupil of a notice with its withdrawn flag. -/
def putListed (p : Nat × Bool) : List Byte := putNum 2 p.1 ++ putFlag p.2

/-- The contact position and handle last offered. -/
def putLastOffered : Option (Nat × Handle) → List Byte
  | none => putOpt 1 none ++ putOpt 4 none
  | some (p, h) => putNum 1 p ++ putHandle h

/-- A report's kind (Table 2 of Chapter 9). -/
def reportKind : ReportBody → Nat
  | .arrival _ _ _ _ => 0
  | .registerDone _ _ _ _ => 1
  | .alert _ => 2
  | .noticeOutcome _ _ _ => 3

/-- A report's contents. DESIGN CHOICE, log 20, unsafe. -/
def reportContents : ReportBody → List Byte
  | .arrival m q site mark => putMovement q m ++ putEnum siteList site ++ putOptMark mark
  | .registerDone x g n t => putEnum sessionList x ++ putNum 1 g ++ putNum 2 n ++ putNum 3 t
  | .alert a => putNum 1 (alertKind a) ++ alertDetails a
  | .noticeOutcome n r t =>
    putNum 2 n.number ++ putNum 2 n.family ++ putEnum noticeReasonList n.reason ++ putOptSession n.session
      ++ putOpt 1 n.period ++ putOpt 1 n.minutes ++ putList putListed n.pupils ++ putEnum resultList r
      ++ putNum 1 n.attempts ++ putLastOffered n.lastOffered ++ putNum 3 t

/-- The payload of a REPORT. -/
def reportPayload (r : Report) : List Byte :=
  putNum 2 r.number ++ putNum 1 (reportKind r.body) ++ putNum 2 r.day ++ putNum 3 r.second ++ reportContents r.body

/-! ### Replies (R160) -/

/-- Two values of the sessions. -/
def putAmPm {α : Type} (f : α → List Byte) (x : AmPm α) : List Byte := f x.am ++ f x.pm

/-- A day record (R3), with the computed absence conditions (R4). DESIGN CHOICE, log 20, unsafe: the ten lesson marks, a
group of fixed size, go without a count. -/
def putDay (d : DayRecord) (absence : AmPm Bool) : List Byte :=
  putAmPm putMark d.marks ++ putAmPm putFlag d.registerMarked
    ++ ((List.range 10).flatMap fun i => putEnum lessonList (tabGet .unset d.lessons (i + 1)))
    ++ putEnum siteList d.onSite
    ++ (match d.arrival with
      | none => putOpt 3 none ++ putOpt 1 none
      | some a => putNum 3 a.second ++ putNum 1 a.gate)
    ++ putNum 1 d.minutesLate
    ++ putFlag absence.am ++ putFlag d.flags.doneAbsence.am ++ putFlag absence.pm ++ putFlag d.flags.doneAbsence.pm
    ++ putFlag d.flags.dueLate.am ++ putFlag d.flags.doneLate.am ++ putFlag d.flags.dueLate.pm
    ++ putFlag d.flags.doneLate.pm ++ putFlag d.flags.dueInternal ++ putFlag d.flags.doneInternal
    ++ putFlag d.flags.dueConcern ++ putFlag d.flags.doneConcern

/-- A term record (R13). -/
def putTerm (t : TermRecord) : List Byte :=
  putNum 2 t.p ++ putNum 2 t.a ++ putNum 2 t.u ++ putNum 2 t.lateCount ++ putNum 2 t.lateMinutes ++ putFlag t.concern

/-- A roll entry (R22). -/
def putRollEntry (slot : Nat) (e : RollEntry) (absence : AmPm Bool) (q next : Nat) : List Byte :=
  putNum 2 slot ++ putNum 2 e.recordDay ++ putNum 2 e.pupil ++ putList putHandle e.tokens ++ putNum 1 e.form
    ++ putNum 1 e.year ++ putNum 2 e.family ++ putFlag e.referOnArrival ++ putFlag e.noSelfExit ++ putDay e.day absence
    ++ putTerm e.term ++ putNum 2 q ++ putNum 2 next

/-- A cursor of the Schedule Unit: its kind and its index, absent where it has none. DESIGN CHOICE, log 20, unsafe: the
kinds' codes, in the order in which R48 names them, with an index 0, past the last event 1, none 2. -/
def putCursor : Cursor → List Byte
  | .next i => putNum 1 0 ++ putNum 1 i
  | .past => putNum 1 1 ++ putOpt 1 none
  | .absent => putNum 1 2 ++ putOpt 1 none

/-- A bell job. -/
def putJob (j : BellJob) : List Byte :=
  putZones j.zones ++ putNum 1 j.tone ++ putNum 1 j.duration ++ putFlag j.override ++ putOrigin j.origin

/-- Fields that are absent: all ones in every byte (R175). -/
def absentBytes (n : Nat) : List Byte := List.replicate n 0xFF

/-- The current job (Table 1 of Chapter 3), every field absent when there is none. DESIGN CHOICE, log 20, unsafe: the
numbers of frames handed and reported, for which R56 states no range, take 1 byte each. -/
def putCurrent : Option CurrentJob → List Byte
  | none => absentBytes 10
  | some c =>
    putJob c.job ++ putNum 1 c.zone ++ putNum 1 ((c.ringing.map (·.handed)).getD 0)
      ++ putNum 1 ((c.ringing.map (·.reported)).getD 0)

/-- A zone record. -/
def putZone (z : ZoneRecord) : List Byte :=
  putEnum zoneOutcomeList z.outcome ++ putNum 2 z.day ++ putNum 3 z.second
    ++ (match z.origin with | none => putOpt 1 none | some o => putOriginKind o)
    ++ putNum 1 z.sent ++ putNum 1 z.acked

/-- One contact input of the bell status. -/
def putInputView (i : InputView) : List Byte :=
  (putInput (0, i.config)).drop 1 ++ putEnum levelList i.level ++ putFlag i.active ++ putFlag i.pending

/-- A relay. -/
def putRelay (r : Relay) : List Byte :=
  putNum 1 r.zone ++ putEnum overrideList r.override ++ putEnum positionList r.position

/-- The bell status (R56). DESIGN CHOICE, log 20, unsafe: the 16 zones, 8 inputs and 2 relays, groups of fixed size, go
without a count. -/
def putBellStatus (b : BellStatus) : List Byte :=
  putCurrent b.current ++ putList putJob b.waiting ++ b.zones.flatMap putZone ++ b.sounding.flatMap (putNum 1)
    ++ b.inputs.flatMap putInputView ++ b.relays.flatMap putRelay

/-- A duplicate-tap memory (R87), every field absent when it is empty. -/
def putMemory : Option TapMemory → List Byte
  | none => absentBytes 9
  | some m => putHandle m.token ++ putEnum answerList m.answer ++ putNum 3 m.second ++ putNum 1 m.age

/-- A referral with its pupil number (Table 4 of Chapter 4), every field absent when there is none. -/
def putReferral : Option (Referral × Nat) → List Byte
  | none => absentBytes 15
  | some (r, p) =>
    putNum 1 r.number ++ putNum 2 p ++ putEnum directionList r.direction
      ++ putEnum referralReasonList r.reason ++ putOptSession r.session ++ putEnum bandList r.band
      ++ putNum 1 r.minutes ++ putNum 3 r.tapSecond ++ putNum 1 r.segment ++ [r.address] ++ putNum 1 r.sequence
      ++ putNum 1 r.timer

/-- One gate of READ_GATES (R87). -/
def putGate (g : GateView) : List Byte :=
  putEnum gateModeList g.mode ++ putEnum gateStateList g.state ++ putFlag g.outOfService ++ putNum 2 g.grace
    ++ putMemory g.memory ++ putReferral g.referral

/-- A form window of READ_WINDOWS (R107). -/
def putForm (x : Nat × WindowState × FormWindow) : List Byte :=
  putNum 1 x.1 ++ putEnum windowList x.2.1 ++ putNum 2 x.2.2.expected ++ putNum 2 x.2.2.unmarked
    ++ putFlag x.2.2.taken ++ putFlag x.2.2.done

/-- A walk list entry. -/
def putWalk (w : Walk) : List Byte :=
  (match w.kind with
    | .close x ref => putNum 1 0 ++ putEnum sessionList x ++ putOpt 3 ref
    | .periodEnd k => putNum 1 1 ++ putNum 1 k) ++ putNum 2 w.cursor

/-- An excuse with its pupil number (R122). -/
def putExcuse (x : Nat × Excuse) : List Byte :=
  putNum 2 x.1 ++ putNum 2 x.2.first ++ putNum 2 x.2.last ++ putEnum sessionsList x.2.sessions
    ++ putEnum reasonList x.2.reason ++ putEnum excuseSourceList x.2.source

/-- The excuse that covers D1 (R120). -/
def putCovering : Option Excuse → List Byte
  | none => putOpt 2 none ++ putOpt 2 none ++ [0xFF, 0xFF, 0xFF]
  | some e =>
    putNum 2 e.first ++ putNum 2 e.last ++ putEnum sessionsList e.sessions ++ putEnum reasonList e.reason
      ++ putEnum excuseSourceList e.source

/-- A notice record (Table 1 of Chapter 7). -/
def putNotice (n : Notice) : List Byte :=
  putNum 2 n.number ++ putNum 2 n.family ++ putList putListed n.pupils ++ putEnum noticeReasonList n.reason
    ++ putOptSession n.session ++ putOpt 1 n.period ++ putOpt 1 n.minutes ++ putNum 1 n.template ++ putNum 1 n.position
    ++ putNum 1 n.attempts ++ putNum 3 n.notBefore ++ putEnum noticeStateList n.state ++ putNum 2 n.timer

/-- The template table. DESIGN CHOICE, log 20, unsafe: the four templates, a group of fixed size, go without a count. -/
def putTemplates (t : Templates) : List Byte :=
  putNum 1 t.absence ++ putNum 1 t.lateClosed ++ putNum 1 t.internal ++ putNum 1 t.concern

/-- A station table entry: the fields of Table 2 of Chapter 8 (R150, R157). -/
def putStation (e : Station) : List Byte :=
  [e.address, e.mask] ++ putNum 1 e.segment ++ putEnum stationKindList e.kind ++ putNum 1 e.unit
    ++ putFlag e.enabled ++ putEnum presenceList e.presence ++ putNum 1 e.misses

/-- An open exchange: its address and the kind of frame sent (R157). DESIGN CHOICE, log 20, unsafe: the kind is its code
of Table 3 of Chapter 11, as in a BUSY. -/
def putExchange : Option Exchange → List Byte
  | none => putOpt 1 none ++ putOpt 1 none
  | some ⟨a, .poll⟩ => [a, 0x01]
  | some ⟨a, .bell _⟩ => [a, 0x04]

/-- A field segment of READ_PORTS (R157). DESIGN CHOICE, log 20, unsafe: the number of frames waiting outside the queue,
for which no rule states a range, takes 1 byte. -/
def putSegment (g : SegmentView) : List Byte :=
  putNum 1 g.addresses ++ putNum 1 g.cursor ++ putNum 1 g.cycle ++ putNum 1 g.bells ++ putNum 1 g.answers
    ++ putNum 1 g.acks ++ putNum 1 g.outside ++ putExchange g.exchange

/-- A port's error record (R147). -/
def putErrors (x : Port × ErrorRecord) : List Byte :=
  putCounts x.1 x.2 ++ putCapture x.2.capture ++ putFlag x.2.alerted

/-- The parameter set (Table 5 of Chapter 9). DESIGN CHOICE, log 20, unsafe: the 8 graces go without a count. -/
def putParams (p : Params) : List Byte :=
  ((List.range 8).flatMap fun g => putNum 2 (tabGet defaultGrace p.grace g)) ++ putNum 1 p.dupWindow
    ++ putNum 1 p.referralTimeout ++ putNum 2 p.outcomeTimeout ++ putNum 2 p.retryGap ++ putNum 2 p.threshold
    ++ putNum 1 p.hysteresis ++ putNum 1 p.pmin ++ putNum 1 p.portThreshold

/-- The Schedule Unit of READ_CLOCK (R48). DESIGN CHOICE, log 20, unsafe: the count of outstanding settlements, for
which the rule states no range, takes 2 bytes. -/
def putSchedule (v : ScheduleView) : List Byte :=
  putEnum clockList v.clock ++ putOpt 2 (v.time.map Prod.fst) ++ putOpt 3 (v.time.map Prod.snd)
    ++ putEnum schedList v.state ++ putOpt 1 v.active ++ putOpt 1 v.staged ++ putCursor v.cursor
    ++ putOpt 3 (v.next.map (·.time)) ++ putOpt 1 (v.next.map fun e => (eventActBytes e.act).1)
    ++ putNum 3 v.lastSecond ++ putNum 2 v.lastDay ++ putCalEntry v.today ++ putNum 2 v.outstanding

/-- The Message Unit of READ_NOTICES (R142), the window by its place in R127's list, OPEN 0 and CLOSED 1 (R175). -/
def putNotices (v : NoticesView) : List Byte :=
  putEnum noticeWindowList (if v.windowOpen then .opened else .closed) ++ putEnum walkStateList v.walk
    ++ putNum 2 v.cursor ++ putFlag v.rewalk ++ putFlag v.deferral ++ putNum 1 v.creditLimit ++ putNum 1 v.inFlight
    ++ putNum 2 v.count ++ putNum 2 v.nextNumber ++ putTemplates v.templates
    ++ putNum 2 v.selected ++ putList putNotice v.records

/-- The marks of the items a SET_PARAMS clamped, one for each item (R165); READ_PARAMS carries none (R166). -/
def putMarks : List Bool → List Byte
  | [] => []
  | cl => putList putFlag cl

/-- A reply's data in the order of the rule of its request. DESIGN CHOICE, log 20, unsafe: LOAD_ROLL's created or
updated (R21) goes as a flag, 1 for created; ADD_EXCUSE's codes (R120) as a counted list, with a count of 0 where
today's part was not applied; REMOVE_EXCUSE's reshaped, removed and split counts (R121) and the number of RESTART's
triggers (R171), for which no rule states a range, in 2 bytes each; and the groups of fixed size (gates, lesson windows,
ports, segments) without a count.
Log 19: the payload may exceed 240 bytes. -/
def replyPayloadData : ReplyData → List Byte
  | .none => []
  | .loadedRoll slot created => putNum 2 slot ++ putFlag created
  | .rollEntry slot e absence q next => putRollEntry slot e absence q next
  | .slot n => putNum 2 n
  | .family f => putFlag f.held ++ putList putContact f.contacts
  | .markChange old new => putEnum markCodes old ++ putEnum markCodes new
  | .term t q => putTerm t ++ putNum 2 q
  | .stage swapped => putFlag swapped
  | .clock d t st => putNum 2 d ++ putNum 3 t ++ putEnum schedList st
  | .eventCount n => putNum 1 n
  | .planEvents n es => putNum 1 n ++ putList putEvent es
  | .calendar es => putList putCalEntry es
  | .schedule v => putSchedule v
  | .bellStatus b => putBellStatus b
  | .ring b current discarded => putBellStatus b ++ putFlag current ++ putFlag discarded
  | .gateModes gs => gs.flatMap fun g => putEnum gateModeList g.1 ++ putEnum gateStateList g.2
  | .referralAnswer k q m => putEnum movementKindList k ++ putOpt 2 q ++ putOptMark m
  | .movements d n full rs => putNum 2 d ++ putNum 2 n ++ putFlag full ++ putList (fun x => putMovement (some x.1) x.2) rs
  | .gates gs c n m full => gs.flatMap putGate ++ putNum 1 c ++ putNum 2 n ++ putNum 2 m ++ putFlag full
  | .windows fs ls ws => putList putForm fs ++ ls.flatMap (putEnum windowList) ++ putList putWalk ws
  | .excuseAdded e free codes =>
    putCovering e ++ putNum 2 free ++ (match codes with
      | none => putNum 1 0
      | some cs => putList (putEnum markCodes) cs)
  | .excuseRemoved a b c free => putNum 2 a ++ putNum 2 b ++ putNum 2 c ++ putNum 2 free
  | .excuses n free d es => putNum 2 n ++ putNum 2 free ++ putNum 2 d ++ putList putExcuse es
  | .noticeSent n count => putNum 2 n ++ putNum 2 count
  | .notices v => putNotices v
  | .templates t => putTemplates t
  | .station e => putStation e
  | .pollStored n => putNum 1 n
  | .ports rs gs lost => rs.flatMap putErrors ++ gs.flatMap putSegment ++ putNum 2 lost
  | .stations es => putList putStation es
  | .pollList as c n => putList (fun a => [a]) as ++ putNum 1 c ++ putNum 1 n
  | .params p cl => putParams p ++ putMarks cl
  | .restart valid st c n lost => putFlag valid ++ putEnum schedList st ++ putFlag c ++ putNum 2 n ++ putNum 2 lost
  | .cleared valid => putFlag valid

/-- The payload of a REPLY: the request kind, absent when not known, the status and the data. -/
def replyPayload (r : Reply) : List Byte :=
  putOpt 1 r.request ++ putEnum statusList r.status ++ replyPayloadData r.data

/-- The bytes of a frame to the office: a reply carries its request's tag, a report 0. -/
def uplinkBytes : UplinkFrame → List Byte
  | .reply r => frameBytes officeAddress 0x10 r.tag (replyPayload r)
  | .report r => frameBytes officeAddress 0x11 0 (reportPayload r)

/-- The bytes of the frame a port is sending, if it is sending one. -/
def lineBytes (s : State) : Port → Option (List Byte)
  | .uplink => s.line.upSending.map uplinkBytes
  | .gateway => s.line.gwSending.map gatewayBytes
  | .field n => (segmentAt s n).sending.map fieldBytes

/-- The bits of the frame a port is sending, its break first, if it is sending one (R174). -/
def sentBits (s : State) (p : Port) : Option (List Bool) := (lineBytes s p).map frameBits

end Sys2Proof.Machine
end

