-- ==== Sys2Proof/Machine/Receive.lean ====
section
/-! DEFINITION. How a port receives (R146, R174): the bits of a byte and the faults found in them, the assembly of a
frame from what follows a break, its judgement, and the command that a received frame is. DESIGN CHOICE, log 23: State
holds no frame in assembly, for the command is the frame's completion. -/

namespace Sys2Proof.Machine

open Sys2Proof

/-! ### Bytes as they are sampled (R146, R174) -/

/-- The receiver's three samples of one bit (R146); mark is `true`. -/
structure Sample where
  first : Bool
  second : Bool
  third : Bool
  deriving DecidableEq, Repr

/-- A bit whose samples all read its level. -/
def cleanSample (b : Bool) : Sample := ⟨b, b, b⟩

/-- The level of a bit whose samples agree. -/
def Sample.level (x : Sample) : Option Bool := if x.first = x.second ∧ x.second = x.third then some x.first else none

/-- A byte as it is sampled: eleven bits, the data from the least significant. -/
structure LineByte where
  start : Sample
  data : Vector Sample 8
  parity : Sample
  stop : Sample
  deriving DecidableEq, Repr

/-- A byte as it is sampled from an undisturbed line. -/
def cleanByte (b : Byte) : LineByte :=
  { start := cleanSample false
    data := Vector.ofFn fun i : Fin 8 => cleanSample (b.getLsbD i)
    parity := cleanSample (parityBit b)
    stop := cleanSample true }

/-- The levels of a list of bits; `none` when the samples of one disagree. -/
def levels : List Sample → Option (List Bool)
  | [] => some []
  | x :: xs =>
    match x.level with
    | none => none
    | some b => (levels xs).map (b :: ·)

/-- The byte of data bits, the least significant first. -/
def byteOf : List Bool → Byte
  | [] => 0
  | b :: bs => byteOf bs <<< 1 ||| if b then 1 else 0

/-- What a sampled byte is read as: its value, or a fault found in it (Table 1 of Chapter 8). DEDUCED, log 23: of
several faults in one byte, noise before the stop bit comes first, then parity, then the stop bit's own noise or
framing. -/
def readByte (c : LineByte) : Byte ⊕ FrameFault :=
  match c.start.level, levels c.data.toList, c.parity.level with
  | some _, some bits, some p =>
    if p ≠ parityBit (byteOf bits) then .inr .parity
    else
      match c.stop.level with
      | none => .inr .noise
      | some true => .inl (byteOf bits)
      | some false => .inr .framing
  | _, _, _ => .inr .noise

/-! ### Assembly (R146) -/

/-- What a port's receiver hears: a break, or a byte. -/
inductive LineItem
  | brk
  | byte (c : LineByte)
  deriving DecidableEq, Repr

/-- The receiver between two frames, discarding what it hears, or with the bytes of a frame in assembly. -/
inductive Assembly
  | waiting
  | collecting (bytes : List Byte)
  deriving DecidableEq, Repr

/-- What becomes of a frame: good and addressed to the M24, good and addressed elsewhere, or invalid. -/
inductive Received
  | good (src kind tag : Byte) (payload : List Byte)
  | elsewhere
  | invalid (fault : FrameFault) (header : FrameHeader)
  deriving DecidableEq, Repr

/-- The header of a frame, as far as its bytes have been received (R147). -/
def headerOf (bs : List Byte) : FrameHeader :=
  { dest := bs[0]?, src := bs[1]?, kind := bs[2]?, length := (bs[4]?).map (·.toNat) }

/-- The length byte of a frame in assembly. -/
def lengthOf (bs : List Byte) : Nat := ((bs[4]?).map (·.toNat)).getD 0

/-- The judgement of a complete frame: its check, and then its destination. -/
def judgeComplete (bs : List Byte) : Received :=
  let body := bs.take (5 + lengthOf bs)
  if withCheck body ≠ bs then .invalid .check (headerOf bs)
  else
    match body with
    | dest :: src :: kind :: tag :: _ :: payload => if dest = ownAddress then .good src kind tag payload else .elsewhere
    | _ => .elsewhere

/-- The bytes of a frame in assembly after one more. -/
def collect (bs : List Byte) : Assembly × Option Received :=
  if 5 ≤ bs.length ∧ 240 < lengthOf bs then (.waiting, some (.invalid .length (headerOf bs)))
  else if 5 ≤ bs.length ∧ bs.length = 7 + lengthOf bs then (.waiting, some (judgeComplete bs))
  else (.collecting bs, none)

/-- One item heard by the receiver (R146): a break begins a new frame, and cuts a frame in assembly short; a byte joins
the frame in assembly or makes it invalid; and outside a frame a byte is discarded. DESIGN CHOICE, log 23, unsafe: the
byte in which a fault is found does not count as received in the capture (R147). -/
def hear (a : Assembly) (x : LineItem) : Assembly × Option Received :=
  match a, x with
  | .waiting, .brk => (.collecting [], none)
  | .waiting, .byte _ => (.waiting, none)
  | .collecting bs, .brk => (.collecting [], some (.invalid .short (headerOf bs)))
  | .collecting bs, .byte c =>
    match readByte c with
    | .inl b => collect (bs ++ [b])
    | .inr f => (.waiting, some (.invalid f (headerOf bs)))

/-- The frames that a receiver makes of what it hears, in order. -/
def hearAll (a : Assembly) : List LineItem → List Received
  | [] => []
  | x :: xs =>
    match hear a x with
    | (a', none) => hearAll a' xs
    | (a', some r) => r :: hearAll a' xs

/-- A break and bytes on an undisturbed line. -/
def cleanFrame (bs : List Byte) : List LineItem := .brk :: bs.map fun b => .byte (cleanByte b)

/-! ### The command a received frame is -/

/-- A good frame on a field segment, by its kind (R149). -/
def fieldCommand (seg : Nat) (src kind : Byte) (payload : List Byte) : Instr :=
  if kind = tapCode then .tap seg src payload
  else if kind = registerCode then .register seg src payload
  else if kind = nothingCode ∧ payload = [] then .nothing seg src
  else if kind = bellAckCode ∧ payload = [] then .bellAck seg src
  else .wrongKindReply seg src kind payload

/-- A good frame on the gateway line, by its kind (R136). -/
def gatewayCommand (src kind : Byte) (payload : List Byte) : Instr :=
  if kind = readyCode then .ready src payload
  else if kind = outcomeCode then .outcome src payload
  else if kind = parentReportCode then .parentReport src payload
  else .gatewayOtherFrame src kind payload

/-- The command that a received frame is on a port; a frame addressed elsewhere is none (R146). -/
def commandOfFrame (p : Port) : Received → Option Instr
  | .elsewhere => none
  | .invalid f h => some (.invalidFrame p f h)
  | .good src kind tag payload =>
    match p with
    | .uplink => some (.unknownRequest ⟨src, tag⟩ kind payload)
    | .gateway => some (gatewayCommand src kind payload)
    | .field n => some (fieldCommand n src kind payload)

end Sys2Proof.Machine
end

