-- ==== Sys2Proof/WellFormed.lean ====
section
/-! DEFINITION. What a command's operands must be to be sent at all: every number fits the field that carries it
(R175), a payload has at most 240 bytes (Table 1 of Chapter 11), and a port, gate, zone or input exists. -/

namespace Sys2Proof

/-- A field of one byte. -/
abbrev fits1 (n : Nat) : Bool := n < 256

/-- A field of two bytes. -/
abbrev fits2 (n : Nat) : Bool := n < 65536

/-- A field of three bytes. -/
abbrev fits3 (n : Nat) : Bool := n < 16777216

/-- A payload the length byte can name. -/
abbrev payloadOk (p : List Byte) : Bool := p.length ≤ 240

/-- An event's argument fits its byte. -/
def EventAct.wf : EventAct → Bool
  | .periodStart k => fits1 k
  | .periodEnd k => fits1 k
  | .bell => true
  | .sessionOpen _ => true
  | .sessionStart _ => true
  | .sessionClose _ => true
  | .gateMode _ _ => true
  | .noticeWindowOpen => true
  | .noticeWindowClose => true

/-- An event's fields fit their bytes. -/
def Event.wf (e : Event) : Bool := fits3 e.time && e.act.wf && fits1 e.tone && fits1 e.duration

/-- A calendar entry's plan number is told from CLOSED. -/
def CalEntry.wf : CalEntry → Bool
  | .plan p => p < 255
  | .closed => true

/-- A contact input entry fits its bytes. -/
def inputEntryWf (x : Nat × InputConfig) : Bool :=
  fits1 x.1 && fits1 x.2.debounce && fits1 x.2.tone && fits1 x.2.duration

/-- An optional one-byte number is told from its absent value. -/
def optWf : Option Nat → Bool
  | none => true
  | some n => n < 255

/-- A parameter item fits its bytes. -/
def ParamItem.wf (x : ParamItem) : Bool := fits2 x.value && optWf x.gate

/-- A READ_ROLL selector fits its bytes. -/
def RollSelector.wf : RollSelector → Bool
  | .pupil n => fits2 n
  | .slot n => fits2 n

/-- A READ_EXCUSES selector fits its bytes. -/
def ExcuseSelector.wf : ExcuseSelector → Bool
  | .all => true
  | .pupil n => fits2 n

/-- A READ_NOTICES selector fits its bytes. -/
def NoticeSelector.wf : NoticeSelector → Bool
  | .all => true
  | .family n => fits2 n
  | .number n => fits2 n

/-- A request's arguments fit the fields that carry them, and its lists the ranges of their counts (R175, R176). -/
def Request.wf : Request → Bool
  | .loadRoll a => fits2 a.pupil && 1 ≤ a.tokens.length && a.tokens.length ≤ 2 && fits1 a.form && fits1 a.year
      && fits2 a.family
  | .readRoll sel => sel.wf
  | .dropRoll p => fits2 p
  | .loadFamily f _ cs => fits2 f && 1 ≤ cs.length && cs.length ≤ 4
  | .readFamily f => fits2 f
  | .setMark p _ _ => fits2 p
  | .adjustCounts a => fits2 a.pupil && fits2 a.p && fits2 a.a && fits2 a.u && fits2 a.lateCount && fits2 a.lateMinutes
  | .loadCalendar first es => fits2 first && 1 ≤ es.length && es.length ≤ 200 && es.all CalEntry.wf
  | .stagePlan p => fits1 p
  | .setClock d t => fits2 d && fits3 t
  | .loadPlan p start es _ => fits1 p && fits1 start && es.length ≤ 16 && es.all Event.wf
  | .readPlanPlan p start => fits1 p && fits1 start
  | .readPlanCalendar first count => fits2 first && fits1 count
  | .readClock => true
  | .ring _ tone d _ => fits1 tone && fits1 d
  | .loadInputs es => 1 ≤ es.length && es.length ≤ 8 && es.all inputEntryWf
  | .setRelay r _ z => fits1 r && optWf z
  | .setGateMode _ _ => true
  | .answerReferral g n _ => fits1 g && fits1 n
  | .readMovements start count => fits2 start && fits1 count
  | .readGates => true
  | .readWindows _ first count => fits1 first && fits1 count
  | .addExcuse a => fits2 a.pupil && fits1 a.offset && fits1 a.count
  | .removeExcuse p first last => fits2 p && fits2 first && fits2 last
  | .readExcuses sel start count => sel.wf && fits1 start && fits1 count
  | .sendNotice f t ps => fits2 f && fits1 t && 1 ≤ ps.length && ps.length ≤ 4 && ps.all fun p => fits2 p
  | .readNotices sel start count => sel.wf && fits1 start && fits1 count
  | .loadTemplates es => 1 ≤ es.length && es.length ≤ 4 && es.all fun x => fits1 x.2
  | .loadStation a => fits1 a.entry && fits1 a.segment && fits1 a.unit
  | .loadPollList g as => fits1 g && as.length ≤ 32
  | .readPortsPorts _ => true
  | .readPortsStations first count => fits1 first && fits1 count
  | .readPortsPollList g => fits1 g
  | .setParams items => 1 ≤ items.length && items.length ≤ 16 && items.all ParamItem.wf
  | .readParams => true
  | .restart => true
  | .clearAll => true

/-- A port that exists. -/
def Port.wf : Port → Bool
  | .uplink => true
  | .gateway => true
  | .field n => n < 4

/-- A frame of an open field segment. -/
abbrev fieldWf (seg : Nat) (payload : List Byte) : Bool := seg < 4 && payloadOk payload

/-- A command whose operands can be sent. -/
def Instr.wf : Instr → Bool
  | .secondsTick => true
  | .settlementStart => true
  | .settleSlot => true
  | .closeWalkVisit => true
  | .periodEndWalkVisit => true
  | .noticeWalkVisit => true
  | .tap seg _ p => fieldWf seg p
  | .referralExpiry g => g < 8
  | .register seg _ p => fieldWf seg p
  | .nothing seg _ => seg < 4
  | .bellAck seg _ => seg < 4
  | .wrongKindReply seg _ _ p => fieldWf seg p
  | .outOfTurnFrame seg _ _ p => fieldWf seg p
  | .strangerFrame seg _ _ p => fieldWf seg p
  | .invalidFrame port _ h => port.wf && (match h.length with | none => true | some n => fits1 n)
  | .exchangeMiss seg => seg < 4
  | .fieldFrameSent seg => seg < 4
  | .outputQueueAdmit seg => seg < 4
  | .soundingCountExpiry z => z < 16
  | .inputChange n _ _ => n < 8
  | .ready _ p => payloadOk p
  | .notBeforeReached n => fits2 n
  | .outcome _ p => payloadOk p
  | .outcomeTimeout n => fits2 n
  | .parentReport _ p => payloadOk p
  | .gatewayFrameSent => true
  | .uplinkFrameSent => true
  | .unknownRequest _ _ p => payloadOk p
  | .loadRoll _ a => (Request.loadRoll a).wf
  | .readRoll _ sel => (Request.readRoll sel).wf
  | .dropRoll _ p => (Request.dropRoll p).wf
  | .loadFamily _ f held cs => (Request.loadFamily f held cs).wf
  | .readFamily _ f => (Request.readFamily f).wf
  | .setMark _ p x c => (Request.setMark p x c).wf
  | .adjustCounts _ a => (Request.adjustCounts a).wf
  | .loadCalendar _ first es => (Request.loadCalendar first es).wf
  | .stagePlan _ p => (Request.stagePlan p).wf
  | .setClock _ d t => (Request.setClock d t).wf
  | .loadPlan _ p start es final => (Request.loadPlan p start es final).wf
  | .readPlanPlan _ p start => (Request.readPlanPlan p start).wf
  | .readPlanCalendar _ first count => (Request.readPlanCalendar first count).wf
  | .readClock _ => true
  | .ring _ z tone d o => (Request.ring z tone d o).wf
  | .loadInputs _ es => (Request.loadInputs es).wf
  | .setRelay _ r o z => (Request.setRelay r o z).wf
  | .setGateMode _ _ _ => true
  | .answerReferral _ g n d => (Request.answerReferral g n d).wf
  | .readMovements _ start count => (Request.readMovements start count).wf
  | .readGates _ => true
  | .readWindows _ x first count => (Request.readWindows x first count).wf
  | .addExcuse _ a => (Request.addExcuse a).wf
  | .removeExcuse _ p first last => (Request.removeExcuse p first last).wf
  | .readExcuses _ sel start count => (Request.readExcuses sel start count).wf
  | .sendNotice _ f t ps => (Request.sendNotice f t ps).wf
  | .readNotices _ sel start count => (Request.readNotices sel start count).wf
  | .loadTemplates _ es => (Request.loadTemplates es).wf
  | .loadStation _ a => (Request.loadStation a).wf
  | .loadPollList _ g as => (Request.loadPollList g as).wf
  | .readPortsPorts _ _ => true
  | .readPortsStations _ first count => (Request.readPortsStations first count).wf
  | .readPortsPollList _ g => (Request.readPortsPollList g).wf
  | .setParams _ items => (Request.setParams items).wf
  | .readParams _ => true
  | .restart _ => true
  | .clearAll _ => true
  | .powerFail => true
  | .powerUp => true
  | .backupLow _ => true
  | .firstLevelTaken n _ => n < 8
  | .gatewayOtherFrame _ kind p => payloadOk p && kind != 0x0C && kind != 0x0D && kind != 0x0E

end Sys2Proof
end

