-- ==== Sys2Proof/Safety.lean ====
section
/-! DEFINITION. The terms in which claims about the M24 are stated: the command of a request, what a reply leaves, the
conditions under which a frame is heard, and the invariants of the part. -/

namespace Sys2Proof.Machine

open Sys2Proof

/-! ### Requests and replies (R159 to R161) -/

/-- The command that a request, with the header of its frame, is. -/
def commandOf (h : UpHeader) : Request → Instr
  | .loadRoll a => .loadRoll h a
  | .readRoll sel => .readRoll h sel
  | .dropRoll pupil => .dropRoll h pupil
  | .loadFamily family held contacts => .loadFamily h family held contacts
  | .readFamily family => .readFamily h family
  | .setMark pupil session code => .setMark h pupil session code
  | .adjustCounts a => .adjustCounts h a
  | .loadCalendar first entries => .loadCalendar h first entries
  | .stagePlan p => .stagePlan h p
  | .setClock day second => .setClock h day second
  | .loadPlan plan start events final => .loadPlan h plan start events final
  | .readPlanPlan p start => .readPlanPlan h p start
  | .readPlanCalendar first count => .readPlanCalendar h first count
  | .readClock => .readClock h
  | .ring zones tone duration opn => .ring h zones tone duration opn
  | .loadInputs entries => .loadInputs h entries
  | .setRelay relay opn zone => .setRelay h relay opn zone
  | .setGateMode mask mode => .setGateMode h mask mode
  | .answerReferral gate number decision => .answerReferral h gate number decision
  | .readMovements start count => .readMovements h start count
  | .readGates => .readGates h
  | .readWindows session first count => .readWindows h session first count
  | .addExcuse a => .addExcuse h a
  | .removeExcuse pupil first last => .removeExcuse h pupil first last
  | .readExcuses sel start count => .readExcuses h sel start count
  | .sendNotice family template pupils => .sendNotice h family template pupils
  | .readNotices sel start count => .readNotices h sel start count
  | .loadTemplates entries => .loadTemplates h entries
  | .loadStation a => .loadStation h a
  | .loadPollList segment addresses => .loadPollList h segment addresses
  | .readPortsPorts clear => .readPortsPorts h clear
  | .readPortsStations first count => .readPortsStations h first count
  | .readPortsPollList segment => .readPortsPollList h segment
  | .setParams items => .setParams h items
  | .readParams => .readParams h
  | .restart => .restart h
  | .clearAll => .clearAll h

/-- A request is taken as it arrives: main power is present and the Office Agent is IDLE (R159). -/
abbrev takesRequests (s : State) : Prop := s.office.powered = true ∧ s.office.agent = .idle

/-- The reply buffer holds a request's reply, and nothing else of the part has changed but that a free uplink sends
the reply (R160, R161). -/
def withReply (h : UpHeader) (r : Request) (st : Status) (d : ReplyData) (s : State) : State :=
  let reply : Reply := { tag := h.tag, request := some (requestCode r), status := st, data := d }
  { s with
    office := { s.office with agent := .replying, reply := some reply }
    line := { s.line with upSending := some (s.line.upSending.getD (.reply reply)) } }

/-- The reply buffer holds a request's reply (R160). -/
abbrev answered (h : UpHeader) (r : Request) (st : Status) (d : ReplyData) (t : State) : Prop :=
  t.office.agent = .replying
    ∧ t.office.reply = some { tag := h.tag, request := some (requestCode r), status := st, data := d }

/-- Two states agree on what main power, parameters, retention and catch-up say (Chapters 9 and 10). -/
abbrev sameControl (s t : State) : Prop :=
  t.office.params = s.office.params ∧ t.office.retentionValid = s.office.retentionValid
    ∧ t.office.backupLow = s.office.backupLow ∧ t.office.powered = s.office.powered
    ∧ t.office.catchUp = s.office.catchUp

/-- A contact list that LOAD_FAMILY takes whole: no refusal of R24 applies. -/
abbrev familyLoadable (family : Nat) (cs : List Contact) (s : State) : Prop :=
  writersHeld s = false ∧ family ≤ 2047 ∧ 1 ≤ cs.length ∧ cs.length ≤ 4 ∧ (∀ c ∈ cs, c.handle ≠ 0)
    ∧ (cs.map (·.handle)).Nodup ∧ ∀ n ∈ s.msg.notices, n.family = family → n.state = .queued

/-- The value a parameter item names: a parameter, or one gate's grace (Table 5 of Chapter 9). -/
def paramValue (p : Params) (name : ParamName) (gate : Nat) : Nat :=
  match name with
  | .grace => tabGet defaultGrace p.grace gate
  | .dupWindow => p.dupWindow
  | .referralTimeout => p.referralTimeout
  | .outcomeTimeout => p.outcomeTimeout
  | .retryGap => p.retryGap
  | .threshold => p.threshold
  | .hysteresis => p.hysteresis
  | .pmin => p.pmin
  | .portThreshold => p.portThreshold

/-! ### Reports, alerts and movements (R83, R84, R162) -/

/-- So many reports have been made: each takes the next report number, whether or not it found room (R162, R163). -/
abbrev reportsMade (k : Nat) (s t : State) : Prop :=
  t.office.reportNumber = if k = 0 then s.office.reportNumber else (s.office.reportNumber + k) % 65536

/-- A movement has been recorded: at the end of the list, or, where the list holds 1024, not listed and the
MOVEMENTS_FULL flag set (R83). -/
abbrev movementRecorded (m : Movement) (s t : State) : Prop :=
  (s.gate.movements.length < 1024 →
    t.gate.movements = s.gate.movements ++ [m] ∧ t.gate.movementsFull = s.gate.movementsFull)
  ∧ (1024 ≤ s.gate.movements.length → t.gate.movements = s.gate.movements ∧ t.gate.movementsFull = true)

/-- How many reports a movement makes: its ARRIVAL report, and the day's one MOVEMENTS_FULL alert (R83, R84). -/
def movementReports (s : State) : Nat :=
  if 1024 ≤ s.gate.movements.length ∧ s.gate.movementsFull = false then 2 else 1

/-- The sequence number of the next movement, absent when it is not to be listed (R83). -/
def movementSequence (s : State) : Option Nat :=
  if s.gate.movements.length < 1024 then some s.gate.movements.length else none

/-! ### Field segments (Chapter 8) -/

/-- A segment's line is free, with nothing queued or waiting. -/
abbrev lineIdle (s : State) (seg : Nat) : Prop :=
  (segmentAt s seg).sending = none ∧ (segmentAt s seg).exchange = none ∧ (segmentAt s seg).queue = []
    ∧ (segmentAt s seg).outside = []

/-- A segment awaits an address's answer to a POLL with nothing queued, and station table entry `n` classifies the
address (R148, R153, R154). -/
abbrev awaitsPoll (s : State) (seg : Nat) (a : Byte) (n : Nat) : Prop :=
  (segmentAt s seg).sending = none ∧ (segmentAt s seg).exchange = some ⟨a, .poll⟩
    ∧ (segmentAt s seg).queue = [] ∧ (segmentAt s seg).outside = [] ∧ classify s seg a = some n

/-- A segment awaits the acknowledgement of a BELL that stands for `m` handed frames. -/
abbrev awaitsBell (s : State) (seg : Nat) (a : Byte) (m n : Nat) : Prop :=
  (segmentAt s seg).sending = none ∧ (segmentAt s seg).exchange = some ⟨a, .bell m⟩ ∧ classify s seg a = some n

/-- The line has turned to sending one frame, and nothing else is queued or awaited. -/
abbrev nowSends (t : State) (seg : Nat) (f : FieldFrame) : Prop :=
  (segmentAt t seg).sending = some f ∧ (segmentAt t seg).exchange = none ∧ (segmentAt t seg).queue = []
    ∧ (segmentAt t seg).outside = []

/-- The station credited with an exchange answered: PRESENT with no misses (Table 5 of Chapter 8). -/
def credited (e : Station) : Station := { e with presence := .present, misses := 0 }

/-- How many alerts a station's reply makes: STATION_BACK for an ABSENT one (R155). -/
def backAlerts (e : Station) : Nat := if e.presence = .absent then 1 else 0

/-- How many alerts a station's miss makes: STATION_ABSENT for the third in a row (R155). -/
def lostAlerts (e : Station) : Nat := if e.presence = .present ∧ 2 ≤ e.misses then 1 else 0

/-- The GATE_ANSWER that ends a referral is sent by its reader's segment, when that is idle: with the sequence byte of
the held tap, its pupil, and the band and minutes judged for an IN tap (R78). -/
abbrev readerAnswered (r : Referral) (a : Answer) (s t : State) : Prop :=
  lineIdle s r.segment → nowSends t r.segment ⟨r.address, .gateAnswer r.sequence a (some (pupilAt s r.slot)) r.band
    (if r.band.isSome = true then r.minutes else 0)⟩

/-- The sequencer can make no move: it has no job, or it waits for a frame to be admitted or reported. -/
abbrev bellWaits (s : State) : Prop := bellStep s = none

/-- A bell job has been rung from its first zone to its last with no sounder to wait for (R51 to R54): every zone of
its mask sounds, and an active SUPPRESS input holds its zones from a job that does not override. -/
abbrev rungAtOnce (job : BellJob) (s t : State) : Prop :=
  t.bell.current = none ∧ t.bell.waiting = []
    ∧ (∀ z, z < 16 → inZones job.zones z = true → (job.override = true ∨ zoneSuppressed s z = false) →
        soundingAt t z = max (soundingAt s z) job.duration
        ∧ zoneAt t z = { outcome := .confirmed, day := s.sched.day, second := s.sched.second
                         origin := some job.origin, sent := 0, acked := 0 })
    ∧ (∀ z, z < 16 → inZones job.zones z = true → job.override = false → zoneSuppressed s z = true →
        soundingAt t z = soundingAt s z
        ∧ zoneAt t z = { outcome := .suppressed, day := s.sched.day, second := s.sched.second
                         origin := some job.origin, sent := 0, acked := 0 })
    ∧ ∀ z, z < 16 → inZones job.zones z = false → soundingAt t z = soundingAt s z ∧ zoneAt t z = zoneAt s z

/-- A job that finds no job before it has nothing to wait for: its zones have no sounder, and no LOW_LEVEL input goes on
ringing. -/
abbrev ringsAtOnce (job : BellJob) (s : State) : Prop :=
  s.bell.current = none ∧ s.bell.waiting = [] ∧ (∀ i, i < 8 → (inputAt s i).live = false)
    ∧ ∀ z, z < 16 → inZones job.zones z = true → sounders s z = []

/-- Station table entry `n` is an enabled sounder of a zone (R52). -/
abbrev soundsIn (s : State) (z n : Nat) : Prop :=
  n < 48 ∧ (stationAt s n).enabled = true ∧ (stationAt s n).kind = .sounder ∧ (stationAt s n).unit = z

/-- The segment and address of a station table entry. -/
abbrev placeOf (s : State) (n : Nat) : Nat × Byte := ((stationAt s n).segment, (stationAt s n).address)

/-- A zone has been begun and waits for its frames' reports: as many handed as given, none reported (R51 to R54). -/
abbrev zoneBegun (job : BellJob) (z handed : Nat) (s t : State) : Prop :=
  t.bell.current = some
      { job := job, zone := z, ringing := some { toHand := [], handed := handed, reported := 0, acked := 0 } }
    ∧ t.bell.waiting = [] ∧ t.bell.zones = s.bell.zones ∧ t.bell.inputs = s.bell.inputs
    ∧ soundingAt t z = max (soundingAt s z) job.duration
    ∧ ∀ y, y ≠ z → soundingAt t y = soundingAt s y

/-! ### Marks and arrivals (Chapters 1 and 4) -/

/-- What an EXCUSE request makes of a mark (R9). -/
def excusedMark (m : Mark) : Mark :=
  if m.code = .present ∨ m.code = .late ∨ m.code = .offsite ∨ m.code = .notRequired then m else ⟨.excused, some .excuse⟩

/-- Whether an arrival, judged `j`, of a pupil whose entry was `e` makes a mark request for a session (R76, R77). -/
abbrev arrivalAsks (e : RollEntry) (j : Judged) (x : Session) : Prop :=
  j.session = some x ∧ e.day.onSite ≠ .onSite ∧ j.band ≠ .onTime
    ∧ ((e.day.marks.get x).code = .untaken ∨ (e.day.marks.get x).code = .absent ∨ (e.day.marks.get x).code = .excused)

/-- A session mark after an arrival (R77, R9). -/
def arrivalMark (e : RollEntry) (j : Judged) (x : Session) : Mark :=
  if arrivalAsks e j x then
    if j.band = .late then ⟨.late, some .gate⟩
    else ⟨if (e.day.marks.get x).code = .excused then .excused else .lateAfterClose, some .gate⟩
  else e.day.marks.get x

/-- The day's minutes late after an arrival: its minutes are added where it makes a mark request, held to 240 (R77). -/
def arrivalMinutes (e : RollEntry) (j : Judged) : Nat :=
  if arrivalAsks e j .am ∨ arrivalAsks e j .pm then min 240 (e.day.minutesLate + j.minutes) else e.day.minutesLate

/-- A pupil's record after an arrival: the session marks, the day's minutes late, and the LATE due flag of a session
whose request has left LATE_AFTER_CLOSE (R77). -/
abbrev arrivalRecorded (e e' : RollEntry) (j : Judged) : Prop :=
  (∀ x, e'.day.marks.get x = arrivalMark e j x) ∧ e'.day.minutesLate = arrivalMinutes e j
    ∧ ∀ x, e'.day.flags.dueLate.get x =
        (e.day.flags.dueLate.get x || decide (arrivalAsks e j x ∧ (arrivalMark e j x).code = .lateAfterClose))

/-- What other pupils' records keep when one pupil's marks or on-site state change: everything but the done flags of
notices that leave the queue. -/
abbrev otherPupilsStand (slot : Nat) (s t : State) : Prop :=
  ∀ k, k ≠ slot → (entryAt t k).map (fun y => (y.pupil, y.day.marks, y.day.onSite, y.term))
    = (entryAt s k).map fun y => (y.pupil, y.day.marks, y.day.onSite, y.term)

/-- Today's part of an excuse (R117): where the range covers today, each session named has met an EXCUSE request. -/
abbrev todayExcused (slot d1 d2 : Nat) (n : Sessions) (e : RollEntry) (s t : State) : Prop :=
  ∀ x, markAt t slot x =
    if d1 ≤ s.sched.day ∧ s.sched.day ≤ d2 ∧ e.recordDay = s.sched.day ∧ hasSession n x = true
    then excusedMark (e.day.marks.get x) else e.day.marks.get x

/-! ### Notice walks and withdrawal (Chapter 7) -/

/-- The walk is as it was. -/
abbrev walkStands (s t : State) : Prop :=
  t.msg.walk = s.msg.walk ∧ t.msg.cursor = s.msg.cursor ∧ t.msg.rewalk = s.msg.rewalk
    ∧ t.msg.deferral = s.msg.deferral

/-- A notice walk has been requested once (R128): an IDLE walk runs from the first slot, any other is to run again; a
request while the window is CLOSED or a day is being settled has no effect. -/
abbrev walkRequested (s t : State) : Prop :=
  (s.msg.windowOpen = true ∧ s.roll.rollState = .normal →
    (s.msg.walk = .idle → t.msg.walk = .running ∧ t.msg.cursor = 0 ∧ t.msg.deferral = false
      ∧ t.msg.rewalk = s.msg.rewalk)
    ∧ (s.msg.walk ≠ .idle → t.msg.walk = s.msg.walk ∧ t.msg.cursor = s.msg.cursor ∧ t.msg.rewalk = true
      ∧ t.msg.deferral = s.msg.deferral))
  ∧ (s.msg.windowOpen = false ∨ s.roll.rollState ≠ .normal → walkStands s t)

/-- A notice record with a pupil withdrawn from it; `none` when the record leaves the queue (R132, R23). A QUEUED
record loses the pupil, and its minutes late are taken from those left, as `noticeMinutes` takes them (log 16); a
record with the gateway keeps the pupil, flagged. -/
def withdrawnRecord (s : State) (pupil : Nat) (n : Notice) : Option Notice :=
  if n.state = .queued then
    let rest := n.pupils.filter fun p => p.1 != pupil
    if rest.isEmpty then none else some { n with pupils := rest, minutes := noticeMinutes s { n with pupils := rest } }
  else some { n with
    state := .withdrawnPending, pupils := n.pupils.map fun p => if p.1 = pupil then (p.1, true) else p }

/-- The notice queue after each record has become `f` of it, a record that leaves making `each` reports (R133). -/
abbrev noticesBecome (f : Notice → Option Notice) (each : Nat) (s t : State) : Prop :=
  t.msg.notices = s.msg.notices.filterMap f
    ∧ t.office.reportNumber =
        (s.office.reportNumber + each * s.msg.notices.countP fun n => (f n).isNone) % 65536

/-- What a WITHDRAWN departure clears (Table 4 of Chapter 7): the reason's done flag of every listed pupil that is not
flagged withdrawn. -/
abbrev doneCleared (n : Notice) (s t : State) : Prop :=
  { t.roll with roll := s.roll.roll } = s.roll
  ∧ match dueReasonOf n.reason n.session with
    | none => t.roll = s.roll
    | some r =>
      (∀ p slot e, (p, false) ∈ n.pupils → findPupil s p = some (slot, e) →
        entryAt t slot = some { e with day := { e.day with flags := setDoneFlag r false e.day.flags } })
      ∧ ∀ slot, (∀ p e, (p, false) ∈ n.pupils → findPupil s p ≠ some (slot, e)) → entryAt t slot = entryAt s slot

/-- One QUEUED record is to be offered and no more, under a credit limit (R134, R135): it is the oldest eligible one,
and the limit has room for it alone or no record behind it is eligible. -/
abbrev oneOffer (s : State) (limit : Nat) (pre post : List Notice) (n : Notice) (c : Contact) : Prop :=
  s.msg.notices = pre ++ n :: post ∧ n.state = .queued ∧ n.notBefore ≤ s.sched.second
    ∧ (∀ x ∈ pre, x.state = .queued → s.sched.second < x.notBefore)
    ∧ s.msg.windowOpen = true ∧ s.msg.walk ≠ .running ∧ s.roll.rollState = .normal ∧ inFlight s < limit
    ∧ (limit = inFlight s + 1 ∨ ∀ x ∈ post, x.state = .queued → s.sched.second < x.notBefore)
    ∧ (contactsOf s n.family)[n.position]? = some c

/-- No record is to be offered under a credit limit (R135). -/
abbrev noOffer (s : State) (limit : Nat) : Prop :=
  s.msg.windowOpen = false ∨ s.msg.walk = .running ∨ s.roll.rollState ≠ .normal ∨ limit ≤ inFlight s
    ∨ ∀ x ∈ s.msg.notices, x.state = .queued → s.sched.second < x.notBefore

/-- That record has been offered to its contact, under a credit limit, and its OFFER handed to the gateway port (R135,
R136). -/
abbrev offerMade (limit : Nat) (pre post : List Notice) (n : Notice) (c : Contact) (s t : State) : Prop :=
  let attempt := min 255 (n.attempts + 1)
  let offer : GatewayFrame := .offer
    { number := n.number, attempt := attempt, template := n.template, handle := c.handle, channel := c.channel
      pupils := n.pupils.map Prod.fst, session := n.session, period := n.period, minutes := n.minutes }
  t.msg = { s.msg with
      creditLimit := limit
      notices := pre ++ { n with
        attempts := attempt, state := .offered, timer := s.office.params.outcomeTimeout
        lastOffered := some (n.position, c.handle) } :: post }
    ∧ t.line = (if s.line.gwSending = none then { s.line with gwSending := some offer }
        else { s.line with gwWaiting := s.line.gwWaiting ++ [offer] })
    ∧ t.roll = s.roll ∧ t.sched = s.sched ∧ t.bell = s.bell ∧ t.gate = s.gate ∧ t.reg = s.reg ∧ t.office = s.office
    ∧ inFlight t = inFlight s + 1

/-! ### Ticks (Chapter 2) -/

/-- A gate one tick on: the memory's age rises and stops at 16, and the referral timer falls (R69, R81). -/
def gateTicked (x : Gate) : Gate :=
  { mode := x.mode, memory := x.memory.map fun m => { m with age := min 16 (m.age + 1) }
    referral := x.referral.map fun r => { r with timer := r.timer - 1 } }

/-- A notice record one tick on: with the gateway, its outcome timer falls (R139). -/
def noticeTicked (n : Notice) : Notice := if n.state = .queued then n else { n with timer := n.timer - 1 }

/-- No referral and no notice record waits at a timer of 0. -/
abbrev timersRun (s : State) : Prop :=
  (∀ g, g < 8 → ∀ r, (gateAt s g).referral = some r → r.timer ≠ 0) ∧ ∀ n ∈ s.msg.notices, timedOut n = false

/-- The sounding counts have fallen by one (R54). -/
abbrev soundingsFall (s t : State) : Prop := ∀ z, z < 16 → soundingAt t z = soundingAt s z - 1

/-- Every timer has counted a tick, the relays follow, the schedule is given, and nothing else has changed. -/
abbrev onlyTimersCount (sched : ScheduleUnit) (s t : State) : Prop :=
  soundingsFall s t ∧ (∀ g, g < 8 → gateAt t g = gateTicked (gateAt s g))
    ∧ t.msg.notices = s.msg.notices.map noticeTicked
    ∧ (∀ r, r < 2 → relayAt t r = { relayAt s r with position := relayPosition t (relayAt s r) })
    ∧ { t with
        bell := { t.bell with sounding := s.bell.sounding, relays := s.bell.relays }
        gate := { t.gate with gates := s.gate.gates }
        msg := { t.msg with notices := s.msg.notices } } = { s with sched := sched }

/-! ### Events (Chapter 2) -/

/-- The conditions R32 sets on a plan's events. -/
abbrev planKeeps (es : List Event) : Prop :=
  let once : EventAct → Prop := fun a => (es.countP fun e => e.act = a) ≤ 1
  let before : EventAct → EventAct → Prop := fun a b => ∀ e ∈ es, ∀ f ∈ es, e.act = a → f.act = b → e.time < f.time
  (es.Pairwise fun e f => e.time < f.time)
    ∧ (∀ x, once (.sessionOpen x) ∧ once (.sessionStart x) ∧ once (.sessionClose x)
        ∧ before (.sessionOpen x) (.sessionStart x) ∧ before (.sessionOpen x) (.sessionClose x)
        ∧ before (.sessionStart x) (.sessionClose x))
    ∧ before (.sessionOpen .am) (.sessionOpen .pm)
    ∧ ∀ k, 1 ≤ k → k ≤ 10 →
        once (.periodStart k) ∧ once (.periodEnd k) ∧ before (.periodStart k) (.periodEnd k)

/-- A part of a plan that is not BAD_ARG (R45). -/
abbrev partLegal (plan start : Nat) (es : List Event) (final : Bool) : Prop :=
  plan ≤ 7 ∧ es.length ≤ 16 ∧ (es = [] → final = true ∧ start = 0) ∧ start + es.length ≤ 32
    ∧ ∀ e ∈ es, e.time ≤ 86399 ∧ e.tone ≤ 7 ∧ 1 ≤ e.duration ∧ e.duration ≤ 30
      ∧ ∀ k, e.act = .periodStart k ∨ e.act = .periodEnd k → 1 ≤ k ∧ k ≤ 10

/-- One event lies at the cursor of the active plan and after a time, and no other does, up to another; nothing is
staged (R33 to R35). -/
abbrev oneEvent (s : State) (i : Nat) (e : Event) (since upTo : Nat) : Prop :=
  s.sched.state = .active ∧ s.sched.staged = none ∧ s.sched.cursor = .next i ∧ (activeEvents s)[i]? = some e
    ∧ since < e.time ∧ e.time ≤ upTo ∧ ∀ e', (activeEvents s)[i + 1]? = some e' → upTo < e'.time

/-- No event lies at the cursor of the active plan up to a time, and nothing is staged. -/
abbrev noEvent (s : State) (upTo : Nat) : Prop :=
  s.sched.staged = none ∧ ∀ i e, s.sched.cursor = .next i → (activeEvents s)[i]? = some e → upTo < e.time

/-- A cursor stands at the first of a plan's events after a time, or past the last (R38). -/
abbrev seatedAfter (es : List Event) (time : Nat) (c : Cursor) : Prop :=
  (∃ i e, c = .next i ∧ es[i]? = some e ∧ time < e.time ∧ ∀ j e', j < i → es[j]? = some e' → e'.time ≤ time)
    ∨ (c = .past ∧ ∀ e ∈ es, e.time ≤ time)

/-- The walks an event adds to the walk list: a close walk and a period-end walk (R100, R103). -/
def eventWalks (a : EventAct) (s : State) : List Walk :=
  match a with
  | .sessionClose x => if formState s x = .opened then [⟨.close x (lookupTime s (.sessionStart x)), 0⟩] else []
  | .periodEnd k => if lessonAt s k = .opened then [⟨.periodEnd k, 0⟩] else []
  | .bell => []
  | .sessionOpen _ => []
  | .sessionStart _ => []
  | .periodStart _ => []
  | .gateMode _ _ => []
  | .noticeWindowOpen => []
  | .noticeWindowClose => []

/-- How many REGISTER_NOT_TAKEN alerts a session's close raises: one for each group with pupils expected and no entry
taken (R100). -/
def notTakenGroups (s : State) (x : Session) : Nat :=
  (List.range 128).countP fun g => (formAt s x g).expected != 0 && !(formAt s x g).taken

/-- The side effect of an event (Table 2 of Chapter 2, R33): on form windows (R92, R100), lesson windows (R94), walks,
gate modes (R66) and the notice window (R127). -/
abbrev eventEffect (a : EventAct) (s t : State) : Prop :=
  (∀ x,
    let opens := a = .sessionOpen x ∧ formState s x = .notOpened
    let closes := a = .sessionClose x ∧ formState s x = .opened
    formState t x = (if opens then .opened else if closes then .closed else formState s x)
    ∧ (∀ g, g < 128 → formAt t x g =
        if opens then
          { expected := expectedCount s x g, unmarked := expectedCount s x g, taken := false
            done := expectedCount s x g == 0 }
        else formAt s x g)
    ∧ (∀ k, (entryAt t k).map (fun e => e.day.registerMarked.get x) =
        (entryAt s k).map fun e =>
          if opens ∧ (e.day.marks.get x).code ≠ .notRequired then false else e.day.registerMarked.get x)
    ∧ (closes → t.office.reportNumber = (s.office.reportNumber + notTakenGroups s x) % 65536))
  ∧ ((∀ x, a = .sessionClose x → formState s x ≠ .opened) → t.office.reportNumber = s.office.reportNumber)
  ∧ (∀ k, (entryAt t k).map (fun e => { e with day := { e.day with registerMarked := ⟨false, false⟩ } })
      = (entryAt s k).map fun e => { e with day := { e.day with registerMarked := ⟨false, false⟩ } })
  ∧ (∀ k, lessonAt t k =
      if a = .periodStart k ∧ lessonAt s k = .notOpened then .opened
      else if a = .periodEnd k ∧ lessonAt s k = .opened then .closed else lessonAt s k)
  ∧ t.reg.rooms = s.reg.rooms ∧ t.reg.walks = s.reg.walks ++ eventWalks a s
  ∧ (∀ mask mode, a = .gateMode mask mode → ∀ g, g < 8 →
      (gateAt t g).mode = (if inGates mask g = true then mode else (gateAt s g).mode)
      ∧ (inGates mask g = true → (gateAt s g).mode ≠ mode → (gateAt t g).memory = none))
  ∧ ((∀ mask mode, a ≠ .gateMode mask mode) → ∀ g, g < 8 → (gateAt t g).mode = (gateAt s g).mode)
  ∧ (a = .noticeWindowOpen → t.msg.windowOpen = true
      ∧ walkRequested { s with msg := { s.msg with windowOpen := true } } t)
  ∧ (a = .noticeWindowClose → t.msg.windowOpen = false
      ∧ (s.msg.windowOpen = true ∧ s.msg.walk ≠ .idle → t.msg.walk = .idle ∧ t.msg.cursor = 0 ∧ t.msg.rewalk = false
          ∧ t.msg.deferral = false)
      ∧ (s.msg.windowOpen = false ∨ s.msg.walk = .idle → walkStands s t))
  ∧ (a ≠ .noticeWindowOpen → a ≠ .noticeWindowClose → t.msg.windowOpen = s.msg.windowOpen ∧ walkStands s t)

/-- The time of an act in a plan's events, if they hold it (R36). -/
def timeIn (es : List Event) (a : EventAct) : Option Nat := (es.find? fun e => e.act == a).map (·.time)

/-- Whether an act is missing from a plan's events or lies at or before a time (R38). -/
def behind (es : List Event) (time : Nat) (a : EventAct) : Bool := (timeIn es a).all (· ≤ time)

/-- A swap to a plan of events `es` at a time (R38, R106): the closes without an event of OPEN windows, sessions before
periods, each with its walk, and a session's REGISTER_NOT_TAKEN alerts; the reference start is the new plan's. -/
abbrev swapEffect (es : List Event) (time : Nat) (s t : State) : Prop :=
  let closes := fun x => formState s x = .opened ∧ behind es time (.sessionClose x) = true
  let ends := fun k => lessonAt s k = .opened ∧ behind es time (.periodEnd k) = true
  (∀ x, formState t x = (if closes x then .closed else formState s x) ∧ ∀ g, formAt t x g = formAt s x g)
    ∧ (∀ k, lessonAt t k = if 1 ≤ k ∧ k ≤ 10 ∧ ends k then .closed else lessonAt s k)
    ∧ t.reg.rooms = s.reg.rooms
    ∧ t.reg.walks = s.reg.walks
        ++ ([.am, .pm].filterMap fun x =>
            if closes x then some ⟨.close x (timeIn es (.sessionStart x)), 0⟩ else none)
        ++ ([1, 2, 3, 4, 5, 6, 7, 8, 9, 10].filterMap fun k => if ends k then some ⟨.periodEnd k, 0⟩ else none)
    ∧ reportsMade
        ((if closes .am then notTakenGroups s .am else 0) + if closes .pm then notTakenGroups s .pm else 0) s t

/-! ### Excuses (Chapter 6) -/

/-- The sessions of `m` outside `n`, as a set, if any. -/
def sessionsLeft (m n : Sessions) : Option Sessions :=
  [.am, .pm, .both].find? fun k =>
    [.am, .pm].all fun x => hasSession k x == (hasSession m x && !hasSession n x)

/-- The pieces of a trimmed entry that are present: left, middle, right (Table 3 of Chapter 6). -/
def piecesOf (d1 d2 : Nat) (n : Sessions) (e : Excuse) : List Excuse :=
  (if e.first < d1 then [{ e with last := d1 - 1 }] else [])
    ++ ((sessionsLeft e.sessions n).toList.map fun m =>
        { e with first := max e.first d1, last := min e.last d2, sessions := m })
    ++ if d2 < e.last then [{ e with first := d2 + 1 }] else []

/-- Whether a range visits an entry: the same pupil, a session in common, and days that overlap (R114). -/
def rangeMeets (slot d1 d2 : Nat) (n : Sessions) (e : Excuse) : Bool :=
  e.slot == slot && [Session.am, .pm].any (fun x => hasSession e.sessions x && hasSession n x)
    && decide (e.first ≤ d2) && decide (d1 ≤ e.last)

/-- The list after a trim: an entry's first piece keeps its place, its others join the end, and an entry with no piece
leaves (R115). -/
def trimmedBy (slot d1 d2 : Nat) (n : Sessions) (l : List Excuse) : List Excuse :=
  (l.flatMap fun e => if rangeMeets slot d1 d2 n e = true then (piecesOf d1 d2 n e).take 1 else [e])
    ++ l.flatMap fun e => if rangeMeets slot d1 d2 n e = true then (piecesOf d1 d2 n e).drop 1 else []

/-- Whether an entry merges with a new one: the same pupil, sessions and reason, and days that touch its range (R115).
-/
def rangeTouches (new e : Excuse) : Bool :=
  e.slot == new.slot && e.sessions == new.sessions && e.reason == new.reason
    && (e.last + 1 == new.first || e.first == new.last + 1)

/-- A new entry has been inserted in a list (R114, R115): after the trim it joins the end, or, merged, takes the place
of the earlier of the neighbours it touches, the other leaving. -/
def excuseInserted (new : Excuse) (before after : List Excuse) : Prop :=
  let trimmed := trimmedBy new.slot new.first new.last new.sessions before
  ((∀ e ∈ trimmed, rangeTouches new e = false) → after = trimmed ++ [new])
    ∧ ∀ pre e post, trimmed = pre ++ e :: post → rangeTouches new e = true →
        (∀ y ∈ pre, rangeTouches new y = false) →
        ∃ m : Excuse, after = pre ++ m :: post.filter (fun y => !rangeTouches new y)
          ∧ m = { new with first := m.first, last := m.last } ∧ m.first ≤ new.first ∧ new.last ≤ m.last
          ∧ (∀ y ∈ trimmed, rangeTouches new y = true → m.first ≤ y.first ∧ y.last ≤ m.last)
          ∧ (m.first = new.first ∨ ∃ y ∈ trimmed, rangeTouches new y = true ∧ m.first = y.first)
          ∧ (m.last = new.last ∨ ∃ y ∈ trimmed, rangeTouches new y = true ∧ m.last = y.last)

/-- A changed list has room in the table: the pupil's further entries are at most the free ones (R116). -/
abbrev excuseRoom (slot : Nat) (before after : List Excuse) : Prop :=
  (after.countP fun e => e.slot == slot) ≤ (before.countP fun e => e.slot == slot) + (256 - before.length)

/-! ### Retained restart (R170 to R173) -/

/-- The days for which catch-up passes triggers (R172). -/
def daysMissed (s : State) : List Nat :=
  (List.range (if s.sched.clock = .set then s.sched.day - s.sched.lastDay else 0)).map fun i => s.sched.lastDay + 1 + i

/-- A notice record after a restart: an OFFERED one is QUEUED in its place, and a WITHDRAWN_PENDING one leaves (R145).
That the outcome timer of a QUEUED record holds 0 is the model's choice (log 16). -/
def restartedNotice (n : Notice) : Option Notice :=
  match n.state with
  | .queued => some n
  | .offered => some { n with state := .queued, timer := 0 }
  | .withdrawnPending => none

/-- The REFERRAL_EXPIRED movements of a restart (R89), by gate (the model's order, log 21). -/
def expiredMovements (s : State) : List Movement :=
  (List.range 8).filterMap fun g => (gateAt s g).referral.map fun r =>
    { second := s.sched.second, gate := g, direction := r.direction, pupil := pupilAt s r.slot, kind := .referralExpired
      minutes := none, referral := some r.number }

/-- The records of the roll stand, but for done flags that a notice's departure clears. -/
abbrev rollStands (s t : State) : Prop :=
  t.roll.families = s.roll.families ∧ t.roll.excuses = s.roll.excuses
    ∧ ∀ n, (entryAt t n).map (fun e => { e with day := { e.day with flags := clearedDay.flags } })
      = (entryAt s n).map fun e => { e with day := { e.day with flags := clearedDay.flags } }

/-- The Gate, Register and Message Units after the second stage of a restart (R89, R109, R145). -/
abbrev unitsRestarted (s t : State) : Prop :=
  let listed := s.gate.movements ++ expiredMovements s
  t.reg = { s.reg with walks := match s.reg.walks with
      | [] => []
      | w :: ws => { w with cursor := 0 } :: ws }
    ∧ t.msg.notices = s.msg.notices.filterMap restartedNotice ∧ t.msg.windowOpen = s.msg.windowOpen
    ∧ t.msg.nextNumber = s.msg.nextNumber ∧ t.msg.templates = s.msg.templates
    ∧ (s.msg.walk ≠ .idle → t.msg.walk = .running ∧ t.msg.cursor = 0 ∧ t.msg.rewalk = false ∧ t.msg.deferral = false)
    ∧ (s.msg.walk = .idle → (∀ n ∈ s.msg.notices, n.state ≠ .withdrawnPending) → walkStands s t)
    ∧ (∀ g, (gateAt t g).mode = (gateAt s g).mode) ∧ t.gate.referralCounter = s.gate.referralCounter
    ∧ t.gate.onSiteCount = s.gate.onSiteCount
    ∧ (s.gate.movements.length ≤ 1024 → t.gate.movements = listed.take 1024
        ∧ t.gate.movementsFull = (s.gate.movementsFull || decide (1024 < listed.length))
        ∧ reportsMade ((expiredMovements s).length
            + (s.msg.notices.countP fun n => n.state == .withdrawnPending)
            + if 1024 < listed.length ∧ s.gate.movementsFull = false then 1 else 0) s t)
    ∧ rollStands s t

/-- Catch-up, which begins as the third stage of a restart (R172, R173): one trigger for each day missed; else it
waits for what is outstanding; else it ends, after the silent run of an active plan, here over no event or one. A
day-end notice follows a settlement that starts or is found in progress (R39, R170). -/
abbrev restartsAndCatchesUp (s t : State) : Prop :=
  let days := daysMissed s
  let ends := days = [] ∧ s.sched.outstanding = 0
  let starts := days ≠ [] ∧ s.roll.rollState = .normal ∧ s.roll.heldTriggers = [] ∧ s.reg.walks = []
  let dayEnds := starts ∨ s.roll.rollState ≠ .normal
  let runs := ends ∧ s.sched.state = .active ∧ s.sched.lastSecond < s.sched.second
  let still := runs → noEvent s s.sched.second
  t.office.catchUp = decide (¬ends)
    ∧ (days ≠ [] → t.sched = { s.sched with
        active := none, cursor := .absent, staged := none, state := .ending
        outstanding := s.sched.outstanding + days.length, lastDay := s.sched.day, build := none })
    ∧ (days = [] → s.sched.outstanding ≠ 0 → t.sched = { s.sched with build := none })
    ∧ (ends → still → t.sched = { s.sched with
        lastSecond := s.sched.second, lastDay := s.sched.day, build := none })
    ∧ (starts → t.roll.rollState = .rollover (s.sched.lastDay + 1) ∧ t.roll.cursor = 0
        ∧ t.roll.heldTriggers = days.drop 1)
    ∧ (¬starts → t.roll.rollState = s.roll.rollState ∧ t.roll.cursor = s.roll.cursor
        ∧ t.roll.heldTriggers = s.roll.heldTriggers ++ days)
    ∧ (still → ¬dayEnds → unitsRestarted s t)
    ∧ (still → dayEnds → t.gate.movements = [] ∧ t.gate.movementsFull = false ∧ t.reg.walks = [] ∧ t.reg.rooms = []
        ∧ (∀ x, formState t x = .notOpened) ∧ (∀ k, lessonAt t k = .notOpened) ∧ t.msg.notices = []
        ∧ t.msg.windowOpen = false ∧ t.msg.walk = .idle ∧ t.msg.rewalk = false ∧ t.msg.deferral = false)
    ∧ ∀ i e, runs → s.roll.rollState = .normal → oneEvent s i e s.sched.lastSecond s.sched.second →
        s.office.reportNumber ≤ 65535 →
        ∃ u, unitsRestarted s u ∧ u.sched = { s.sched with build := none } ∧ eventEffect e.act u t
          ∧ t.msg.notices = u.msg.notices ∧ t.gate.movements = u.gate.movements
          ∧ t.sched = { s.sched with
              cursor := cursorAfter (activeEvents s) i, lastSecond := s.sched.second, lastDay := s.sched.day
              build := none }

/-! ### Invariants -/

/-- The figures of a term record lie in their ranges, and A is at most P (R13, R27). -/
abbrev termInRange (t : TermRecord) : Prop :=
  t.a ≤ t.p ∧ t.p ≤ 1023 ∧ t.u ≤ 1023 ∧ t.lateCount ≤ 1023 ∧ t.lateMinutes ≤ 65535

/-- Every term record is in range (R13). -/
abbrev TermsInRange (s : State) : Prop := ∀ x ∈ s.roll.roll, termInRange x.2.term

/-- The roll is in its canonical form, over slots 0 to 3071 (R1). -/
abbrev RollOrdered (s : State) : Prop := tabSorted s.roll.roll ∧ ∀ x ∈ s.roll.roll, x.1 < 3072

/-- The on-site count is the number of pupils on site (R86). -/
abbrev OnSiteCounted (s : State) : Prop :=
  RollOrdered s ∧ s.gate.onSiteCount = s.roll.roll.countP fun x => x.2.day.onSite == .onSite

/-- On main power each relay stands as Table 3 of Chapter 3 gives; without it both are OPEN (R60). -/
abbrev RelaysFollow (s : State) : Prop :=
  ∀ r, r < 2 → (relayAt s r).position = if s.office.powered then relayPosition s (relayAt s r) else .opened

/-- No list outgrows its capacity, the counters stay in their widths (Table 1 of the introduction), and the gateway port
holds no frame, for each is taken at once (R136). -/
abbrev QueuesBounded (s : State) : Prop :=
  s.office.reports.length ≤ 64 ∧ s.office.lost ≤ 65535 ∧ s.office.reportNumber ≤ 65535
    ∧ s.bell.waiting.length ≤ 4 ∧ s.gate.movements.length ≤ 1024 ∧ s.gate.referralCounter ≤ 255
    ∧ s.msg.notices.length ≤ 256 ∧ s.msg.nextNumber ≤ 65535
    ∧ s.line.gwHeld = none ∧ ∀ x ∈ s.line.segments, x.2.queue.length ≤ 16

/-- Every parameter lies in its range (R164). -/
def ParamsInRange (s : State) : Prop :=
  ∀ n g, (paramRange n).1 ≤ paramValue s.office.params n g ∧ paramValue s.office.params n g ≤ (paramRange n).2

/-- How many settlements the Roll Store has in progress or held. -/
def settlementsDue (s : State) : Nat := s.roll.heldTriggers.length + if rollingOver s then 1 else 0

/-- The clock, the schedule state and the settlements outstanding agree (R28, R35, R37, R39, R40, R173): the clock
keeps to its range and stands at 0 while UNSET; the state is UNSET exactly then, ENDING exactly while settlements are
outstanding, and ACTIVE exactly while a plan is active; only an active plan has a cursor or a plan staged. -/
abbrev ScheduleConsistent (s : State) : Prop :=
  s.sched.day ≤ 366 ∧ s.sched.second ≤ 86399
    ∧ (s.sched.clock = .unset → s.sched.day = 0 ∧ s.sched.second = 0)
    ∧ (s.sched.state = .unset ↔ s.sched.clock = .unset)
    ∧ (s.sched.state = .ending ↔ s.sched.outstanding ≠ 0)
    ∧ (s.sched.state = .active ↔ s.sched.active.isSome = true)
    ∧ (s.sched.cursor = .absent ↔ s.sched.active = none)
    ∧ (s.sched.staged.isSome = true → s.sched.state = .active)
    ∧ s.sched.outstanding = settlementsDue s
    ∧ (s.office.catchUp = true → s.sched.outstanding ≠ 0)

/-- The notice queue keeps its order (R125, R134): one record for each family, reason and session, at most four pupils
to a record and none twice, and never more than 8 records with the gateway. -/
abbrev NoticesOrderly (s : State) : Prop :=
  (s.msg.notices.map fun n => (n.family, n.reason, n.session)).Nodup
    ∧ (∀ n ∈ s.msg.notices, n.pupils.length ≤ 4 ∧ (n.pupils.map Prod.fst).Nodup)
    ∧ s.msg.creditLimit ≤ 8 ∧ inFlight s ≤ 8

/-- No two excuses of one pupil cover the same day and session (R110). -/
def excusesApart (a b : Excuse) : Prop :=
  a.slot = b.slot → ∀ d x, ¬(excuseCovers a d x = true ∧ excuseCovers b d x = true)

/-- A list of excuses with ranges that are days of the year, no two of one pupil meeting (R110). -/
def excusesProper (l : List Excuse) : Prop :=
  l.Pairwise excusesApart ∧ ∀ e ∈ l, e.first ≤ e.last ∧ e.last ≤ 365

/-- The excuse table is proper and within its capacity (R110, R116). -/
def ExcusesDisjoint (s : State) : Prop := excusesProper s.roll.excuses ∧ s.roll.excuses.length ≤ 256

/-- The reason under which a list excuses a slot's day and session, if it does. -/
def excusedBy (l : List Excuse) (slot d : Nat) (x : Session) : Option ExcuseReason :=
  (l.find? fun e => e.slot == slot && excuseCovers e d x).map (·.reason)

/-- Every sparse table is in its canonical form, the tables within records too: numbers strictly rising, and no record
equal to what an unlisted number reads as. An unlisted slot, family or day has no record to be equal to. -/
abbrev TablesSorted (s : State) : Prop :=
  tabWf coldStation s.line.stations ∧ tabWf coldSegment s.line.segments ∧ tabWf clearedErrors s.line.errors
    ∧ tabSorted s.roll.roll ∧ (∀ x ∈ s.roll.roll, tabWf .unset x.2.day.lessons) ∧ tabSorted s.roll.families
    ∧ tabSorted s.sched.calendar ∧ tabWf [] s.sched.plans
    ∧ tabWf coldZone s.bell.zones ∧ tabWf 0 s.bell.sounding ∧ tabWf coldInput s.bell.inputs
    ∧ tabWf coldRelay s.bell.relays ∧ tabWf coldGate s.gate.gates
    ∧ tabWf coldForm s.reg.form.am.groups ∧ tabWf coldForm s.reg.form.pm.groups ∧ tabWf .notOpened s.reg.lessons
    ∧ tabWf [] s.reg.rooms ∧ (∀ x ∈ s.reg.rooms, tabWf 0 x.2) ∧ tabWf defaultGrace s.office.params.grace

/-- How many pupils of a group are expected in a session and not yet marked by a register (R91, R93). -/
def unmarkedPupils (s : State) (x : Session) (g : Nat) : Nat :=
  s.roll.roll.countP fun p => p.2.form == g && expectedIn p.2 x && !p.2.day.registerMarked.get x

/-- While a session's form windows are OPEN, each counts its expected pupils and those still to be marked (R91, R93);
and none is OPEN while a day is being settled (R39, R40). -/
def RegistersCounted (s : State) : Prop :=
  (∀ x, formState s x = .opened → ∀ g, g < 128 →
      (formAt s x g).expected = expectedCount s x g ∧ (formAt s x g).unmarked = unmarkedPupils s x g)
    ∧ (rollingOver s = true → ∀ x, formState s x = .notOpened)

end Sys2Proof.Machine
end

