-- ==== Sys2Proof/Certificates/Slice0/Obligations.lean ====
section
/-! DEFINITION. The statements about the model, for the provers. Log numbers are those of notes/assumptions. -/

open Sys2Proof Sys2Proof.Machine

/-! ### The block as a whole -/

/-- A step runs the command at the front of the queue on the state with the queue's rest; with none waiting the block
idles (the model's choice, log 1). -/
def Obligations.StepRunsTheFrontCommand : Prop :=
  (∀ (c : Instr) (rest : List Instr) (s : State), s.pending = c :: rest → step s = exec c (s.withPending rest))
    ∧ ∀ s : State, s.pending = [] → step s = .next s

/-- After reset everything holds its cold start value (R169), and every invariant of the part holds. That the
retention-valid flag is set, main power present and the backup supply good, a zone record's day, second and origin, and
an input's level, are the model's choices (log 9), as are its own two fields. -/
def Obligations.ResetIsAColdStart : Prop :=
  let s := State.reset
  ((∀ n, entryAt s n = none) ∧ (∀ f, tabFind s.roll.families f = none) ∧ s.roll.excuses = []
    ∧ s.roll.rollState = .normal ∧ s.roll.cursor = 0 ∧ s.roll.heldTriggers = [])
  ∧ (s.sched.clock = .unset ∧ s.sched.day = 0 ∧ s.sched.second = 0 ∧ (∀ d, calendarEntry s d = .closed)
    ∧ (∀ p, planAt s p = []) ∧ s.sched.active = none ∧ s.sched.staged = none ∧ s.sched.cursor = .absent
    ∧ s.sched.lastSecond = 0 ∧ s.sched.lastDay = 0 ∧ s.sched.state = .unset ∧ s.sched.outstanding = 0
    ∧ s.sched.build = none)
  ∧ (s.bell.current = none ∧ s.bell.waiting = []
    ∧ (∀ z, zoneAt s z = { outcome := .none, day := 0, second := 0, origin := none, sent := 0, acked := 0 })
    ∧ (∀ z, soundingAt s z = 0)
    ∧ (∀ i, inputAt s i =
        { config := { sense := .falling, debounce := 10, function := .unused, zones := 0, tone := 0, duration := 5
                      override := false }
          level := .high, taken := false, live := false })
    ∧ ∀ r, relayAt s r = { zone := 0, override := .auto, position := .opened })
  ∧ ((∀ g, gateAt s g = { mode := .free, memory := none, referral := none }) ∧ (∀ g, gateStateAt s g = .offline)
    ∧ s.gate.referralCounter = 0 ∧ s.gate.movements = [] ∧ s.gate.movementsFull = false ∧ s.gate.onSiteCount = 0)
  ∧ ((∀ x, formState s x = .notOpened)
    ∧ (∀ x g, formAt s x g = { expected := 0, unmarked := 0, taken := false, done := false })
    ∧ (∀ k, lessonAt s k = .notOpened) ∧ (∀ k n, roomAt s k n = 0) ∧ s.reg.walks = [])
  ∧ s.msg = { notices := [], nextNumber := 0, templates := ⟨0, 0, 0, 0⟩, windowOpen := false, walk := .idle
              cursor := 0, rewalk := false, deferral := false, creditLimit := 0 }
  ∧ ((∀ n, stationAt s n =
        { address := 0x10, mask := 0xFF, segment := 0, kind := .terminal, unit := 0, enabled := false
          presence := .present, misses := 0 })
    ∧ (∀ n, segmentAt s n =
        { poll := [], cursor := 0, cycle := 0, queue := [], outside := [], sending := none, exchange := none })
    ∧ (∀ p, errorsAt s p =
        { parity := 0, framing := 0, noise := 0, check := 0, overrun := 0, stranger := 0, capture := none
          alerted := false })
    ∧ s.line.upHeld = none ∧ s.line.upSending = none ∧ s.line.gwHeld = none ∧ s.line.gwSending = none
    ∧ s.line.gwWaiting = [])
  ∧ s.office =
      { agent := .idle, reply := none, reports := [], reportNumber := 0, lost := 0
        params := { grace := [], dupWindow := 5, referralTimeout := 60, outcomeTimeout := 180, retryGap := 600
                    threshold := 900, hysteresis := 10, pmin := 20, portThreshold := 16 }
        retentionValid := true, backupLow := false, powered := true, catchUp := false }
  ∧ (∀ g, graceAt s g = 60) ∧ s.choices = 0 ∧ s.pending = []
  ∧ TermsInRange s ∧ OnSiteCounted s ∧ RelaysFollow s ∧ QueuesBounded s ∧ ParamsInRange s ∧ ScheduleConsistent s
  ∧ NoticesOrderly s ∧ ExcusesDisjoint s ∧ TablesSorted s ∧ RollOrdered s ∧ RegistersCounted s

/-- Every command completes in every state, and leaves the queue of waiting commands to the step. -/
def Obligations.EveryCommandCompletesAndKeepsTheQueue : Prop :=
  ∀ (c : Instr) (s : State), ∃ t, exec c s = .next t ∧ t.pending = s.pending

/-- Without main power no command but a tick, a finding of the battery monitor and the return of power changes
anything (R168). -/
def Obligations.WithoutPowerCommandsDoNothing : Prop :=
  ∀ (c : Instr) (s : State), s.office.powered = false → c ≠ .secondsTick → c ≠ .powerUp → (∀ b, c ≠ .backupLow b) →
    exec c s = .next s

/-- Every request that an idle agent takes is answered, with the request's tag and kind; one that is not carried out
changes nothing (R160). -/
def Obligations.RefusedRequestChangesNothing : Prop :=
  ∀ (h : UpHeader) (r : Request) (s : State), takesRequests s →
    ∃ t st d, exec (commandOf h r) s = .next t ∧ answered h r st d t
      ∧ (st ≠ .ok → d = .none ∧ t = withReply h r st .none s)

/-- While roll writers are held off, by a rollover or by restart catch-up, each request that writes the roll is
answered BUSY, whatever its values, and changes nothing (R20, R167). -/
def Obligations.RollWritersAreHeldOff : Prop :=
  ∀ (h : UpHeader) (r : Request) (s : State), takesRequests s → writersHeld s = true → countsOk r = true →
    (∃ a, r = .loadRoll a) ∨ (∃ p, r = .dropRoll p) ∨ (∃ f b cs, r = .loadFamily f b cs)
      ∨ (∃ p x c, r = .setMark p x c) ∨ (∃ a, r = .adjustCounts a) ∨ (∃ g n d, r = .answerReferral g n d)
      ∨ (∃ a, r = .addExcuse a) ∨ (∃ p i j, r = .removeExcuse p i j) ∨ (∃ f k ps, r = .sendNotice f k ps) →
    exec (commandOf h r) s = .next (withReply h r .busy .none s)

/-! ### Bytes (R174 to R176) -/

/-- Every request whose values fit their fields is read back whole from the bytes of its payload. -/
def Obligations.RequestBytesReadBack : Prop :=
  ∀ r : Request, Request.wf r = true → decodeRequest (encodeRequest r) = some r

/-- A REQUEST frame taken in bytes does what the same request does in fields; and a received frame is the command of its
bytes (R146, R174). The bits of a byte read back, with odd parity; a wrong parity, a stop bit at space and samples that
disagree are found. A whole frame with a good check is good, or discarded when it is addressed elsewhere; a wrong check,
a length above 240, a break before the end and a faulty byte make it invalid, with its header as far as received, and
what follows up to the next break is discarded. That State holds no frame in assembly, and that the byte in which a
fault is found does not count as received in the header, are the model's choices (log 23). -/
def Obligations.BytesAndFieldsAgree : Prop :=
  (∀ (h : UpHeader) (r : Request) (s : State), takesRequests s → Request.wf r = true →
    exec (.unknownRequest h 0x0F (encodeRequest r)) s = exec (commandOf h r) s
    ∧ ∃ c, commandOfFrame .uplink (.good h.src 0x0F h.tag (encodeRequest r)) = some c
        ∧ exec c s = exec (commandOf h r) s)
  ∧ (∀ (seg : Nat) (src tag : Byte) (payload : List Byte),
      commandOfFrame (.field seg) (.good src 0x06 tag payload) = some (.tap seg src payload)
      ∧ commandOfFrame (.field seg) (.good src 0x07 tag payload) = some (.register seg src payload)
      ∧ commandOfFrame (.field seg) (.good src 0x08 tag []) = some (.bellAck seg src)
      ∧ commandOfFrame (.field seg) (.good src 0x09 tag []) = some (.nothing seg src)
      ∧ commandOfFrame .gateway (.good src 0x0C tag payload) = some (.ready src payload)
      ∧ commandOfFrame .gateway (.good src 0x0D tag payload) = some (.outcome src payload)
      ∧ commandOfFrame .gateway (.good src 0x0E tag payload) = some (.parentReport src payload)
      ∧ ∀ p f h, commandOfFrame p (.invalid f h) = some (.invalidFrame p f h) ∧ commandOfFrame p .elsewhere = none)
  ∧ (∀ (b : Byte) (c : LineByte),
      (lineBits b).length = 11 ∧ (lineBits b)[0]? = some false ∧ (lineBits b)[10]? = some true
      ∧ (∀ i, i < 8 → (lineBits b)[i + 1]? = some (b.getLsbD i))
      ∧ (((lineBits b).drop 1).take 9).count true % 2 = 1
      ∧ readByte (cleanByte b) = .inl b
      ∧ (∀ p stop, readByte { cleanByte b with parity := cleanSample p, stop := cleanSample stop } =
          if p ≠ parityBit b then .inr .parity else if stop then .inl b else .inr .framing)
      ∧ (c.start.level = none ∨ (∃ x ∈ c.data.toList, x.level = none) ∨ c.parity.level = none →
          readByte c = .inr .noise)
      ∧ ∀ x : Sample, (x.level = none ↔ ¬(x.first = x.second ∧ x.second = x.third)))
  ∧ ∀ (dest src kind tag : Byte) (payload : List Byte) (extra : List LineByte), payload.length ≤ 240 →
      let body := uncheckedBytes dest src kind tag payload
      let whole := withCheck body
      let header : FrameHeader :=
        { dest := some dest, src := some src, kind := some kind, length := some payload.length }
      (hearAll .waiting (cleanFrame whole ++ extra.map .byte) =
        [if dest = 0x01 then .good src kind tag payload else .elsewhere])
      ∧ (∀ hi lo, body ++ [hi, lo] ≠ whole →
          hearAll .waiting (cleanFrame (body ++ [hi, lo]) ++ extra.map .byte) = [.invalid .check header])
      ∧ (∀ length : Byte, 240 < length.toNat →
          hearAll .waiting (cleanFrame [dest, src, kind, tag, length] ++ extra.map .byte) =
            [.invalid .length { header with length := some length.toNat }])
      ∧ (∀ k, k < whole.length →
          hearAll .waiting (cleanFrame (whole.take k) ++ [.brk]) = [.invalid .short (headerOf (whole.take k))])
      ∧ ∀ k c f, k < whole.length → readByte c = .inr f →
          hearAll .waiting (cleanFrame (whole.take k) ++ .byte c :: extra.map .byte) =
            [.invalid f (headerOf (whole.take k))]

/-- The check of the nine characters "1" to "9"; a frame with its check high byte first; and the bits of the frame a
port is sending: the break, 13 bit-times at space and 2 at mark, and then the bits of the frame's bytes in order
(R174). -/
def Obligations.CheckOfNineCharacters : Prop :=
  crc [0x31, 0x32, 0x33, 0x34, 0x35, 0x36, 0x37, 0x38, 0x39] = 0x29B1
    ∧ (∀ (dest kind tag : Byte) (payload : List Byte),
        frameBytes dest kind tag payload =
          uncheckedBytes dest 0x01 kind tag payload
            ++ [((crc (uncheckedBytes dest 0x01 kind tag payload)) >>> 8).setWidth 8,
                (crc (uncheckedBytes dest 0x01 kind tag payload)).setWidth 8])
    ∧ ∀ (s : State) (p : Port),
        (lineBytes s p = none → sentBits s p = none)
        ∧ ∀ bs, lineBytes s p = some bs → ∃ bits, sentBits s p = some bits
            ∧ bits.take 15 =
                [false, false, false, false, false, false, false, false, false, false, false, false, false, true, true]
            ∧ bits.length = 15 + 11 * bs.length
            ∧ ∀ i b, bs[i]? = some b → (bits.drop (15 + 11 * i)).take 11 = lineBits b

/-! ### Invariants -/

/-- Every step keeps the figures of every term record in range, with A at most P (R13). -/
def Obligations.StepKeepsTermFigures : Prop :=
  ∀ s t : State, TermsInRange s → step s = .next t → TermsInRange t

/-- Every step keeps the on-site count equal to the number of pupils on site (R86). -/
def Obligations.StepKeepsOnSiteCount : Prop :=
  ∀ s t : State, OnSiteCounted s → step s = .next t → OnSiteCounted t

/-- Every step keeps both relays at the positions of Table 3 of Chapter 3, OPEN without main power (R60). -/
def Obligations.StepKeepsRelays : Prop :=
  ∀ s t : State, RelaysFollow s → step s = .next t → RelaysFollow t

/-- Every step keeps every queue within its capacity, every counter within its width and every parameter within its
range (R50, R83, R125, R152, R162 to R164), and leaves no frame in the gateway port (R136; a frame of another kind
too, log 12). -/
def Obligations.StepKeepsCapacitiesAndRanges : Prop :=
  ∀ s t : State, step s = .next t →
    (QueuesBounded s → QueuesBounded t) ∧ (ParamsInRange s → ParamsInRange t)

/-- Every step keeps the clock, the schedule state and the settlements outstanding in agreement (R28, R35, R39, R40). -/
def Obligations.StepKeepsSchedule : Prop :=
  ∀ s t : State, ScheduleConsistent s → step s = .next t → ScheduleConsistent t

/-- Every step keeps one notice record for each family, reason and session, and at most 8 with the gateway (R125,
R134). -/
def Obligations.StepKeepsNotices : Prop :=
  ∀ s t : State, NoticesOrderly s → step s = .next t → NoticesOrderly t

/-- Every step keeps the excuses of each pupil apart, within the year and within the table (R110, R116). -/
def Obligations.StepKeepsExcuses : Prop :=
  ∀ s t : State, ExcusesDisjoint s → step s = .next t → ExcusesDisjoint t

/-- Every step keeps every table in its canonical form, those within records too: numbers strictly rising, and no record
equal to the default of its table. The form is the model's own. -/
def Obligations.StepKeepsTables : Prop :=
  ∀ s t : State, TablesSorted s ∧ RollOrdered s → step s = .next t → TablesSorted t ∧ RollOrdered t

/-- Every step keeps the counts of OPEN form windows true of the roll (R91, R93). -/
def Obligations.StepKeepsRegisters : Prop :=
  ∀ s t : State, RegistersCounted s → ScheduleConsistent s → RollOrdered s → step s = .next t → RegistersCounted t

/-! ### Tables of rules -/

/-- The merge table (R9): OFFICE_SET writes its code over anything; NOT_REQUIRED and OFFSITE stand against every other
request; a table entry that names a code is written with the request's source, and "unchanged" leaves code and
source; and a REG_ABSENT that meets a PRESENT or LATE mark of another source than REGISTER queues its alert. -/
def Obligations.MergeTableDecides : Prop :=
  (∀ x m, mergeCode (.officeSet x) m = some x)
  ∧ (∀ k m, (∀ x, k ≠ .officeSet x) → m.code = .offsite ∨ m.code = .notRequired → mergeCode k m = none)
  ∧ (∀ k src, (∀ x, k ≠ .officeSet x) → k ≠ .excuse → mergeCode k ⟨.lateAfterClose, src⟩ = none)
  ∧ (∀ src, mergeCode .excuse ⟨.lateAfterClose, src⟩ = some .excused)
  ∧ (∀ v m, mergeCode (.close v) m = if m.code = .untaken then some v else none)
  ∧ (∀ c src, c = .untaken ∨ c = .present ∨ c = .late ∨ c = .absent ∨ c = .excused →
      mergeCode .regPresent ⟨c, src⟩ = some (if c = .late then .late else .present)
      ∧ mergeCode .regLate ⟨c, src⟩ = some .late
      ∧ mergeCode .gateLate ⟨c, src⟩ = some (if c = .present then .present else .late)
      ∧ mergeCode .gateLateClosed ⟨c, src⟩ =
          some (if c = .untaken ∨ c = .absent then .lateAfterClose else c)
      ∧ mergeCode .excuse ⟨c, src⟩ = (if c = .present ∨ c = .late then none else some .excused)
      ∧ mergeCode .regAbsent ⟨c, src⟩ =
          (if c = .excused then some .excused
           else if c = .untaken ∨ c = .absent ∨ src = some .register then some .absent else none))
  ∧ ([.regPresent, .regLate, .regAbsent] : List MarkRequest).map requestSource = [.register, .register, .register]
  ∧ ([.gateLate, .gateLateClosed, .excuse] : List MarkRequest).map requestSource = [.gate, .gate, .excuse]
  ∧ (∀ v x, requestSource (.close v) = .close ∧ requestSource (.officeSet x) = .office)
  ∧ (∀ (s : State) (slot : Nat) (x : Session) (k : MarkRequest) (e : RollEntry), entryAt s slot = some e →
      markAt (requestMark slot x k s) slot x =
        match mergeCode k (e.day.marks.get x) with
        | some c => ⟨c, some (requestSource k)⟩
        | none => e.day.marks.get x)
  ∧ ∀ (s : State) (slot : Nat) (x : Session) (e : RollEntry), entryAt s slot = some e →
      let m := e.day.marks.get x
      m.code = .present ∨ m.code = .late → m.source ≠ some .register →
      s.line.upSending.isSome = true → s.office.reports.length < 64 →
      requestMark slot x .regAbsent s = { s with office := { s.office with
        reportNumber := (s.office.reportNumber + 1) % 65536
        reports := s.office.reports ++ [⟨s.office.reportNumber, s.sched.day, s.sched.second,
          .alert (.missingOnSite e.pupil x m.code m.source)⟩] } }

/-- The session of a tap (R73): the one whose SESSION_OPEN in the active plan is the latest at or before the tap, or,
for an early arrival, the one whose SESSION_OPEN is the earliest, or none. The band of a tap in a session that is not
an early arrival (R74), where S and C are the times of the session's start and close in the active plan and g the
grace of the gate; and its minutes late (R75), any part of a minute whole, from 1 to 240 in a late band, and none for
an ON_TIME tap. -/
def Obligations.BandAndMinutesOfATap : Prop :=
  ∀ (s : State) (gate T : Nat) (x : Session),
    let g := graceAt s gate
    let judged := judgeArrival s gate T
    (∀ o, lookupTime s (.sessionOpen x) = some o →
      (o ≤ T → (∀ y p, lookupTime s (.sessionOpen y) = some p → y = x ∨ p < o ∨ T < p) →
        tapSession s T = some (x, false) ∧ judged.session = some x)
      ∧ ((∀ y p, lookupTime s (.sessionOpen y) = some p → T < p ∧ (y = x ∨ o < p)) →
        tapSession s T = some (x, true) ∧ judged = ⟨some x, .onTime, 0⟩))
    ∧ ((∀ y, lookupTime s (.sessionOpen y) = none) → tapSession s T = none ∧ judged = ⟨none, .onTime, 0⟩)
    ∧ (tapSession s T = some (x, false) →
      (lookupTime s (.sessionStart x) = none → judged.band = .onTime)
      ∧ ∀ S, lookupTime s (.sessionStart x) = some S →
          (T ≤ S + g → judged.band = .onTime)
          ∧ (S + g < T → lookupTime s (.sessionClose x) = none → judged.band = .late)
          ∧ ∀ C, lookupTime s (.sessionClose x) = some C →
              (S + g < T → T ≤ C + g → judged.band = .late)
              ∧ (S + g < T → C + g < T → judged.band = .lateAfterClose)
              ∧ (S < C → C + g < T → judged.band = .lateAfterClose))
    ∧ (judged.session = some x →
      (judged.band = .onTime → judged.minutes = 0)
      ∧ (judged.band ≠ .onTime → ∃ S, lookupTime s (.sessionStart x) = some S ∧ 1 ≤ T - S - g
          ∧ judged.minutes = min 240 (⌈((T - S - g : ℕ) : ℚ) / 60⌉.toNat) ∧ 1 ≤ judged.minutes))
    ∧ ∀ m, movementMinutes .arrivalOnTime m = none

/-- What settlement counts of a day (R16, R17): each session mark in P, A and U, the day's lateness once and its
minutes, every figure held at the top of its range, and no session counted in P and A once P is at 1023: with P at
1022 one more is, AM before PM. -/
def Obligations.SettlementCounts : Prop :=
  ∀ e : RollEntry, termInRange e.term →
    let am := e.day.marks.am.code
    let pm := e.day.marks.pm.code
    let late : MarkCode → Prop := fun c => c = .late ∨ c = .lateAfterClose
    termInRange (settledCounts e)
    ∧ (settledCounts e).p = min 1023 (e.term.p + (if countsInP am then 1 else 0) + if countsInP pm then 1 else 0)
    ∧ (e.term.p + 2 ≤ 1023 → (settledCounts e).a =
        e.term.a + (if countsInA am then 1 else 0) + if countsInA pm then 1 else 0)
    ∧ (e.term.p = 1022 → (settledCounts e).a = e.term.a +
        if countsInP am then (if countsInA am then 1 else 0) else if countsInA pm then 1 else 0)
    ∧ (e.term.p = 1023 → (settledCounts e).a = e.term.a)
    ∧ (settledCounts e).u = min 1023 (e.term.u + (if countsInU am then 1 else 0) + if countsInU pm then 1 else 0)
    ∧ (late am ∨ late pm → (settledCounts e).lateCount = min 1023 (e.term.lateCount + 1))
    ∧ (¬late am → ¬late pm → (settledCounts e).lateCount = e.term.lateCount)
    ∧ (settledCounts e).lateMinutes = min 65535 (e.term.lateMinutes + e.day.minutesLate)

/-! ### Requests that read -/

/-- READ_ROLL by pupil number or by slot, READ_FAMILY, and the attendance figure an entry comes with (R14, R22, R25);
READ_PLAN by plan and by calendar, and READ_CLOCK (R47, R48). A read changes nothing but the reply. -/
def Obligations.RollAndScheduleReadsAnswer : Prop :=
  (∀ (h : UpHeader) (s : State), takesRequests s →
      let data := fun (slot : Nat) (e : RollEntry) => ReplyData.rollEntry slot e
        ⟨absenceDue s e .am, absenceDue s e .pm⟩ (attendance e.term)
        (((nextFilledSlot s (slot + 1)).map Prod.fst).getD 3072)
      (∀ n slot e, findPupil s n = some (slot, e) →
        exec (.readRoll h (.pupil n)) s = .next (withReply h (.readRoll (.pupil n)) .ok (data slot e) s))
      ∧ (∀ n, findPupil s n = none →
        exec (.readRoll h (.pupil n)) s = .next (withReply h (.readRoll (.pupil n)) .notFound .none s))
      ∧ (∀ n slot e, n ≤ 3071 → nextFilledSlot s n = some (slot, e) →
        exec (.readRoll h (.slot n)) s = .next (withReply h (.readRoll (.slot n)) .ok (data slot e) s))
      ∧ (∀ n, n ≤ 3071 → nextFilledSlot s n = none →
        exec (.readRoll h (.slot n)) s = .next (withReply h (.readRoll (.slot n)) .notFound .none s))
      ∧ (∀ n, 3071 < n → exec (.readRoll h (.slot n)) s = .next (withReply h (.readRoll (.slot n)) .badArg .none s))
      ∧ (∀ n f, n ≤ 2047 → tabFind s.roll.families n = some f →
        exec (.readFamily h n) s = .next (withReply h (.readFamily n) .ok (.family f) s))
      ∧ (∀ n, n ≤ 2047 → tabFind s.roll.families n = none →
        exec (.readFamily h n) s = .next (withReply h (.readFamily n) .notFound .none s))
      ∧ (∀ n, 2047 < n → exec (.readFamily h n) s = .next (withReply h (.readFamily n) .badArg .none s))
      ∧ ∀ t : TermRecord, (t.p = 0 → attendance t = 1000)
          ∧ (0 < t.p → t.a ≤ t.p → attendance t ≤ 1000
              ∧ attendance t * t.p ≤ 1000 * t.a ∧ 1000 * t.a < (attendance t + 1) * t.p))
  ∧ (∀ (h : UpHeader) (s : State), takesRequests s →
      (∀ p start, exec (.readPlanPlan h p start) s = .next (
        if p ≤ 7 ∧ start ≤ (planAt s p).length then
          withReply h (.readPlanPlan p start) .ok
            (.planEvents (planAt s p).length (((planAt s p).drop start).take 16)) s
        else withReply h (.readPlanPlan p start) .badArg .none s))
      ∧ (∀ first count, exec (.readPlanCalendar h first count) s = .next (
        if 1 ≤ count ∧ count ≤ 200 ∧ first + count ≤ 366 then
          withReply h (.readPlanCalendar first count) .ok
            (.calendar ((List.range count).map fun i => calendarEntry s (first + i))) s
        else withReply h (.readPlanCalendar first count) .badArg .none s))
      ∧ exec (.readClock h) s = .next (withReply h .readClock .ok
          (.schedule
            { clock := s.sched.clock, state := s.sched.state, active := s.sched.active, staged := s.sched.staged
              time := if s.sched.clock = .set then some (s.sched.day, s.sched.second) else none
              cursor := s.sched.cursor
              next := match s.sched.cursor with
                | .next i => (activeEvents s)[i]?
                | .absent => none
                | .past => none
              lastSecond := s.sched.lastSecond, lastDay := s.sched.lastDay
              today := calendarEntry s s.sched.day, outstanding := s.sched.outstanding }) s))

/-- READ_MOVEMENTS, READ_GATES and READ_WINDOWS (R85, R87, R107); READ_EXCUSES, READ_NOTICES and READ_PARAMS (R122,
R142, R166). A read changes nothing but the reply. -/
def Obligations.GateWindowAndListReadsAnswer : Prop :=
  (∀ (h : UpHeader) (s : State), takesRequests s →
      (∀ start count, exec (.readMovements h start count) s = .next (
        if start ≤ 1023 ∧ count ≠ 0 then
          withReply h (.readMovements start count) .ok
            (.movements s.sched.day s.gate.movements.length s.gate.movementsFull
              ((((List.range s.gate.movements.length).zip s.gate.movements).drop start).take (min count 12))) s
        else withReply h (.readMovements start count) .badArg .none s))
      ∧ exec (.readGates h) s = .next (withReply h .readGates .ok
          (.gates ((List.range 8).map fun g =>
              { mode := (gateAt s g).mode, outOfService := outOfService s g, grace := graceAt s g
                state := if (gateAt s g).referral.isSome then .holding
                  else if outOfService s g then .offline else .ready
                memory := (gateAt s g).memory
                referral := (gateAt s g).referral.map fun r => (r, pupilAt s r.slot) })
            s.gate.referralCounter s.gate.onSiteCount s.gate.movements.length s.gate.movementsFull) s)
      ∧ ∀ x first count, exec (.readWindows h x first count) s = .next (
        if 1 ≤ count ∧ count ≤ 32 ∧ first + count ≤ 128 then
          withReply h (.readWindows x first count) .ok
            (.windows ((List.range count).map fun i => (first + i, formState s x, formAt s x (first + i)))
              ((List.range 10).map fun i => lessonAt s (i + 1)) s.reg.walks) s
        else withReply h (.readWindows x first count) .badArg .none s))
  ∧ (∀ (h : UpHeader) (s : State), takesRequests s →
      let reply := fun (l : List Excuse) (start count : Nat) =>
        ReplyData.excuses l.length (256 - s.roll.excuses.length) s.sched.day
          (((l.drop start).take (min count 12)).map fun e => (pupilAt s e.slot, e))
      let view := fun (l : List Notice) (start count : Nat) => ReplyData.notices
        { windowOpen := s.msg.windowOpen, walk := s.msg.walk, cursor := s.msg.cursor, rewalk := s.msg.rewalk
          deferral := s.msg.deferral, creditLimit := s.msg.creditLimit
          inFlight := (s.msg.notices.filter fun n => n.state != .queued).length
          count := s.msg.notices.length, nextNumber := s.msg.nextNumber, templates := s.msg.templates
          selected := l.length, records := (l.drop start).take (min count 6) }
      (∀ start count, exec (.readExcuses h .all start count) s = .next (
        if count ≠ 0 ∧ start ≤ 255 then
          withReply h (.readExcuses .all start count) .ok (reply s.roll.excuses start count) s
        else withReply h (.readExcuses .all start count) .badArg .none s))
      ∧ (∀ n start count, exec (.readExcuses h (.pupil n) start count) s = .next (
        if count ≠ 0 ∧ start ≤ 255 ∧ 1 ≤ n ∧ n ≤ 65000 then
          match findPupil s n with
          | some (slot, _) => withReply h (.readExcuses (.pupil n) start count) .ok
              (reply (s.roll.excuses.filter fun e => e.slot == slot) start count) s
          | none => withReply h (.readExcuses (.pupil n) start count) .notFound .none s
        else withReply h (.readExcuses (.pupil n) start count) .badArg .none s))
      ∧ (∀ start count, exec (.readNotices h .all start count) s = .next (
        if count ≠ 0 ∧ start ≤ 255 then
          withReply h (.readNotices .all start count) .ok (view s.msg.notices start count) s
        else withReply h (.readNotices .all start count) .badArg .none s))
      ∧ (∀ f start count, exec (.readNotices h (.family f) start count) s = .next (
        if count ≠ 0 ∧ start ≤ 255 ∧ f ≤ 2047 then
          withReply h (.readNotices (.family f) start count) .ok
            (view (s.msg.notices.filter fun n => n.family == f) start count) s
        else withReply h (.readNotices (.family f) start count) .badArg .none s))
      ∧ (∀ k start count, exec (.readNotices h (.number k) start count) s = .next (
        if count ≠ 0 ∧ start ≤ 255 then
          withReply h (.readNotices (.number k) start count) .ok
            (view (s.msg.notices.filter fun n => n.number == k) start count) s
        else withReply h (.readNotices (.number k) start count) .badArg .none s))
      ∧ exec (.readParams h) s = .next (withReply h .readParams .ok (.params s.office.params []) s))

/-- READ_PORTS by its three selectors: PORTS returns every error record, then empties every capture and alert flag,
and with the clear option every count and the lost-report count too (R147, R157, R163). -/
def Obligations.PortReadsAnswer : Prop :=
  ∀ (h : UpHeader) (s : State), takesRequests s →
    (∀ clear, ∃ t d, exec (.readPortsPorts h clear) s = .next t ∧ answered h (.readPortsPorts clear) .ok d t
      ∧ d = .ports (allPorts.map fun p => (p, errorsAt s p)) ((List.range 4).map (segmentView s)) s.office.lost
      ∧ (∀ p ∈ allPorts, errorsAt t p =
          if clear then clearedErrors else { errorsAt s p with capture := none, alerted := false })
      ∧ t.office.lost = (if clear then 0 else s.office.lost)
      ∧ { t with line := { t.line with errors := s.line.errors }, office := { t.office with lost := s.office.lost } }
          = withReply h (.readPortsPorts clear) .ok d s)
    ∧ (∀ first count, exec (.readPortsStations h first count) s = .next (
      if first ≤ 47 ∧ count ≠ 0 then
        withReply h (.readPortsStations first count) .ok
          (.stations ((List.range (min (min count 12) (48 - first))).map fun i => stationAt s (first + i))) s
      else withReply h (.readPortsStations first count) .badArg .none s))
    ∧ ∀ seg, exec (.readPortsPollList h seg) s = .next (
      if seg ≤ 3 then
        withReply h (.readPortsPollList seg) .ok
          (.pollList (segmentAt s seg).poll (segmentAt s seg).cursor (segmentAt s seg).cycle) s
      else withReply h (.readPortsPollList seg) .badArg .none s)

/-! ### Requests that write the roll -/

/-- LOAD_ROLL (R21): a new pupil takes the lowest empty slot with a cleared day and a new term record; a pupil already
on the roll takes the new identity fields and keeps the rest; and each refusal changes nothing. -/
def Obligations.LoadRollLoads : Prop :=
  ∀ (h : UpHeader) (a : LoadRollArgs) (s : State), takesRequests s → RollOrdered s →
    let r : Request := .loadRoll a
    let free := writersHeld s = false ∧ s.reg.walks = []
    let legal := 1 ≤ a.pupil ∧ a.pupil ≤ 65000 ∧ 1 ≤ a.tokens.length ∧ a.tokens.length ≤ 2 ∧ 0 ∉ a.tokens
      ∧ a.tokens.Nodup ∧ a.form ≤ 127 ∧ 7 ≤ a.year ∧ a.year ≤ 13 ∧ a.family ≤ 2047
    let unique := ∀ x ∈ s.roll.roll, x.2.pupil ≠ a.pupil → ∀ k ∈ x.2.tokens, k ∉ a.tokens
    let closed := ∀ x, formState s x ≠ .opened
    let loads := fun (slot : Nat) (e : RollEntry) (created : Bool) => ∃ t, exec (.loadRoll h a) s = .next t
      ∧ entryAt t slot = some e ∧ (∀ n, n ≠ slot → entryAt t n = entryAt s n)
      ∧ { t with roll := { t.roll with roll := s.roll.roll } } = withReply h r .ok (.loadedRoll slot created) s
    let refused := fun (st : Status) => exec (.loadRoll h a) s = .next (withReply h r st .none s)
    (∀ slot, free → legal → unique → closed → findPupil s a.pupil = none → firstEmptySlot s = some slot →
      loads slot
        { pupil := a.pupil, tokens := a.tokens, form := a.form, year := a.year, family := a.family
          referOnArrival := a.referOnArrival, noSelfExit := a.noSelfExit, recordDay := s.sched.day
          day := clearedDay, term := newTerm } true)
    ∧ (∀ slot e, free → legal → unique → findPupil s a.pupil = some (slot, e) → (e.form = a.form ∨ closed) →
      loads slot
        { e with
          pupil := a.pupil, tokens := a.tokens, form := a.form, year := a.year, family := a.family
          referOnArrival := a.referOnArrival, noSelfExit := a.noSelfExit } false)
    ∧ (¬free → 1 ≤ a.tokens.length → a.tokens.length ≤ 2 → refused .busy)
    ∧ (free → ¬legal → refused .badArg)
    ∧ (free → legal → ¬unique → refused .duplicate)
    ∧ (free → legal → unique → findPupil s a.pupil = none → firstEmptySlot s = none → refused .full)
    ∧ (∀ slot, free → legal → unique → ¬closed → findPupil s a.pupil = none → firstEmptySlot s = some slot →
      refused .state)
    ∧ (∀ slot e, free → legal → unique → ¬closed → findPupil s a.pupil = some (slot, e) → e.form ≠ a.form →
      refused .state)

/-- DROP_ROLL (R23): the slot is emptied, its excuses leave, the on-site count follows, and no other entry changes; with
the notice window closed, the pupil leaves every QUEUED notice record, and a record with no pupil left leaves the queue
with one report. Its minutes late, when no pupil left has any, are the model's choice (log 16). -/
def Obligations.DropRollEmptiesASlot : Prop :=
  ∀ (h : UpHeader) (n slot : Nat) (e : RollEntry) (s : State), takesRequests s → RollOrdered s →
    writersHeld s = false → s.reg.walks = [] → 1 ≤ n → n ≤ 65000 → findPupil s n = some (slot, e) →
    ((∀ g, g < 8 → ∀ r, (gateAt s g).referral = some r → r.slot ≠ slot) → (∀ x, formState s x ≠ .opened) →
      ∃ t, exec (.dropRoll h n) s = .next t ∧ answered h (.dropRoll n) .ok (.slot slot) t
        ∧ entryAt t slot = none ∧ (∀ m, m ≠ slot → entryAt t m = entryAt s m)
        ∧ t.roll.excuses = s.roll.excuses.filter (fun x => x.slot != slot)
        ∧ t.roll.families = s.roll.families
        ∧ t.gate = { s.gate with onSiteCount := s.gate.onSiteCount - if e.day.onSite = .onSite then 1 else 0 }
        ∧ t.sched = s.sched ∧ t.bell = s.bell ∧ t.reg = s.reg ∧ sameControl s t
        ∧ (s.msg.windowOpen = false → NoticesOrderly s → s.office.reportNumber ≤ 65535 →
            noticesBecome
              (fun x => if x.state = .queued ∧ (∃ p ∈ x.pupils, p.1 = n) then withdrawnRecord s n x else some x)
              1 s t))
    ∧ (heldAtGate s slot = true ∨ anyFormOpen s = true →
      exec (.dropRoll h n) s = .next (withReply h (.dropRoll n) .state .none s))

/-- LOAD_FAMILY (R24): the family's entry is replaced, and every other family, the roll and the excuses stand; with the
notice window closed, the family's QUEUED records are seated at the new list's first notify contact, or leave the queue
with a report and an alert each when it has none. -/
def Obligations.LoadFamilyReplaces : Prop :=
  ∀ (h : UpHeader) (f : Nat) (held : Bool) (cs : List Contact) (s : State), takesRequests s →
    (familyLoadable f cs s →
      ∃ t, exec (.loadFamily h f held cs) s = .next t ∧ answered h (.loadFamily f held cs) .ok .none t
        ∧ tabFind t.roll.families f = some ⟨held, cs⟩
        ∧ (∀ g, g ≠ f → tabFind t.roll.families g = tabFind s.roll.families g)
        ∧ { t.roll with families := s.roll.families } = s.roll
        ∧ t.sched = s.sched ∧ t.bell = s.bell ∧ t.gate = s.gate ∧ t.reg = s.reg ∧ sameControl s t
        ∧ (s.msg.windowOpen = false → NoticesOrderly s → s.office.reportNumber ≤ 65535 →
            noticesBecome (fun x =>
              if x.family = f then (firstNotify cs).map fun i => { x with position := i } else some x) 2 s t))
    ∧ (writersHeld s = false → f ≤ 2047 → 1 ≤ cs.length → cs.length ≤ 4 → (∀ c ∈ cs, c.handle ≠ 0) →
        ¬(cs.map (·.handle)).Nodup →
      exec (.loadFamily h f held cs) s = .next (withReply h (.loadFamily f held cs) .duplicate .none s))

/-- SET_MARK (R26): the mark takes the code with source OFFICE; a code that shows the pupil present brings an OFF_SITE
pupil on site; a mark that is or becomes NOT_REQUIRED cannot be set while the session's windows are OPEN. With the
notice window closed, a mark that leaves ABSENT or LATE_AFTER_CLOSE withdraws the pupil from every record of that
reason and session (R132), and clears the reason's done flag; no other change of a mark touches a notice. The minutes
late of a record in which no pupil left has any are the model's choice (log 16). -/
def Obligations.SetMarkWrites : Prop :=
  ∀ (h : UpHeader) (n slot : Nat) (x : Session) (code : MarkCode) (e : RollEntry) (s : State), takesRequests s →
    RollOrdered s → writersHeld s = false → 1 ≤ n → n ≤ 65000 → findPupil s n = some (slot, e) →
    let old := (e.day.marks.get x).code
    let arrives := (code = .present ∨ code = .late ∨ code = .lateAfterClose) ∧ e.day.onSite = .offSite
    (formState s x ≠ .opened ∨ (old ≠ .notRequired ∧ code ≠ .notRequired) →
      ∃ t e', exec (.setMark h n x code) s = .next t ∧ answered h (.setMark n x code) .ok (.markChange old code) t
        ∧ entryAt t slot = some e' ∧ e'.day.marks = e.day.marks.set x ⟨code, some .office⟩ ∧ e'.term = e.term
        ∧ (arrives → e'.day.onSite = .onSite ∧ t.gate = { s.gate with onSiteCount := s.gate.onSiteCount + 1 })
        ∧ (¬arrives → e'.day.onSite = e.day.onSite ∧ t.gate = s.gate)
        ∧ (∀ m, m ≠ slot → (entryAt t m).map (fun y => (y.pupil, y.day.marks, y.day.onSite, y.term))
            = (entryAt s m).map fun y => (y.pupil, y.day.marks, y.day.onSite, y.term))
        ∧ t.roll.excuses = s.roll.excuses ∧ t.roll.families = s.roll.families
        ∧ t.sched = s.sched ∧ t.bell = s.bell ∧ t.reg = s.reg ∧ sameControl s t
        ∧ (∀ r, (r = .absence x ∧ old = .absent ∧ code ≠ .absent)
              ∨ (r = .late x ∧ old = .lateAfterClose ∧ code ≠ .lateAfterClose) →
            s.msg.windowOpen = false → NoticesOrderly s → s.office.reportNumber ≤ 65535 →
            doneFlag e'.day.flags r = false
            ∧ noticesBecome (fun y => if lists r n y = true then withdrawnRecord s n y else some y) 1 s t)
        ∧ ((old ≠ .absent ∨ code = .absent) → (old ≠ .lateAfterClose ∨ code = .lateAfterClose) →
            s.msg.windowOpen = false →
            t.msg = s.msg ∧ t.office.reportNumber = s.office.reportNumber ∧ e'.day.flags = e.day.flags))
    ∧ (formState s x = .opened → old = .notRequired ∨ code = .notRequired →
      exec (.setMark h n x code) s = .next (withReply h (.setMark n x code) .state .none s))

/-- ADJUST_COUNTS (R27): the term record takes the figures, each held to its range; A above P is refused. -/
def Obligations.AdjustCountsReplaces : Prop :=
  ∀ (h : UpHeader) (a : AdjustArgs) (slot : Nat) (e : RollEntry) (s : State), takesRequests s → RollOrdered s →
    writersHeld s = false → findPupil s a.pupil = some (slot, e) →
    let term : TermRecord :=
      { p := min 1023 a.p, a := min 1023 a.a, u := min 1023 a.u, lateCount := min 1023 a.lateCount
        lateMinutes := min 65535 a.lateMinutes
        concern := match a.concern with
          | .set => true
          | .clear => false
          | .keep => e.term.concern }
    (term.a ≤ term.p → ∃ t, exec (.adjustCounts h a) s = .next t
      ∧ entryAt t slot = some { e with term := term } ∧ (∀ n, n ≠ slot → entryAt t n = entryAt s n)
      ∧ { t with roll := { t.roll with roll := s.roll.roll } }
          = withReply h (.adjustCounts a) .ok (.term term (attendance term)) s)
    ∧ (term.p < term.a → exec (.adjustCounts h a) s = .next (withReply h (.adjustCounts a) .badArg .none s))

/-! ### Requests of the schedule -/

/-- LOAD_CALENDAR (R31) and LOAD_PLAN (R32, R45, R46): consecutive days take their entries; a plan is built part by
part and replaces the stored plan when the final part makes a plan that keeps R32, and otherwise is BAD_ARG, as is a
part with a value outside R45's list; a part of the active or the staged plan, and one that does not continue the
build, is STATE. -/
def Obligations.CalendarAndPlanLoads : Prop :=
  ∀ (h : UpHeader) (s : State), takesRequests s →
    (∀ first es, 1 ≤ es.length → es.length ≤ 200 → first + es.length ≤ 366 → (∀ p, .plan p ∈ es → p ≤ 7) →
      ∃ t, exec (.loadCalendar h first es) s = .next t
        ∧ (∀ i (hi : i < es.length), calendarEntry t (first + i) = es[i])
        ∧ (∀ d, d < first ∨ first + es.length ≤ d → calendarEntry t d = calendarEntry s d)
        ∧ { t with sched := { t.sched with calendar := s.sched.calendar } }
            = withReply h (.loadCalendar first es) .ok .none s)
    ∧ (∀ p start es final, ¬partLegal p start es final →
        exec (.loadPlan h p start es final) s = .next (withReply h (.loadPlan p start es final) .badArg .none s))
    ∧ (∀ p start es final before, partLegal p start es final →
        s.sched.active ≠ some p → s.sched.staged ≠ some p →
        (start = 0 → before = []) → (start ≠ 0 → s.sched.build = some ⟨p, before⟩ ∧ before.length = start) →
        let r : Request := .loadPlan p start es final
        let all := before ++ es
        (final = false → exec (.loadPlan h p start es final) s = .next (withReply h r .ok (.eventCount all.length)
            { s with sched := { s.sched with build := some ⟨p, all⟩ } }))
        ∧ (final = true → planKeeps all → ∃ t, exec (.loadPlan h p start es final) s = .next t
            ∧ planAt t p = all ∧ (∀ q, q ≠ p → planAt t q = planAt s q) ∧ t.sched.build = none
            ∧ { t with sched := { t.sched with plans := s.sched.plans, build := s.sched.build } }
                = withReply h r .ok (.eventCount all.length) s)
        ∧ (final = true → ¬planKeeps all →
            exec (.loadPlan h p start es final) s = .next (withReply h r .badArg .none s)))
    ∧ ∀ p start es final, partLegal p start es final →
        s.sched.active = some p ∨ s.sched.staged = some p
          ∨ (start ≠ 0 ∧ ∀ b, s.sched.build = some b → b.plan ≠ p ∨ b.events.length ≠ start) →
        exec (.loadPlan h p start es final) s = .next (withReply h (.loadPlan p start es final) .state .none s)

/-- STAGE_PLAN (R37, R38): staged in the middle of a day, swapped in at once at the day's edges or on a closed day,
withdrawn by naming the active plan, and refused when there is no day to run. A swap closes without an event each OPEN
window whose closing event the new plan lacks or has behind it (R106), and takes no event. The flag in the reply, true
for a swap, is the model's choice where R37 gives no more than OK (log 22). -/
def Obligations.StagePlanStages : Prop :=
  ∀ (h : UpHeader) (p : Nat) (s : State), takesRequests s → p ≤ 7 → s.office.catchUp = false →
    let swaps := ∃ t, exec (.stagePlan h p) s = .next t ∧ answered h (.stagePlan p) .ok (.stage true) t
      ∧ seatedAfter (planAt s p) s.sched.second t.sched.cursor
      ∧ t.sched = { s.sched with active := some p, staged := none, cursor := t.sched.cursor, state := .active }
      ∧ swapEffect (planAt s p) s.sched.second s t ∧ (s.msg.creditLimit = 0 → t.msg = s.msg)
      ∧ { t.msg with notices := s.msg.notices } = s.msg ∧ t.line.segments = s.line.segments
      ∧ t.roll = s.roll ∧ t.bell = s.bell ∧ t.gate = s.gate ∧ sameControl s t
    (s.sched.state = .closedDay → swaps)
    ∧ (s.sched.state = .active → s.sched.active ≠ some p → (s.sched.cursor = .next 0 ∨ s.sched.cursor = .past) →
        swaps)
    ∧ (s.sched.state = .active → s.sched.active ≠ some p → (∃ i, s.sched.cursor = .next (i + 1)) →
      ∃ t, exec (.stagePlan h p) s = .next t ∧ answered h (.stagePlan p) .ok (.stage false) t
        ∧ t.sched = { s.sched with staged := some p }
        ∧ t.roll = s.roll ∧ t.bell = s.bell ∧ t.gate = s.gate ∧ t.reg = s.reg ∧ sameControl s t)
    ∧ (s.sched.state = .active → s.sched.active = some p →
      exec (.stagePlan h p) s = .next (withReply h (.stagePlan p) .ok (.stage false)
        { s with sched := { s.sched with staged := none } }))
    ∧ (s.sched.state = .unset ∨ s.sched.state = .ending →
      exec (.stagePlan h p) s = .next (withReply h (.stagePlan p) .state .none s))

/-- SET_CLOCK by the clock it finds (R41 to R44): it sets an UNSET clock and begins the day, ends the day when it names
another, and otherwise moves the second of day; no bell rings. A forward set over one event of the active plan takes it
silent, with its side effect (R33, R34). -/
def Obligations.SetClockSets : Prop :=
  ∀ (h : UpHeader) (day second : Nat) (s : State), takesRequests s →
    (day ≤ 365 → second ≤ 86399 → s.sched.state ≠ .ending → s.office.catchUp = false →
      ∃ t, exec (.setClock h day second) s = .next t
        ∧ answered h (.setClock day second) .ok (.clock day second t.sched.state) t
        ∧ t.sched.day = day ∧ t.sched.second = second ∧ t.sched.clock = .set ∧ t.bell = s.bell ∧ sameControl s t
        ∧ (s.sched.clock = .unset → s.sched.staged = none →
            (∀ n, (entryAt t n).map (·.recordDay) = (entryAt s n).map fun _ => day)
            ∧ t.sched.active = tabFind s.sched.calendar day
            ∧ t.sched.state = (if (tabFind s.sched.calendar day).isSome then .active else .closedDay)
            ∧ t.sched.lastSecond = second ∧ t.sched.lastDay = day)
        ∧ (s.sched.clock = .set → day ≠ s.sched.day →
            t.sched = { s.sched with
              day := day, second := second, active := none, cursor := .absent, staged := none, state := .ending
              outstanding := s.sched.outstanding + 1, lastDay := day })
        ∧ (s.sched.clock = .set → day = s.sched.day → s.sched.state ≠ .active →
            t.sched = { s.sched with second := second } ∧ t.roll = s.roll ∧ t.gate = s.gate ∧ t.reg = s.reg)
        ∧ (s.sched.clock = .set → day = s.sched.day → s.sched.state = .active → second ≠ s.sched.second →
            t.sched.lastSecond = second)
        ∧ (∀ i e, s.sched.clock = .set → day = s.sched.day → s.roll.rollState = .normal →
            oneEvent s i e s.sched.second second → s.msg.creditLimit = 0 → s.office.reportNumber ≤ 65535 →
            eventEffect e.act s t
            ∧ t.sched = { s.sched with
                second := second, cursor := cursorAfter (activeEvents s) i, lastSecond := second, lastDay := day }
            ∧ t.roll.excuses = s.roll.excuses ∧ t.roll.families = s.roll.families
            ∧ { t.gate with gates := s.gate.gates } = s.gate ∧ t.msg.notices = s.msg.notices
            ∧ t.line.segments = s.line.segments))
    ∧ (365 < day ∨ 86399 < second →
      exec (.setClock h day second) s = .next (withReply h (.setClock day second) .badArg .none s))
    ∧ (day ≤ 365 → second ≤ 86399 → s.sched.state = .ending ∨ s.office.catchUp = true →
      exec (.setClock h day second) s = .next (withReply h (.setClock day second) .busy .none s))

/-! ### Requests of bells and gates -/

/-- RING (R50 to R55): refused values; a status alone for no zones; behind a job that waits for the line the
job joins the list, discarding the oldest of four; and with nothing to ring before it and no sounder or LOW_LEVEL input
in the way, every zone of the mask is rung at once, a held zone being passed over unless the job overrides. A zone with
sounders, here one or two on idle segments, has its BELL frames handed in station-table order, with the job's tone and
duration, an entry that repeats an earlier one's address being passed over, and is then waited for. That the
zones have rung within the step, and that the reply's bell status is taken after the sequencer has run, is the model's
reading (log 11, DEDUCED). -/
def Obligations.RingRings : Prop :=
  ∀ (h : UpHeader) (zones : ZoneMask) (tone duration : Nat) (override : Bool) (s : State), takesRequests s →
    let r : Request := .ring zones tone duration override
    let job : BellJob := { zones := zones, tone := tone, duration := duration, override := override, origin := .office }
    (¬(1 ≤ tone ∧ tone ≤ 7 ∧ 1 ≤ duration ∧ duration ≤ 30) →
      exec (.ring h zones tone duration override) s = .next (withReply h r .badArg .none s))
    ∧ (1 ≤ tone → tone ≤ 7 → 1 ≤ duration → duration ≤ 30 →
      (zones = 0 → exec (.ring h zones tone duration override) s =
          .next (withReply h r .ok (.bellStatus (bellStatus s)) s))
      ∧ (zones ≠ 0 → s.bell.current.isSome = true → bellWaits s → s.bell.waiting.length < 4 →
          ∃ t, exec (.ring h zones tone duration override) s =
              .next (withReply h r .ok (.ring (bellStatus t) false false) t)
            ∧ t = { s with bell := { s.bell with waiting := s.bell.waiting ++ [job] } })
      ∧ (∀ old rest, zones ≠ 0 → s.bell.current.isSome = true → bellWaits s → s.bell.waiting = old :: rest →
          rest.length = 3 → ∃ t, exec (.ring h zones tone duration override) s = .next t
            ∧ answered h r .ok (.ring (bellStatus t) false true) t
            ∧ t.bell = { s.bell with waiting := rest ++ [job] }
            ∧ t.office.reportNumber = (s.office.reportNumber + 1) % 65536
            ∧ t.roll = s.roll ∧ t.sched = s.sched ∧ t.gate = s.gate ∧ t.reg = s.reg ∧ t.msg = s.msg
            ∧ sameControl s t)
      ∧ (∀ z n, s.bell.current = none → s.bell.waiting = [] → z < 16 → inZones zones z = true →
          (∀ y, y < z → inZones zones y = false) → (override = true ∨ zoneSuppressed s z = false) →
          soundsIn s z n → (∀ k, k < n → ¬soundsIn s z k) → lineIdle s (stationAt s n).segment →
          let bell := fun k => (⟨(stationAt s k).address, .bell tone duration 1⟩ : FieldFrame)
          let begins := fun (t : State) (handed : Nat) => exec (.ring h zones tone duration override) s = .next t
            ∧ answered h r .ok (.ring (bellStatus t) true false) t ∧ zoneBegun job z handed s t
            ∧ t.line.stations = s.line.stations ∧ t.roll = s.roll ∧ t.sched = s.sched ∧ t.gate = s.gate
            ∧ t.reg = s.reg ∧ t.msg = s.msg ∧ sameControl s t
          ((∀ k, soundsIn s z k → placeOf s k = placeOf s n) → ∃ t, begins t 1
            ∧ nowSends t (stationAt s n).segment (bell n)
            ∧ ∀ g, g ≠ (stationAt s n).segment → segmentAt t g = segmentAt s g)
          ∧ ∀ m, soundsIn s z m → placeOf s m ≠ placeOf s n → lineIdle s (stationAt s m).segment →
            (∀ k, k < m → soundsIn s z k → placeOf s k = placeOf s n) →
            (∀ k, soundsIn s z k → placeOf s k = placeOf s n ∨ placeOf s k = placeOf s m) → ∃ t, begins t 2
            ∧ ((stationAt s m).segment ≠ (stationAt s n).segment →
                nowSends t (stationAt s n).segment (bell n) ∧ nowSends t (stationAt s m).segment (bell m))
            ∧ ((stationAt s m).segment = (stationAt s n).segment →
                segmentAt t (stationAt s n).segment = { segmentAt s (stationAt s n).segment with
                  sending := some (bell n), queue := [bell m] })
            ∧ ∀ g, g ≠ (stationAt s n).segment → g ≠ (stationAt s m).segment → segmentAt t g = segmentAt s g)
      ∧ (zones ≠ 0 → ringsAtOnce job s →
          ∃ t, exec (.ring h zones tone duration override) s = .next t
            ∧ answered h r .ok (.ring (bellStatus t) true false) t
            ∧ rungAtOnce job s t ∧ t.bell.inputs = s.bell.inputs
            ∧ t.roll = s.roll ∧ t.sched = s.sched ∧ t.gate = s.gate ∧ t.reg = s.reg ∧ t.msg = s.msg
            ∧ sameControl s t))

/-- LOAD_INPUTS (R59) and SET_RELAY (R61): each named input takes its configuration and keeps its level; the relay
takes the override and the zone, and stands as Table 3 gives at once. -/
def Obligations.InputAndRelayLoads : Prop :=
  ∀ (h : UpHeader) (s : State), takesRequests s →
    (∀ es : List (Nat × InputConfig), 1 ≤ es.length → es.length ≤ 8 → (∀ x ∈ es, badInput x = false) →
      ((es.map Prod.fst).Nodup → ∃ t, exec (.loadInputs h es) s = .next t
        ∧ (∀ x ∈ es, inputAt t x.1 = { inputAt s x.1 with config := x.2, live := false })
        ∧ (∀ i, i ∉ es.map Prod.fst → inputAt t i = inputAt s i)
        ∧ { t with bell := { t.bell with inputs := s.bell.inputs } }
            = withReply h (.loadInputs es) .ok (.bellStatus (bellStatus t)) s)
      ∧ (¬(es.map Prod.fst).Nodup →
        exec (.loadInputs h es) s = .next (withReply h (.loadInputs es) .duplicate .none s)))
    ∧ (∀ relay o zone, relay ≤ 1 → (∀ z, zone = some z → z ≤ 15) → ∃ t, exec (.setRelay h relay o zone) s = .next t
      ∧ relayAt t relay =
          { zone := zone.getD (relayAt s relay).zone, override := o
            position := match o with
              | .forceOn => .closed
              | .forceOff => .opened
              | .auto => if soundingAt s (zone.getD (relayAt s relay).zone) = 0 then .opened else .closed }
      ∧ (∀ n, n ≠ relay → relayAt t n = relayAt s n)
      ∧ { t with bell := { t.bell with relays := s.bell.relays } }
          = withReply h (.setRelay relay o zone) .ok (.bellStatus (bellStatus t)) s)
    ∧ ∀ relay o zone, 1 < relay ∨ (∃ z, zone = some z ∧ 15 < z) →
        exec (.setRelay h relay o zone) s = .next (withReply h (.setRelay relay o zone) .badArg .none s)

/-- SET_GATE_MODE (R66, R67) changes the mode of the gates of the mask, a change emptying the gate's tap memory; and
ANSWER_REFERRAL (R82) ends a referral: the pupil of an admitted IN tap is on site and no longer referred on arrival,
of an admitted OUT tap signed out, of a refused tap as before; one movement carries the referral number, listed while
the list has room (R83); the reader that made the tap is answered (R78), and the gate remembers the answer; the reply
carries the movement's kind, its sequence number and the mark of the referral's session; and an answer for a referral
that is not there is STALE. An admitted IN tap has its arrival's mark request, minutes late and LATE due flag (R77);
LET_IN_EXCUSED then excuses the mark of the referral's session, and no due flag is set. -/
def Obligations.GateRequestsDecide : Prop :=
  ∀ (h : UpHeader) (s : State), takesRequests s →
    (∀ mask mode, ∃ t, exec (.setGateMode h mask mode) s = .next t
      ∧ (∀ g, g < 8 → gateAt t g =
          if inGates mask g = true ∧ (gateAt s g).mode ≠ mode then
            { mode := mode, memory := none, referral := (gateAt s g).referral }
          else gateAt s g)
      ∧ (∀ g, 8 ≤ g → gateAt t g = gateAt s g)
      ∧ { t with gate := { t.gate with gates := s.gate.gates } }
          = withReply h (.setGateMode mask mode) .ok
              (.gateModes ((List.range 8).map fun g => ((gateAt t g).mode, gateStateAt t g))) s)
    ∧ (∀ g number d r, writersHeld s = false → g ≤ 7 → number ≤ 255 → (gateAt s g).referral = some r →
        r.number = number →
        let answer : Answer := if d = .refuse then .seeOffice else .opened
        ∃ t m, exec (.answerReferral h g number d) s = .next t
          ∧ answered h (.answerReferral g number d) .ok
              (.referralAnswer m.kind (movementSequence s) (r.session.map (markAt t r.slot))) t
          ∧ readerAnswered r answer s t
          ∧ gateAt t g = { mode := (gateAt s g).mode, referral := none
                           memory := some ⟨r.token, answer, s.sched.second, 0⟩ }
          ∧ (∀ n, n ≠ g → gateAt t n = gateAt s n)
          ∧ movementRecorded m s t ∧ (s.msg.notices = [] → reportsMade (movementReports s) s t)
          ∧ m.second = s.sched.second ∧ m.gate = g ∧ (d = .refuse → m.minutes = none)
          ∧ m.direction = (if d = .refuse then r.direction else if r.band.isSome then .inward else .outward)
          ∧ m.pupil = pupilAt s r.slot ∧ m.referral = some number
          ∧ (d = .refuse → m.kind = .refused ∧ t.roll = s.roll ∧ t.gate.onSiteCount = s.gate.onSiteCount)
          ∧ (∀ e, entryAt s r.slot = some e → d ≠ .refuse → ∃ e', entryAt t r.slot = some e'
              ∧ (r.band.isSome = true → e'.day.onSite = .onSite ∧ e'.referOnArrival = false
                  ∧ e'.day.arrival = some (e.day.arrival.getD ⟨r.tapSecond, g⟩))
              ∧ (r.band = none → e'.day.onSite = .signedOut ∧ m.kind = .signOut ∧ m.minutes = none)
              ∧ (∀ b, r.band = some b → RollOrdered s →
                  let j : Judged := ⟨r.session, b, r.minutes⟩
                  m.kind = arrivalKind e.day.onSite b ∧ m.minutes = movementMinutes m.kind r.minutes
                  ∧ (d = .letIn → arrivalRecorded e e' j)
                  ∧ (d = .letInExcused → e'.day.minutesLate = arrivalMinutes e j
                      ∧ ∀ x, e'.day.flags.dueLate.get x = e.day.flags.dueLate.get x
                        ∧ e'.day.marks.get x =
                            if r.session = some x then excusedMark (arrivalMark e j x) else e.day.marks.get x))
              ∧ (r.band = none → RollOrdered s → e'.day.minutesLate = e.day.minutesLate ∧ ∀ x, e'.day.marks.get x =
                  if d = .letInExcused ∧ r.session = some x then excusedMark (e.day.marks.get x)
                  else e.day.marks.get x))
          ∧ (∀ n, n ≠ r.slot → (entryAt t n).map (fun y => (y.day.marks, y.day.onSite, y.term))
              = (entryAt s n).map fun y => (y.day.marks, y.day.onSite, y.term))
          ∧ t.sched = s.sched ∧ t.bell = s.bell ∧ t.reg = s.reg ∧ sameControl s t)
    ∧ ∀ g number d, writersHeld s = false → g ≤ 7 → number ≤ 255 →
        (∀ r, (gateAt s g).referral = some r → r.number ≠ number) →
        exec (.answerReferral h g number d) s = .next (withReply h (.answerReferral g number d) .stale .none s)

/-! ### Requests of excuses and notices -/

/-- ADD_EXCUSE and REMOVE_EXCUSE (R113 to R117, R120, R121) on a proper table: afterwards exactly the days of the
range and the sessions named are excused under the new reason, or no longer excused; every other day, session and
pupil stands; each entry of the list stands in the place that R115 gives it; a change the table has no room for is
refused FULL, the need of a removal being its number of splits; and where a range added covers today, today's marks of
its sessions meet an EXCUSE request. The replies carry the entry that covers the first day, the free entries and
today's codes (R120), or the numbers of entries reshaped, removed and split and the free entries (R121). -/
def Obligations.ExcuseRequestsCover : Prop :=
  ∀ (h : UpHeader) (s : State), takesRequests s → writersHeld s = false → ExcusesDisjoint s →
    (∀ (a : AddExcuseArgs) (slot : Nat) (e : RollEntry), 1 ≤ a.pupil → a.pupil ≤ 65000 → a.offset ≤ 14 →
      1 ≤ a.count → a.count ≤ 10 → s.sched.clock = .set → findPupil s a.pupil = some (slot, e) →
      s.sched.day + a.offset ≤ 365 →
      let d1 := s.sched.day + a.offset
      let d2 := min 365 (d1 + a.count - 1)
      let new : Excuse := { slot := slot, first := d1, last := d2, sessions := a.sessions, reason := a.reason
                            source := .office }
      let applied := d1 ≤ s.sched.day ∧ s.sched.day ≤ d2 ∧ e.recordDay = s.sched.day
      let named := [Session.am, .pm].filter (hasSession a.sessions)
      ∀ after, excuseInserted new s.roll.excuses after →
      (excuseRoom slot s.roll.excuses after → ∃ t c, exec (.addExcuse h a) s = .next t
        ∧ answered h (.addExcuse a) .ok (.excuseAdded (some c) (256 - after.length)
            (if applied then some (named.map fun x => (markAt t slot x).code) else none)) t
        ∧ t.roll.excuses = after ∧ c ∈ after ∧ c.slot = slot ∧ (∀ x, named.head? = some x → excuseCovers c d1 x = true)
        ∧ c.sessions = a.sessions ∧ c.reason = a.reason ∧ c.source = .office ∧ c.first ≤ d1 ∧ d2 ≤ c.last
        ∧ (∀ k d x, excusedBy t.roll.excuses k d x =
            if k = slot ∧ d1 ≤ d ∧ d ≤ d2 ∧ hasSession a.sessions x = true then some a.reason
            else excusedBy s.roll.excuses k d x)
        ∧ (∀ n, (entryAt t n).map (fun y => (y.pupil, y.day.onSite, y.term))
            = (entryAt s n).map fun y => (y.pupil, y.day.onSite, y.term))
        ∧ (RollOrdered s → todayExcused slot d1 d2 a.sessions e s t ∧ otherPupilsStand slot s t)
        ∧ t.sched = s.sched ∧ t.bell = s.bell ∧ t.gate = s.gate ∧ t.reg = s.reg ∧ sameControl s t)
      ∧ (¬excuseRoom slot s.roll.excuses after →
        exec (.addExcuse h a) s = .next (withReply h (.addExcuse a) .full .none s)))
    ∧ ∀ (n first last slot : Nat) (e : RollEntry), 1 ≤ n → n ≤ 65000 → first ≤ last → last ≤ 365 →
      findPupil s n = some (slot, e) →
      let leaving := fun k => s.roll.excuses.countP fun x =>
        rangeMeets slot first last .both x && (piecesOf first last .both x).length == k
      let after := trimmedBy slot first last .both s.roll.excuses
      let data := ReplyData.excuseRemoved (leaving 1) (leaving 0) (leaving 2) (256 - after.length)
      (leaving 2 + s.roll.excuses.length ≤ 256 → ∃ t, exec (.removeExcuse h n first last) s = .next t
        ∧ t.roll.excuses = after
        ∧ (∀ k d x, excusedBy t.roll.excuses k d x =
            if k = slot ∧ first ≤ d ∧ d ≤ last then none else excusedBy s.roll.excuses k d x)
        ∧ { t with roll := { t.roll with excuses := s.roll.excuses } }
            = withReply h (.removeExcuse n first last) .ok data s)
      ∧ (256 < leaving 2 + s.roll.excuses.length →
        exec (.removeExcuse h n first last) s = .next (withReply h (.removeExcuse n first last) .full .none s))

/-- SEND_NOTICE (R141): an OFFICE record joins the end of the queue under the next number, for pupils of the family,
seated at its first notify contact; a second one for the family is refused. With the notice window CLOSED, or no credit,
it waits there QUEUED, and the records before it stand. LOAD_TEMPLATES (R143): each reason named
takes its template. -/
def Obligations.NoticeRequestsQueue : Prop :=
  ∀ (h : UpHeader) (s : State), takesRequests s →
    (∀ f template ps i, writersHeld s = false → f ≤ 2047 → template ≠ 0 → 1 ≤ ps.length → ps.length ≤ 4 →
      ps.Nodup → (∀ p ∈ ps, 1 ≤ p ∧ p ≤ 65000 ∧ ∃ slot e, findPupil s p = some (slot, e) ∧ e.family = f) →
      (tabFind s.roll.families f).isSome = true → firstNotify (contactsOf s f) = some i →
      ((∀ n ∈ s.msg.notices, n.family = f → n.reason ≠ .office) → s.msg.notices.length < 256 →
        ∃ t n, exec (.sendNotice h f template ps) s = .next t
          ∧ answered h (.sendNotice f template ps) .ok
              (.noticeSent s.msg.nextNumber (s.msg.notices.length + 1)) t
          ∧ t.msg.nextNumber = (s.msg.nextNumber + 1) % 65536
          ∧ t.msg.notices.length = s.msg.notices.length + 1 ∧ t.msg.notices.getLast? = some n
          ∧ n.number = s.msg.nextNumber ∧ n.family = f ∧ n.reason = .office ∧ n.template = template
          ∧ n.pupils = ps.map (fun p => (p, false)) ∧ n.position = i ∧ n.notBefore = s.sched.second
          ∧ (s.msg.windowOpen = false ∨ s.msg.creditLimit ≤ inFlight s → n.state = .queued ∧ n.attempts = 0
              ∧ t.msg = { s.msg with
                  notices := s.msg.notices ++ [n], nextNumber := (s.msg.nextNumber + 1) % 65536 })
          ∧ t.roll = s.roll ∧ t.sched = s.sched ∧ t.bell = s.bell ∧ t.gate = s.gate ∧ t.reg = s.reg
          ∧ sameControl s t)
      ∧ ((∃ n ∈ s.msg.notices, n.family = f ∧ n.reason = .office) →
        exec (.sendNotice h f template ps) s = .next (withReply h (.sendNotice f template ps) .duplicate .none s)))
    ∧ ∀ es : List (NoticeReason × Nat), 1 ≤ es.length → es.length ≤ 4 → (∀ x ∈ es, x.1 ≠ .office) →
      ((es.map Prod.fst).Nodup → ∃ t, exec (.loadTemplates h es) s = .next t
        ∧ (∀ x ∈ es, templateOf t.msg.templates x.1 = x.2)
        ∧ (∀ k, k ∉ es.map Prod.fst → templateOf t.msg.templates k = templateOf s.msg.templates k)
        ∧ { t with msg := { t.msg with templates := s.msg.templates } }
            = withReply h (.loadTemplates es) .ok (.templates t.msg.templates) s)
      ∧ (¬(es.map Prod.fst).Nodup →
        exec (.loadTemplates h es) s = .next (withReply h (.loadTemplates es) .duplicate .none s))

/-! ### Requests of the lines, the parameters and the part -/

/-- LOAD_STATION (R150) and LOAD_POLL_LIST (R151): the entry is replaced and counts as PRESENT with no misses; the
list is replaced and polled from its start, at once when the segment is free with nothing queued. -/
def Obligations.LineLoadsReplace : Prop :=
  ∀ (h : UpHeader) (s : State), takesRequests s →
    (∀ a : LoadStationArgs, badStation a = false → ∃ t, exec (.loadStation h a) s = .next t
      ∧ stationAt t a.entry =
          { address := a.address, mask := a.mask, segment := a.segment, kind := a.kind
            unit := if a.kind = .terminal then 0 else a.unit, enabled := a.enabled
            presence := .present, misses := 0 }
      ∧ (∀ n, n ≠ a.entry → stationAt t n = stationAt s n)
      ∧ { t with line := { t.line with stations := s.line.stations } }
          = withReply h (.loadStation a) .ok (.station (stationAt t a.entry)) s)
    ∧ ∀ (seg : Nat) (as : List Byte), seg ≤ 3 → as.length ≤ 32 → (∀ a ∈ as, stationAddress a = true) →
      (as.Nodup → ∃ t, exec (.loadPollList h seg as) s = .next t
        ∧ (segmentAt t seg).poll = as
        ∧ ((segmentAt s seg).sending.isSome = true ∨ (segmentAt s seg).exchange.isSome = true →
            segmentAt t seg = { segmentAt s seg with poll := as, cursor := 0, cycle := 0 })
        ∧ (∀ a rest, as = a :: rest → (segmentAt s seg).sending = none → (segmentAt s seg).exchange = none →
            (segmentAt s seg).queue = [] → (segmentAt t seg).sending = some ⟨a, .poll⟩)
        ∧ (∀ n, n ≠ seg → segmentAt t n = segmentAt s n)
        ∧ { t with line := { t.line with segments := s.line.segments } }
            = withReply h (.loadPollList seg as) .ok (.pollStored as.length) s)
      ∧ (¬as.Nodup → exec (.loadPollList h seg as) s = .next (withReply h (.loadPollList seg as) .duplicate .none s))

/-- SET_PARAMS (R165): each item's value, held to its parameter's range, is written; a parameter not named stands; the
reply marks the items that were held. -/
def Obligations.SetParamsClamps : Prop :=
  ∀ (h : UpHeader) (items : List ParamItem) (s : State), takesRequests s → 1 ≤ items.length → items.length ≤ 16 →
    (∀ x ∈ items, x.name = .grace → ∃ g, x.gate = some g ∧ g ≤ 7) →
    ((items.map itemKey).Nodup → ∃ t, exec (.setParams h items) s = .next t
      ∧ (∀ x ∈ items, paramValue t.office.params x.name (x.gate.getD 0)
          = max (paramRange x.name).1 (min (paramRange x.name).2 x.value))
      ∧ (∀ n g, (∀ x ∈ items, x.name = n → n = .grace ∧ x.gate ≠ some g) →
          paramValue t.office.params n g = paramValue s.office.params n g)
      ∧ { t with office := { t.office with params := s.office.params } }
          = withReply h (.setParams items) .ok
              (.params t.office.params (items.map fun x =>
                decide (x.value < (paramRange x.name).1 ∨ (paramRange x.name).2 < x.value))) s)
    ∧ (¬(items.map itemKey).Nodup →
      exec (.setParams h items) s = .next (withReply h (.setParams items) .duplicate .none s))

/-- RESTART (R89, R109, R145, R158, R170 to R173): bells, referrals, exchanges, queues and the credit are gone, the
records of the roll stand, and every station counts as PRESENT; notices, the running walk and held referrals are dealt
with, and catch-up passes a trigger for each day missed or brings the day's events up to date (R172, R173). The reply
carries the retention-valid flag as it stands after it has been set again (the model's choice, log 17). The order by
gate of the restart's REFERRAL_EXPIRED movements (log 21), and the day-end notice in the step that starts a settlement
(log 24), and the outcome timer 0 of a record back in QUEUED (log 16), are the model's choices too. CLEAR_ALL (R169):
a cold start, but for the frames that are being sent (R161), the monitor's finding and the model's own fields. -/
def Obligations.RestartAndClearAll : Prop :=
  ∀ (h : UpHeader) (s : State), takesRequests s →
    (∃ t, exec (.restart h) s = .next t
      ∧ answered h .restart .ok (.restart (s.office.retentionValid || !s.office.backupLow) t.sched.state
          t.office.catchUp (daysMissed s).length (min 65535 (s.office.lost + s.office.reports.length))) t
      ∧ restartsAndCatchesUp s t
      ∧ t.bell.current = none ∧ t.bell.waiting = [] ∧ (∀ z, soundingAt t z = 0)
      ∧ (∀ g, g < 8 → (gateAt t g).referral = none ∧ (gateAt t g).memory = none)
      ∧ (∀ n, n < 48 → (stationAt t n).presence = .present ∧ (stationAt t n).misses = 0)
      ∧ (∀ g, g < 4 → (segmentAt t g).queue = [] ∧ (segmentAt t g).exchange = none
          ∧ (segmentAt t g).poll = (segmentAt s g).poll)
      ∧ t.msg.creditLimit = 0 ∧ t.sched.build = none ∧ t.line.upHeld = none
      ∧ (∀ n, (entryAt t n).map (fun e => (e.pupil, e.day.marks, e.day.onSite, e.term))
          = (entryAt s n).map fun e => (e.pupil, e.day.marks, e.day.onSite, e.term))
      ∧ t.roll.families = s.roll.families ∧ t.roll.excuses = s.roll.excuses
      ∧ t.sched.plans = s.sched.plans ∧ t.sched.calendar = s.sched.calendar
      ∧ t.office.params = s.office.params
      ∧ t.office.retentionValid = (s.office.retentionValid || !s.office.backupLow))
    ∧ exec (.clearAll h) s = .next (withReply h .clearAll .ok (.cleared (!s.office.backupLow))
        { State.reset with
          line := { State.reset.line with upSending := s.line.upSending, gwSending := s.line.gwSending }
          office := { State.reset.office with
            backupLow := s.office.backupLow, retentionValid := !s.office.backupLow }
          choices := s.choices, pending := s.pending })

/-! ### Time and the part's own steps -/

/-- SECONDS_TICK. The clock (R28 to R30, R39): one second on, the wrap at midnight with its rollover trigger, the
out-of-year day, the UNSET clock, and the tick without main power. The timers (R54, R69, R81, R139) count in either
clock state; with no job that can move, no timer already at 0 and no offer to make, they are all that changes but for
the clock in a tick without an event, and at midnight too where the settlement is held; where nothing holds it, it
starts at once (R15), and the day-end notice, which the model passes in the same step (log 24), empties the gates. A
tick that takes one event takes it sounding (R33 to R35): its side effect, and its bell job behind the one that waits,
with the timers counting; a gate whose mode the event changes has an empty memory. A boundary event is taken whole
from the old plan, and a plan staged is then swapped in at the event's time (R38). -/
def Obligations.TickAdvancesClockAndTimers : Prop :=
  ∀ s : State,
    (s.office.powered = true → s.sched.clock = .set → s.sched.second < 86399 → ∃ t, exec .secondsTick s = .next t
      ∧ t.sched.day = s.sched.day ∧ t.sched.second = s.sched.second + 1 ∧ t.sched.clock = .set
      ∧ t.sched.lastSecond = s.sched.second + 1 ∧ t.sched.lastDay = s.sched.day
      ∧ t.sched.outstanding = s.sched.outstanding)
    ∧ (s.office.powered = true → s.sched.clock = .set → 86399 ≤ s.sched.second → s.sched.day < 366 →
      ∃ t, exec .secondsTick s = .next t
        ∧ t.sched = { s.sched with
            second := 0, day := s.sched.day + 1, active := none, cursor := .absent, staged := none, state := .ending
            outstanding := s.sched.outstanding + 1, lastSecond := 0, lastDay := s.sched.day + 1 })
    ∧ (s.office.powered = true → s.sched.clock = .set → 86399 ≤ s.sched.second → s.sched.day = 366 →
      ∃ t, exec .secondsTick s = .next t ∧ t.sched.second = 0 ∧ t.sched.day = 366
        ∧ t.sched.outstanding = s.sched.outstanding)
    ∧ (s.office.powered = true → s.sched.clock = .unset → ∃ t, exec .secondsTick s = .next t ∧ t.sched = s.sched)
    ∧ (∀ u : State, calendarPlan u 366 = none)
    ∧ (s.office.powered = false → exec .secondsTick s = .next { s with sched :=
        if s.sched.clock = .unset then s.sched
        else if s.sched.second < 86399 then { s.sched with second := s.sched.second + 1 }
        else if s.sched.day < 366 then { s.sched with second := 0, day := s.sched.day + 1 }
        else { s.sched with second := 0 } })
    ∧ (s.office.powered = true → bellWaits s → timersRun s → s.msg.windowOpen = false ∨ s.msg.creditLimit = 0 →
      (s.sched.clock = .unset → ∃ t, exec .secondsTick s = .next t ∧ onlyTimersCount s.sched s t)
      ∧ (∀ second, s.sched.clock = .set →
        (s.sched.second < 86399 ∧ second = s.sched.second + 1)
          ∨ (86399 ≤ s.sched.second ∧ 366 ≤ s.sched.day ∧ second = 0) →
        noEvent s second → ∃ t, exec .secondsTick s = .next t
          ∧ onlyTimersCount { s.sched with second := second, lastSecond := second, lastDay := s.sched.day } s t)
      ∧ (s.sched.clock = .set → 86399 ≤ s.sched.second → s.sched.day < 366 →
        let sched := { s.sched with
          second := 0, day := s.sched.day + 1, active := none, cursor := .absent, staged := none, state := .ending
          outstanding := s.sched.outstanding + 1, lastSecond := 0, lastDay := s.sched.day + 1 }
        let held := s.roll.rollState ≠ .normal ∨ s.roll.heldTriggers ≠ [] ∨ s.reg.walks ≠ []
        (held → ∃ t, exec .secondsTick s = .next t ∧ onlyTimersCount sched
            { s with roll := { s.roll with heldTriggers := s.roll.heldTriggers ++ [s.sched.day + 1] } } t)
        ∧ (¬held → ∃ t, exec .secondsTick s = .next t ∧ soundingsFall s t ∧ t.sched = sched
            ∧ t.roll = { s.roll with rollState := .rollover (s.sched.day + 1), cursor := 0 }
            ∧ (∀ g, g < 8 → gateAt t g = { mode := (gateAt s g).mode, memory := none, referral := none }))))
    ∧ (∀ e, s.office.powered = true → s.sched.clock = .set → s.sched.second < 86399 → s.roll.rollState = .normal →
      bellWaits s → s.bell.current.isSome = true → s.bell.waiting.length < 4 →
      s.msg.creditLimit = 0 → s.office.reportNumber ≤ 65535 → timersRun s →
      let sched := { s.sched with
        second := s.sched.second + 1, lastSecond := s.sched.second + 1, lastDay := s.sched.day }
      let takes := fun t : State => exec .secondsTick s = .next t
        ∧ t.bell.waiting = s.bell.waiting ++ (if e.tone = 0 ∨ e.zones = 0 then [] else
            [{ zones := e.zones, tone := e.tone, duration := e.duration, override := false, origin := .event }])
        ∧ t.bell.current = s.bell.current ∧ t.bell.zones = s.bell.zones ∧ t.bell.inputs = s.bell.inputs
        ∧ soundingsFall s t ∧ t.msg.notices = s.msg.notices.map noticeTicked
        ∧ (∀ g, g < 8 → (gateAt t g).referral = (gateTicked (gateAt s g)).referral
            ∧ (gateAt t g).memory = if (gateAt t g).mode = (gateAt s g).mode then (gateTicked (gateAt s g)).memory
                else none)
        ∧ t.roll.excuses = s.roll.excuses ∧ t.roll.families = s.roll.families
        ∧ { t.gate with gates := s.gate.gates } = s.gate ∧ t.line.segments = s.line.segments ∧ sameControl s t
      (∀ i, oneEvent s i e s.sched.second (s.sched.second + 1) → ∃ t, takes t ∧ eventEffect e.act s t
        ∧ t.sched = { sched with cursor := cursorAfter (activeEvents s) i })
      ∧ ∀ i p, s.sched.state = .active → s.sched.staged = some p → s.sched.cursor = .next i →
        (activeEvents s)[i]? = some e → e.boundary = true → e.time = s.sched.second + 1 →
        ∃ t u, takes t ∧ eventEffect e.act s u ∧ swapEffect (planAt s p) e.time u t
          ∧ t.roll = u.roll ∧ t.gate = u.gate ∧ t.msg = u.msg ∧ seatedAfter (planAt s p) e.time t.sched.cursor
          ∧ t.sched = { sched with active := some p, staged := none, cursor := t.sched.cursor })

/-- SETTLEMENT_START (R15, R39, R88, R108, R144): the oldest held trigger's settlement starts; the day's referrals,
tap memories, movements, windows, walks and notices are gone, and the roll is as it was. The reader of a cancelled
referral is answered SEE_OFFICE, here where no other referral's reader is on its segment. That the day-end notice is
passed in the step that starts the settlement, before any slot is settled, is the model's choice (log 24). -/
def Obligations.SettlementStarts : Prop :=
  ∀ (s : State) (d : Nat) (ds : List Nat), s.office.powered = true → s.roll.heldTriggers = d :: ds →
    s.roll.rollState = .normal → s.reg.walks = [] → ∃ t, exec .settlementStart s = .next t
      ∧ t.roll = { s.roll with heldTriggers := ds, rollState := .rollover d, cursor := 0 }
      ∧ (∀ g, g < 8 → gateAt t g = { mode := (gateAt s g).mode, memory := none, referral := none })
      ∧ (∀ g r, g < 8 → (gateAt s g).referral = some r →
          (∀ k q, k < 8 → k ≠ g → (gateAt s k).referral = some q → q.segment ≠ r.segment) →
          readerAnswered r .seeOffice s t)
      ∧ t.gate.movements = [] ∧ t.gate.movementsFull = false ∧ t.gate.onSiteCount = s.gate.onSiteCount
      ∧ (∀ x, formState t x = .notOpened) ∧ (∀ k, lessonAt t k = .notOpened) ∧ t.reg.walks = []
      ∧ t.msg.notices = [] ∧ t.msg.windowOpen = false ∧ t.msg.walk = .idle ∧ t.msg.rewalk = false
      ∧ t.msg.deferral = false ∧ t.sched = s.sched ∧ t.bell = s.bell ∧ sameControl s t

/-- SETTLE_SLOT (R15 to R19, R40, R173): the slot under the cursor is settled whole into the new day; an empty or
settled one is passed over; and the last slot, filled or not, ends the settlement, which begins the day when none is
outstanding. The concern flag is set at Pmin sessions below H and cleared at the clearing level (R18), and the settled
record has no flag but CONCERN due, where concern is newly raised (R19). One slot for each command is the model's
choice (log 4). -/
def Obligations.SettleSlotSettles : Prop :=
  ∀ (s : State) (day : Nat), s.office.powered = true → s.roll.rollState = .rollover day →
    let settled := fun (t : State) (e : RollEntry) => (∃ e', entryAt t s.roll.cursor = some e' ∧ e'.recordDay = day
        ∧ e'.pupil = e.pupil ∧ e'.tokens = e.tokens
        ∧ e'.term = { settledCounts e with concern := e'.term.concern }
        ∧ (e.term.concern = false → (e'.term.concern = true ↔ s.office.params.pmin ≤ e'.term.p
            ∧ attendance e'.term < s.office.params.threshold))
        ∧ (e.term.concern = true → (e'.term.concern = true ↔
            attendance e'.term < min 1000 (s.office.params.threshold + s.office.params.hysteresis)))
        ∧ e'.day.flags = { dueLate := ⟨false, false⟩, dueInternal := false
                           dueConcern := e'.term.concern && !e.term.concern, doneAbsence := ⟨false, false⟩
                           doneLate := ⟨false, false⟩, doneInternal := false, doneConcern := false }
        ∧ e'.day.registerMarked = ⟨false, false⟩ ∧ e'.day.onSite = .offSite ∧ e'.day.arrival = none
        ∧ e'.day.minutesLate = 0 ∧ e'.day.lessons = []
        ∧ ∀ x, (e'.day.marks.get x) =
            if s.roll.excuses.any (fun y => y.slot == s.roll.cursor && excuseCovers y day x)
            then ⟨.excused, some .excuse⟩ else ⟨.untaken, none⟩)
      ∧ t.roll.excuses = s.roll.excuses.filter (fun y => !(y.slot == s.roll.cursor && y.last < day))
      ∧ t.gate.onSiteCount = s.gate.onSiteCount - (if e.day.onSite = .onSite then 1 else 0)
      ∧ otherPupilsStand s.roll.cursor s t
    let unsettled := fun e : RollEntry => entryAt s s.roll.cursor = some e ∧ e.recordDay ≠ day
    let nothing := entryAt s s.roll.cursor = none ∨ ∃ e, entryAt s s.roll.cursor = some e ∧ e.recordDay = day
    let dayBegins := fun t : State => t.roll.rollState = .normal ∧ t.sched.outstanding = 0
      ∧ t.sched.active = calendarPlan s s.sched.day
      ∧ t.sched.state = (if (calendarPlan s s.sched.day).isSome then .active else .closedDay)
      ∧ t.sched.lastSecond = s.sched.second ∧ t.office.catchUp = false ∧ t.bell = s.bell
    let nextWaits := fun t : State => t.roll.rollState = .normal
      ∧ t.sched = { s.sched with outstanding := s.sched.outstanding - 1 }
      ∧ t.bell = s.bell ∧ t.reg = s.reg ∧ sameControl s t
    (∀ e, s.roll.cursor < 3071 → unsettled e →
      ∃ t, exec .settleSlot s = .next t ∧ settled t e ∧ t.roll.cursor = s.roll.cursor + 1
        ∧ t.roll.rollState = .rollover day
        ∧ { t.gate with onSiteCount := s.gate.onSiteCount } = s.gate
        ∧ t.sched = s.sched ∧ t.bell = s.bell ∧ t.reg = s.reg ∧ sameControl s t)
    ∧ (s.roll.cursor < 3071 → nothing →
        exec .settleSlot s = .next { s with roll := { s.roll with cursor := s.roll.cursor + 1 } })
    ∧ (∀ e, s.roll.cursor = 3071 → unsettled e → s.sched.outstanding = 1 → s.sched.staged = none →
        ∃ t, exec .settleSlot s = .next t ∧ settled t e ∧ dayBegins t)
    ∧ (∀ e, s.roll.cursor = 3071 → unsettled e → 2 ≤ s.sched.outstanding →
        ∃ t, exec .settleSlot s = .next t ∧ settled t e ∧ nextWaits t)
    ∧ (s.roll.cursor = 3071 → nothing → s.sched.outstanding = 1 → s.sched.staged = none →
        ∃ t, exec .settleSlot s = .next t ∧ dayBegins t
          ∧ (∀ n, (entryAt t n).map (fun y => (y.pupil, y.day.marks, y.day.onSite, y.term))
            = (entryAt s n).map fun y => (y.pupil, y.day.marks, y.day.onSite, y.term)))
    ∧ (s.roll.cursor = 3071 → nothing → 2 ≤ s.sched.outstanding →
        ∃ t, exec .settleSlot s = .next t ∧ nextWaits t ∧ t.gate = s.gate
          ∧ ∀ n, entryAt t n = entryAt s n)

/-- CLOSE_WALK_VISIT (R101 to R103) and PERIOD_END_WALK_VISIT (R104). The close walk gives an UNTAKEN mark its verdict:
PRESENT, with an alert, for a pupil on site who arrived in good time, else ABSENT; it leaves every other mark. The
period-end walk raises an alert for each pupil marked ABSENT who is on site, and the due flag unless done. The visit of
slot 3071 ends the walk, which leaves the list and requests a notice walk. That a command visits one slot, an empty one
included, and that the last visit ends the walk, is the model's choice (log 4). -/
def Obligations.WalksVisitSlots : Prop :=
  ∀ (s : State) (ws : List Walk) (c : Nat), s.office.powered = true → c ≤ 3071 →
    let moved := fun (k : WalkKind) (t : State) =>
      t.reg = { s.reg with walks := if c < 3071 then ⟨k, c + 1⟩ :: ws else ws }
    let stands := fun (k : WalkKind) (t : State) => moved k t ∧ (c < 3071 → t.msg = s.msg)
      ∧ (c = 3071 → walkRequested s t) ∧ { t with reg := s.reg, msg := { t.msg with
          walk := s.msg.walk, cursor := s.msg.cursor, rewalk := s.msg.rewalk, deferral := s.msg.deferral } } = s
    let ends := fun t : State => c = 3071 → s.msg.windowOpen = true → s.roll.rollState = .normal → t.msg.walk ≠ .idle
    (∀ x ref e, s.reg.walks = ⟨.close x ref, c⟩ :: ws → entryAt s c = some e →
      let goodTime := ∃ a, e.day.arrival = some a ∧ e.day.onSite = .onSite
        ∧ (ref = none ∨ ∃ T, ref = some T ∧ a.second ≤ T + graceAt s a.gate)
      ((e.day.marks.get x).code = .untaken → ∃ t, exec .closeWalkVisit s = .next t
        ∧ (goodTime → markAt t c x = ⟨.present, some .close⟩
            ∧ t.office.reportNumber = (s.office.reportNumber + 1) % 65536)
        ∧ (¬goodTime → markAt t c x = ⟨.absent, some .close⟩ ∧ t.office = s.office)
        ∧ moved (.close x ref) t ∧ ends t
        ∧ (∀ n, n ≠ c → entryAt t n = entryAt s n) ∧ t.sched = s.sched ∧ t.bell = s.bell ∧ sameControl s t)
      ∧ ((e.day.marks.get x).code ≠ .untaken → ∃ t, exec .closeWalkVisit s = .next t ∧ stands (.close x ref) t))
    ∧ (∀ x ref, s.reg.walks = ⟨.close x ref, c⟩ :: ws → entryAt s c = none →
      ∃ t, exec .closeWalkVisit s = .next t ∧ stands (.close x ref) t)
    ∧ (∀ k e, s.reg.walks = ⟨.periodEnd k, c⟩ :: ws → entryAt s c = some e →
      let absent := tabGet LessonMark.unset e.day.lessons k = .absent ∧ e.day.onSite = .onSite
      (absent → ∃ t, exec .periodEndWalkVisit s = .next t
        ∧ t.office.reportNumber = (s.office.reportNumber + 1) % 65536
        ∧ entryAt t c = some { e with day := { e.day with flags :=
            { e.day.flags with dueInternal := e.day.flags.dueInternal || !e.day.flags.doneInternal } } }
        ∧ (∀ n, n ≠ c → entryAt t n = entryAt s n)
        ∧ moved (.periodEnd k) t ∧ ends t
        ∧ t.sched = s.sched ∧ t.bell = s.bell ∧ t.gate = s.gate ∧ sameControl s t)
      ∧ (¬absent → ∃ t, exec .periodEndWalkVisit s = .next t ∧ stands (.periodEnd k) t))
    ∧ ∀ k, s.reg.walks = ⟨.periodEnd k, c⟩ :: ws → entryAt s c = none →
      ∃ t, exec .periodEndWalkVisit s = .next t ∧ stands (.periodEnd k) t

/-- NOTICE_WALK_VISIT (R129 to R131): a pupil with one reason to be noticed, of a family whose notices are not held,
joins the end of the family's QUEUED record for it while that lists fewer than four pupils, or makes a new one at the
first notify contact under the next number; with no such contact the reason fails; and the reason is done. A record
that cannot be joined sets the deferral flag, and a full queue pauses the walk at the slot. A pupil with no reason,
and an empty slot, is passed over. The visit of slot 3071, here with no credit for an offer, ends the pass: the walk
is IDLE, or RUNNING again when a rewalk was asked for. One slot for each command (log 4), and that a record's minutes
late stand when no listed pupil on the roll has any (log 16), are the model's choices. -/
def Obligations.NoticeWalkMakesRecords : Prop :=
  ∀ (s : State) (c : Nat), s.office.powered = true → s.msg.walk = .running → s.roll.rollState = .normal →
    s.msg.cursor = c → c < 3071 ∨ (c = 3071 ∧ s.msg.creditLimit = 0) →
    let moves := fun m : MessageUnit =>
      if c < 3071 then { m with cursor := c + 1 }
      else if m.rewalk then { m with cursor := 0, rewalk := false, deferral := false }
      else { m with walk := .idle, cursor := 0 }
    let passes := exec .noticeWalkVisit s = .next { s with msg := moves s.msg }
    (entryAt s c = none → passes)
    ∧ ∀ e, entryAt s c = some e →
      ((∀ r ∈ dueReasons, noticeCondition s e r = false) ∨ noticesHeld s e.family = true → passes)
      ∧ ∀ r ∈ dueReasons, noticesHeld s e.family = false → noticeCondition s e r = true →
        doneFlag e.day.flags r = false → templateOf s.msg.templates (noticeOf r).1 ≠ 0 →
        (∀ q ∈ dueReasons, q ≠ r → noticeCondition s e q = false) →
        let done := fun t : State => entryAt t c =
            some { e with day := { e.day with flags := setDoneFlag r true e.day.flags } }
          ∧ (∀ n, n ≠ c → entryAt t n = entryAt s n)
          ∧ t.sched = s.sched ∧ t.bell = s.bell ∧ t.gate = s.gate ∧ t.reg = s.reg
        (∀ i, firstNotify (contactsOf s e.family) = some i → findCombination s e.family r = none →
          s.msg.notices.length < 256 → ∃ t n, exec .noticeWalkVisit s = .next t ∧ done t
            ∧ t.msg = moves { s.msg with
                notices := s.msg.notices ++ [n], nextNumber := (s.msg.nextNumber + 1) % 65536 }
            ∧ n.number = s.msg.nextNumber ∧ n.family = e.family ∧ n.pupils = [(e.pupil, false)]
            ∧ (n.reason, n.session) = noticeOf r ∧ n.template = templateOf s.msg.templates n.reason
            ∧ n.position = i ∧ n.attempts = 0 ∧ n.notBefore = s.sched.second ∧ n.state = .queued
            ∧ t.office = s.office ∧ t.line = s.line)
        ∧ (∀ i n pre post, firstNotify (contactsOf s e.family) = some i → findCombination s e.family r = some n →
          s.msg.notices = pre ++ n :: post → NoticesOrderly s →
          (n.state = .queued → n.pupils.length < 4 → ∃ t n', exec .noticeWalkVisit s = .next t ∧ done t
            ∧ t.msg = moves { s.msg with notices := pre ++ n' :: post }
            ∧ n' = { n with pupils := n'.pupils, period := n'.period, minutes := n'.minutes }
            ∧ n'.pupils = (if n.pupils.any (fun p => p.1 == e.pupil) then n.pupils else n.pupils ++ [(e.pupil, false)])
            ∧ n'.period = laterPeriod n.period (if r = .internal then latestAbsentPeriod e else none)
            ∧ ((∀ x, r ≠ .late x) → n'.minutes = n.minutes)
            ∧ (∀ x, r = .late x →
                let minutesOf := fun m : Nat => ∃ p ∈ n'.pupils, ∃ slot y,
                  findPupil s p.1 = some (slot, y) ∧ y.day.minutesLate = m
                (∀ m, 1 ≤ m → minutesOf m → (∀ k, minutesOf k → k ≤ m) → n'.minutes = some m)
                ∧ ((∀ k, minutesOf k → k = 0) → n'.minutes = n.minutes))
            ∧ t.office = s.office ∧ t.line = s.line)
          ∧ (n.state ≠ .queued ∨ 4 ≤ n.pupils.length →
            exec .noticeWalkVisit s = .next { s with msg := moves { s.msg with deferral := true } }))
        ∧ (firstNotify (contactsOf s e.family) = none → ∃ t, exec .noticeWalkVisit s = .next t ∧ done t
            ∧ t.msg = moves s.msg
            ∧ t.office.reportNumber = (s.office.reportNumber + 1) % 65536)
        ∧ (∀ i, firstNotify (contactsOf s e.family) = some i → findCombination s e.family r = none →
            256 ≤ s.msg.notices.length → ∃ t, exec .noticeWalkVisit s = .next t ∧ t.msg.walk = .paused
              ∧ t.msg.cursor = c ∧ t.roll = s.roll
              ∧ (s.msg.creditLimit = 0 → t = { s with msg := { s.msg with walk := .paused } }))

/-- REFERRAL_EXPIRY (R78, R81, R83): a referral whose timer stands at 0 ends; its reader is answered SEE_OFFICE and
the gate remembers it; a movement, listed while the list has room, and an alert say so; the pupil's record stands.
That the command leaves a referral still counting as it is, its step not being enabled, is the model's choice (log 1).
-/
def Obligations.ReferralExpires : Prop :=
  ∀ (s : State) (g : Nat) (r : Referral), s.office.powered = true → (gateAt s g).referral = some r →
    (r.timer = 0 → ∃ t, exec (.referralExpiry g) s = .next t ∧ readerAnswered r .seeOffice s t
      ∧ gateAt t g = { mode := (gateAt s g).mode, referral := none
                       memory := some ⟨r.token, .seeOffice, s.sched.second, 0⟩ }
      ∧ (∀ n, n ≠ g → gateAt t n = gateAt s n)
      ∧ movementRecorded
          { second := s.sched.second, gate := g, direction := r.direction, pupil := pupilAt s r.slot
            kind := .referralExpired, minutes := none, referral := some r.number } s t
      ∧ reportsMade (movementReports s + 1) s t
      ∧ t.roll = s.roll ∧ t.sched = s.sched ∧ t.bell = s.bell ∧ t.reg = s.reg ∧ t.msg = s.msg ∧ sameControl s t)
    ∧ (r.timer ≠ 0 → exec (.referralExpiry g) s = .next s)

/-- SOUNDING_COUNT_EXPIRY (R54, R60): when a zone's count stands at 0 both relays stand as Table 3 gives, and nothing
else changes. INPUT_CHANGE and FIRST_LEVEL_TAKEN (R57, R58): a level held for the debounce time becomes the input's; a
RING_NOW input makes its job when its sense asks for it, which joins the list behind a job that waits, and with
nothing to wait for is rung at once; and the first level after a power-up is taken without a change, a LOW_LEVEL input
that is LOW making its job. That a command whose step is not enabled (a count or a level that does not ask for it)
changes nothing is the model's choice (log 1); that the sequencer runs within the step is log 11's. -/
def Obligations.ContactsAndRelaysFollow : Prop :=
  (∀ (s : State) (z : Nat), s.office.powered = true →
      (soundingAt s z = 0 → ∃ t, exec (.soundingCountExpiry z) s = .next t
        ∧ (∀ r, r < 2 → relayAt t r = { relayAt s r with position := relayPosition s (relayAt s r) })
        ∧ (∀ r, r < 2 → (relayAt s r).override = .auto → (relayAt s r).zone = z → (relayAt t r).position = .opened)
        ∧ { t with bell := { t.bell with relays := s.bell.relays } } = s)
      ∧ (soundingAt s z ≠ 0 → exec (.soundingCountExpiry z) s = .next s))
  ∧ (∀ (s : State) (n : Nat) (level : Level), s.office.powered = true →
      let i := inputAt s n
      let live := i.config.function = .ringNow ∧ i.config.sense = .lowLevel ∧ level = .low
      let asks := i.config.function = .ringNow ∧ (i.config.sense = .anyChange
        ∨ (level = .low ∧ (i.config.sense = .falling ∨ i.config.sense = .lowLevel))
        ∨ (level = .high ∧ i.config.sense = .rising))
      let job : BellJob := { zones := i.config.zones, tone := i.config.tone, duration := i.config.duration
                             override := i.config.override, origin := .input n }
      let takes := fun (t : State) (taken : Bool) =>
        inputAt t n = { i with level := level, taken := taken, live := decide live }
        ∧ ∀ m, m ≠ n → inputAt t m = inputAt s m
      let waits := s.bell.current.isSome = true ∧ bellWaits s ∧ s.bell.waiting.length < 4
      let joined := fun t : State => t.bell.waiting = s.bell.waiting ++ [job]
        ∧ { t with bell := { t.bell with inputs := s.bell.inputs, waiting := s.bell.waiting } } = s
      (∀ ms, i.taken = true → i.level ≠ level → i.config.debounce ≤ ms →
        (¬asks → ∃ t, exec (.inputChange n level ms) s = .next t ∧ takes t i.taken
          ∧ { t with bell := { t.bell with inputs := s.bell.inputs } } = s)
        ∧ (asks → waits → ∃ t, exec (.inputChange n level ms) s = .next t ∧ takes t i.taken ∧ joined t)
        ∧ (asks → ¬live → s.bell.current = none → s.bell.waiting = [] →
            (∀ k, k < 8 → k ≠ n → (inputAt s k).live = false) →
            (∀ z, z < 16 → inZones job.zones z = true → sounders s z = []) →
            ∃ t, exec (.inputChange n level ms) s = .next t ∧ takes t i.taken ∧ rungAtOnce job s t
              ∧ { t with bell := s.bell } = s))
      ∧ (∀ ms, i.taken = false ∨ i.level = level ∨ ms < i.config.debounce →
          exec (.inputChange n level ms) s = .next s)
      ∧ (i.taken = false → ¬live → ∃ t, exec (.firstLevelTaken n level) s = .next t ∧ takes t true
          ∧ { t with bell := { t.bell with inputs := s.bell.inputs } } = s)
      ∧ (i.taken = false → live → waits → ∃ t, exec (.firstLevelTaken n level) s = .next t ∧ takes t true ∧ joined t)
      ∧ (i.taken = true → exec (.firstLevelTaken n level) s = .next s))

/-! ### Field segments -/

/-- TAP at an IN reader in a POLL exchange (R68 to R72, R76 to R80): the reader is answered at once on its idle
segment, and the tap has the effect of the step of Table 3 of Chapter 4 that decides it: an arrival with its mark
request, minutes late and LATE due flag, or a hold, or SEE_OFFICE when the report queue has no room for the hold's
alert. A movement is listed while the list has room, and otherwise sets the MOVEMENTS_FULL flag, with one alert where
it was clear (R83). A TAP without the layout, at a reader of either direction, is answered REFUSE with its sequence
byte, if it has one, and does nothing else (R68). -/
def Obligations.InwardTapIsAnswered : Prop :=
  (∀ (s : State) (seg n : Nat) (src : Byte) (payload : List Byte), s.office.powered = true →
      awaitsPoll s seg src n → (stationAt s n).kind = .gateIn ∨ (stationAt s n).kind = .gateOut →
      writersHeld s = false → decodeTap payload = none → ∃ t, exec (.tap seg src payload) s = .next t
        ∧ nowSends t seg ⟨src, .gateAnswer ((payload[4]?.map (·.toNat)).getD 0) .refuse none none 0⟩
        ∧ stationAt t n = credited (stationAt s n) ∧ (∀ k, k ≠ n → stationAt t k = stationAt s k)
        ∧ reportsMade (backAlerts (stationAt s n)) s t ∧ t.roll = s.roll ∧ t.sched = s.sched ∧ t.bell = s.bell
        ∧ t.gate = s.gate ∧ t.reg = s.reg ∧ t.msg = s.msg ∧ sameControl s t)
  ∧ ∀ (s : State) (seg n g sq : Nat) (src : Byte) (payload : List Byte) (token : Handle), s.office.powered = true →
    awaitsPoll s seg src n → (stationAt s n).kind = .gateIn → (stationAt s n).unit = g →
    decodeTap payload = some (token, sq) →
    let answers := fun (t : State) (a : Answer) (pupil : Option Nat) (j : Option Judged) =>
      exec (.tap seg src payload) s = .next t
        ∧ nowSends t seg ⟨src, .gateAnswer sq a pupil (j.map (·.band)) ((j.map (·.minutes)).getD 0)⟩
        ∧ stationAt t n = credited (stationAt s n) ∧ t.sched = s.sched ∧ t.bell = s.bell ∧ t.reg = s.reg
        ∧ sameControl s t
    let remembers := fun (t : State) (a : Answer) => (gateAt t g).memory = some ⟨token, a, s.sched.second, 0⟩
      ∧ ∀ k, k ≠ g → gateAt t k = gateAt s k
    let fresh := writersHeld s = false ∧ (gateAt s g).referral = none
      ∧ ∀ m, (gateAt s g).memory = some m → s.office.params.dupWindow = 0 ∨ m.token ≠ token
          ∨ s.office.params.dupWindow < m.age
    (writersHeld s = true → ∃ t, exec (.tap seg src payload) s = .next t
      ∧ nowSends t seg ⟨src, .busy 0x06 sq⟩ ∧ t.roll = s.roll ∧ t.gate = s.gate)
    ∧ (∀ r, writersHeld s = false → (gateAt s g).referral = some r →
      ∃ t, answers t (if r.token = token then .hold else .engaged) (tokenPupil s token) none
        ∧ t.roll = s.roll ∧ t.gate = s.gate ∧ t.msg = s.msg)
    ∧ (∀ m, writersHeld s = false → (gateAt s g).referral = none → (gateAt s g).memory = some m →
      s.office.params.dupWindow ≠ 0 → m.token = token → m.age ≤ s.office.params.dupWindow →
      ∃ t, answers t m.answer (tokenPupil s token) none ∧ t.roll = s.roll ∧ t.gate = s.gate ∧ t.msg = s.msg)
    ∧ (fresh → findToken s token = none → ∃ t, answers t .refuse none none ∧ remembers t .refuse
        ∧ t.roll = s.roll ∧ t.gate.movements = s.gate.movements)
    ∧ (∀ slot e, fresh → RollOrdered s → findToken s token = some (slot, e) →
      let j := judgeArrival s g s.sched.second
      let mode := (gateAt s g).mode
      let kind := arrivalKind e.day.onSite j.band
      let held := mode = .referral ∨ (mode = .timed ∧ j.band = .lateAfterClose) ∨ e.referOnArrival = true
      (mode = .shut → ∃ t, answers t .refuse (some e.pupil) none ∧ remembers t .refuse ∧ t.roll = s.roll)
      ∧ (mode ≠ .shut → ¬held → ∃ t e',
          answers t .opened (some e.pupil) (some j) ∧ remembers t .opened
          ∧ entryAt t slot = some e' ∧ e'.day.onSite = .onSite
          ∧ e'.day.arrival = some (e.day.arrival.getD ⟨s.sched.second, g⟩)
          ∧ movementRecorded
              { second := s.sched.second, gate := g, direction := .inward, pupil := e.pupil, kind := kind
                minutes := movementMinutes kind j.minutes, referral := none } s t
          ∧ (s.msg.notices = [] → reportsMade (movementReports s + backAlerts (stationAt s n)) s t)
          ∧ e'.term = e.term ∧ arrivalRecorded e e' j ∧ otherPupilsStand slot s t)
      ∧ (mode ≠ .shut → held → s.office.reports.length < 63 → ∃ t r,
          answers t .hold (some e.pupil) (some j) ∧ remembers t .hold ∧ (gateAt t g).referral = some r
          ∧ r.number = (s.gate.referralCounter + 1) % 256 ∧ t.gate.referralCounter = r.number
          ∧ r.slot = slot ∧ r.direction = .inward ∧ r.session = j.session ∧ r.band = some j.band
          ∧ r.minutes = j.minutes ∧ r.tapSecond = s.sched.second ∧ r.timer = s.office.params.referralTimeout
          ∧ r.token = token ∧ t.roll = s.roll ∧ t.gate.movements = s.gate.movements)
      ∧ (mode ≠ .shut → held → 64 ≤ s.office.reports.length → ∃ t,
          answers t .seeOffice (some e.pupil) (some j) ∧ remembers t .seeOffice ∧ (gateAt t g).referral = none
          ∧ t.gate.referralCounter = s.gate.referralCounter ∧ t.roll = s.roll
          ∧ movementRecorded
              { second := s.sched.second, gate := g, direction := .inward, pupil := e.pupil, kind := .referralExpired
                minutes := none, referral := none } s t
          ∧ ((stationAt s n).presence = .present → t.office.reports = s.office.reports
              ∧ t.office.lost = min 65535 (s.office.lost + movementReports s))))

/-- TAP at an OUT reader in a POLL exchange (R65, R68 to R71, R78 to R80): HOLD or ENGAGED while the gate holds a
referral; SEE_OFFICE at a gate out of service, with nothing remembered; the remembered answer within the duplicate
window; REFUSE for an unknown token, with an alert, and at a SHUT gate; a pupil who may leave alone is signed out; and
one with NO_SELF_EXIT is held with the session of the tap, or answered SEE_OFFICE when the report queue has no room.
What the answers of the first steps carry is the model's reading (log 13). -/
def Obligations.OutwardTapIsAnswered : Prop :=
  ∀ (s : State) (seg n g sq : Nat) (src : Byte) (payload : List Byte) (token : Handle),
    s.office.powered = true → RollOrdered s → awaitsPoll s seg src n → (stationAt s n).kind = .gateOut →
    (stationAt s n).unit = g → decodeTap payload = some (token, sq) → writersHeld s = false →
    let answers := fun (t : State) (a : Answer) (pupil : Option Nat) =>
      exec (.tap seg src payload) s = .next t ∧ nowSends t seg ⟨src, .gateAnswer sq a pupil none 0⟩
        ∧ t.sched = s.sched ∧ t.bell = s.bell ∧ t.reg = s.reg ∧ t.msg = s.msg ∧ sameControl s t
    let remembers := fun (t : State) (a : Answer) => (gateAt t g).memory = some ⟨token, a, s.sched.second, 0⟩
      ∧ ∀ k, k ≠ g → gateAt t k = gateAt s k
    let ready := (gateAt s g).referral = none ∧ outOfService s g = false
    let fresh := ready ∧ ∀ m, (gateAt s g).memory = some m → s.office.params.dupWindow = 0 ∨ m.token ≠ token
      ∨ s.office.params.dupWindow < m.age
    (∀ r, (gateAt s g).referral = some r →
      ∃ t, answers t (if r.token = token then .hold else .engaged) (tokenPupil s token)
        ∧ t.roll = s.roll ∧ t.gate = s.gate)
    ∧ ((gateAt s g).referral = none → outOfService s g = true →
      ∃ t, answers t .seeOffice (tokenPupil s token) ∧ t.roll = s.roll ∧ t.gate = s.gate)
    ∧ (∀ m, ready → (gateAt s g).memory = some m → s.office.params.dupWindow ≠ 0 → m.token = token →
      m.age ≤ s.office.params.dupWindow →
      ∃ t, answers t m.answer (tokenPupil s token) ∧ t.roll = s.roll ∧ t.gate = s.gate)
    ∧ (fresh → findToken s token = none → ∃ t, answers t .refuse none ∧ remembers t .refuse ∧ t.roll = s.roll
        ∧ t.gate.movements = s.gate.movements
        ∧ reportsMade (1 + backAlerts (stationAt s n)) s t)
    ∧ ∀ slot e, fresh → findToken s token = some (slot, e) →
      ((gateAt s g).mode = .shut → ∃ t, answers t .refuse (some e.pupil) ∧ remembers t .refuse ∧ t.roll = s.roll
          ∧ t.gate.movements = s.gate.movements)
      ∧ ((gateAt s g).mode ≠ .shut → e.noSelfExit = false → ∃ t,
          answers t .opened (some e.pupil) ∧ remembers t .opened
          ∧ entryAt t slot = some { e with day := { e.day with onSite := .signedOut } }
          ∧ (∀ k, k ≠ slot → entryAt t k = entryAt s k)
          ∧ movementRecorded
              { second := s.sched.second, gate := g, direction := .outward, pupil := e.pupil, kind := .signOut
                minutes := none, referral := none } s t
          ∧ reportsMade (movementReports s + backAlerts (stationAt s n)) s t
          ∧ t.gate.onSiteCount = s.gate.onSiteCount - (if e.day.onSite = .onSite then 1 else 0))
      ∧ ((gateAt s g).mode ≠ .shut → e.noSelfExit = true → s.office.reports.length < 63 → ∃ t r,
          answers t .hold (some e.pupil) ∧ remembers t .hold
          ∧ (gateAt t g).referral = some r ∧ r.direction = .outward ∧ r.reason = .noSelfExit ∧ r.slot = slot
          ∧ r.session = (tapSession s s.sched.second).map Prod.fst ∧ r.band = none ∧ r.token = token
          ∧ r.number = (s.gate.referralCounter + 1) % 256 ∧ t.gate.referralCounter = r.number
          ∧ r.timer = s.office.params.referralTimeout ∧ t.roll = s.roll ∧ t.gate.movements = s.gate.movements)
      ∧ ((gateAt s g).mode ≠ .shut → e.noSelfExit = true → 64 ≤ s.office.reports.length → ∃ t,
          answers t .seeOffice (some e.pupil) ∧ remembers t .seeOffice ∧ (gateAt t g).referral = none
          ∧ t.gate.referralCounter = s.gate.referralCounter ∧ t.roll = s.roll
          ∧ movementRecorded
              { second := s.sched.second, gate := g, direction := .outward, pupil := e.pupil, kind := .referralExpired
                minutes := none, referral := none } s t
          ∧ ((stationAt s n).presence = .present → t.office.reports = s.office.reports
              ∧ t.office.lost = min 65535 (s.office.lost + movementReports s)))

/-- REGISTER from a terminal in a POLL exchange (R95 to R99, R156): the terminal is acknowledged at once on its idle
segment; a malformed frame and a window that is not OPEN change nothing. The entries of a frame for an OPEN window are
taken in list order: each that is not refused merges its mark, marks the pupil as registered and counts the pupil
once, and the pupil that brings the count to 0 sets the done flag and makes a REGISTER_DONE report (R93); the
acknowledgement counts both kinds and lists the first eight refused. -/
def Obligations.RegisterIsAcknowledged : Prop :=
  ∀ (s : State) (seg n : Nat) (src : Byte) (payload : List Byte), s.office.powered = true →
    awaitsPoll s seg src n → (stationAt s n).kind = .terminal →
    let acks := fun (t : State) (f : FieldBody) => exec (.register seg src payload) s = .next t
      ∧ nowSends t seg ⟨src, f⟩ ∧ stationAt t n = credited (stationAt s n)
      ∧ t.sched = s.sched ∧ t.bell = s.bell ∧ sameControl s t
    let still := fun t : State => t.roll = s.roll ∧ t.reg = s.reg ∧ t.gate = s.gate ∧ t.msg = s.msg
    (writersHeld s = true → ∃ t, acks t (.busy 0x07 (sequenceAt 0 payload)) ∧ still t)
    ∧ (writersHeld s = false → decodeRegister payload = none →
      ∃ t, acks t (.registerAck (sequenceAt 0 payload) .malformed 0 0 none []) ∧ still t)
    ∧ (∀ f, writersHeld s = false → decodeRegister payload = some f → targetState s f.target = .notOpened →
      ∃ t, acks t (.registerAck f.sequence .tooEarly 0 0 none []) ∧ still t)
    ∧ (∀ f, writersHeld s = false → decodeRegister payload = some f → targetState s f.target = .closed →
      ∃ t, acks t (.registerAck f.sequence .closed 0 0 none []) ∧ still t)
    ∧ (∀ sq x g pupil mark slot e, writersHeld s = false → RollOrdered s →
      decodeRegister payload = some ⟨sq, .form x g, [(pupil, mark)]⟩ → formState s x = .opened →
      1 ≤ pupil → pupil ≤ 65000 → findPupil s pupil = some (slot, e) → (e.day.marks.get x).code = .untaken →
      (e.form = g → ∃ t, acks t (.registerAck sq .ok 1 0 (some (formAt t x g).unmarked) [])
        ∧ markAt t slot x = ⟨match mark with
            | .present => .present
            | .late => .late
            | .absent => .absent, some .register⟩
        ∧ (entryAt t slot).map (fun y => y.day.registerMarked.get x) = some true
        ∧ (formAt t x g).taken = true ∧ (formAt t x g).expected = (formAt s x g).expected
        ∧ (e.day.registerMarked.get x = false → 1 ≤ (formAt s x g).unmarked →
            (formAt t x g).unmarked = (formAt s x g).unmarked - 1)
        ∧ (let completes := e.day.registerMarked.get x = false ∧ (formAt s x g).unmarked = 1
           (formAt t x g).done = ((formAt s x g).done || decide completes)
           ∧ reportsMade (backAlerts (stationAt s n) + if completes then 1 else 0) s t
           ∧ (completes → s.line.upSending.isSome = true → s.office.reports.length < 63 →
              ∃ y ∈ t.office.reports, y.body = .registerDone x g (formAt s x g).expected s.sched.second))
        ∧ (∀ k, k ≠ slot → entryAt t k = entryAt s k))
      ∧ (e.form ≠ g → ∃ t, acks t (.registerAck sq .ok 0 1 (some (formAt s x g).unmarked) [(pupil, .wrongGroup)])
          ∧ still t))
    ∧ (∀ sq x g entries, writersHeld s = false → RollOrdered s →
      decodeRegister payload = some ⟨sq, .form x g, entries⟩ → formState s x = .opened →
      let why := fun en : Nat × EntryMark =>
        match findPupil s en.1 with
        | none => some RefuseReason.notFound
        | some (_, e) =>
          if en.1 < 1 ∨ 65000 < en.1 then some .notFound
          else if e.form ≠ g then some .wrongGroup
          else if (e.day.marks.get x).code = .notRequired then some .notExpected
          else none
      let refused := entries.filterMap fun en => (why en).map fun w => (en.1, w)
      let taken := fun slot => entries.filter fun en =>
        why en == none && (findPupil s en.1).map Prod.fst == some slot
      let merged := fun (m : Mark) (en : Nat × EntryMark) =>
        match mergeCode (match en.2 with
          | .present => .regPresent
          | .late => .regLate
          | .absent => .regAbsent) m with
        | some c => ⟨c, some .register⟩
        | none => m
      ∃ t, acks t (.registerAck sq .ok (entries.length - refused.length) refused.length (some (formAt t x g).unmarked)
          (refused.take 8))
        ∧ (∀ slot e, entryAt s slot = some e → ∃ e', entryAt t slot = some e'
            ∧ e'.day.marks.get x = (taken slot).foldl merged (e.day.marks.get x)
            ∧ (∀ y, y ≠ x → e'.day.marks.get y = e.day.marks.get y)
            ∧ e'.day.registerMarked.get x = (e.day.registerMarked.get x || !(taken slot).isEmpty)
            ∧ (taken slot = [] → e'.day.onSite = e.day.onSite) ∧ e'.term = e.term)
        ∧ (formAt t x g).expected = (formAt s x g).expected
        ∧ (formAt t x g).taken = ((formAt s x g).taken || entries.any fun en => why en == none)
        ∧ (∀ k, k ≠ g → formAt t x k = formAt s x k)
        ∧ (RegistersCounted s → g < 128 → (formAt t x g).unmarked = unmarkedPupils t x g
            ∧ (formAt t x g).done =
                ((formAt s x g).done || ((formAt s x g).unmarked != 0 && (formAt t x g).unmarked == 0)))
        ∧ (refused.length = entries.length → still t))
    ∧ ∀ sq k room entries, writersHeld s = false → RollOrdered s →
      decodeRegister payload = some ⟨sq, .lesson k room, entries⟩ → lessonAt s k = .opened →
      let missing := fun en : Nat × EntryMark =>
        (findPupil s en.1).isNone || decide (en.1 < 1) || decide (65000 < en.1)
      let refused := (entries.filter missing).map fun en => (en.1, RefuseReason.notFound)
      let taken := fun slot => entries.filter fun en =>
        !missing en && (findPupil s en.1).map Prod.fst == some slot
      ∃ t, acks t (.registerAck sq .ok (entries.length - refused.length) refused.length none (refused.take 8))
        ∧ ∀ slot e, entryAt s slot = some e → ∃ e', entryAt t slot = some e' ∧ e'.day.marks = e.day.marks
          ∧ (taken slot = [] → e' = e ∧ roomAt t k slot = roomAt s k slot)
          ∧ (∀ en, (taken slot).getLast? = some en → roomAt t k slot = room
              ∧ tabGet LessonMark.unset e'.day.lessons k = match en.2 with
                | .present => .present
                | .late => .late
                | .absent => .absent)
          ∧ e'.day.onSite = (if (∃ en ∈ taken slot, en.2 ≠ .absent) ∧ e.day.onSite = .offSite then .onSite
              else e.day.onSite)

/-- A POLL exchange answered with NOTHING, or with a kind its station does not send, or not at all (R149, R154, R155,
Table 5 of Chapter 8): the presence record of the station follows, with an alert when it turns, the exchange ends, and
nothing is delivered. That a NOTHING whose payload is not empty is such an answer is the model's choice (log 26). -/
def Obligations.PollAnswersCreditPresence : Prop :=
  ∀ (s : State) (seg n : Nat) (src kind : Byte) (payload : List Byte), s.office.powered = true →
    (segmentAt s seg).sending = none → (segmentAt s seg).exchange = some ⟨src, .poll⟩ →
    classify s seg src = some n →
    let e := stationAt s n
    let ends := fun t : State => (segmentAt t seg).exchange = none
      ∧ (∀ m, m ≠ n → stationAt t m = stationAt s m) ∧ (∀ k, k ≠ seg → segmentAt t k = segmentAt s k)
      ∧ t.roll = s.roll ∧ t.sched = s.sched ∧ t.bell = s.bell ∧ t.gate = s.gate ∧ t.reg = s.reg ∧ t.msg = s.msg
      ∧ sameControl s t
    let heard := fun c : Instr => ∃ t, exec c s = .next t ∧ ends t ∧ stationAt t n = credited e
      ∧ t.office.reportNumber =
          if e.presence = .absent then (s.office.reportNumber + 1) % 65536 else s.office.reportNumber
    heard (.nothing seg src)
    ∧ ((kind = 0x06 → e.kind ≠ .gateIn ∧ e.kind ≠ .gateOut) → (kind = 0x07 → e.kind ≠ .terminal) →
        heard (.wrongKindReply seg src kind payload))
    ∧ ∃ t, exec (.exchangeMiss seg) s = .next t ∧ ends t
        ∧ (e.presence = .present → e.misses < 2 → stationAt t n = { e with misses := e.misses + 1 }
            ∧ t.office.reportNumber = s.office.reportNumber)
        ∧ (e.presence = .present → 2 ≤ e.misses → stationAt t n = { e with presence := .absent, misses := 3 }
            ∧ t.office.reportNumber = (s.office.reportNumber + 1) % 65536)
        ∧ (e.presence = .absent → stationAt t n = { e with misses := 3 }
            ∧ t.office.reportNumber = s.office.reportNumber)

/-- A BELL exchange (R52 to R54, R149, R154) while the sequencer awaits its zone's reports: a BELL_ACK of a sounder
counts its frames as reported and acknowledged; any other reply, or none, as reported only, with a BELL_UNCONFIRMED
alert that names the zone and the sounder, before any alert of the station's presence (log 6); and the last report of
the mask's last zone writes the zone's record and ends the job. That a BELL_ACK whose payload is not empty does what a
BELL_ACK does is the model's choice (log 26). -/
def Obligations.BellExchangesReport : Prop :=
  ∀ (s : State) (seg m n : Nat) (src kind : Byte) (payload : List Byte) (c : CurrentJob) (r : ZoneRing),
    s.office.powered = true → awaitsBell s seg src m n → s.bell.current = some c → c.ringing = some r →
    r.toHand = [] →
    let e := stationAt s n
    let unconfirmed := fun t : State => s.line.upSending.isSome = true → s.office.reports.length < 64 →
      ∃ rest, t.office.reports = s.office.reports ++ ⟨s.office.reportNumber, s.sched.day, s.sched.second,
        .alert (.bellUnconfirmed c.zone seg src c.job.origin s.sched.second)⟩ :: rest
    let counted := fun (t : State) (acked : Nat) =>
      let ring : ZoneRing := { r with reported := r.reported + m, acked := r.acked + acked }
      t.bell = { s.bell with current := some { c with ringing := some ring } }
    let ends := fun t : State => (segmentAt t seg).exchange = none ∧ t.roll = s.roll ∧ t.sched = s.sched
      ∧ t.gate = s.gate ∧ t.reg = s.reg ∧ t.msg = s.msg ∧ sameControl s t
    (kind = 0x08 → exec (.wrongKindReply seg src kind payload) s = exec (.bellAck seg src) s)
    ∧ (r.reported + m < r.handed → (stationAt s n).kind = .sounder →
      ∃ t, exec (.bellAck seg src) s = .next t ∧ ends t ∧ counted t m ∧ stationAt t n = credited e
        ∧ reportsMade (backAlerts e) s t)
    ∧ (r.reported + m < r.handed → (kind = 0x08 → (stationAt s n).kind ≠ .sounder) →
      ∃ t, exec (.wrongKindReply seg src kind payload) s = .next t ∧ ends t ∧ counted t 0
        ∧ stationAt t n = credited e ∧ reportsMade (1 + backAlerts e) s t ∧ unconfirmed t)
    ∧ (r.reported + m < r.handed → ∃ t, exec (.exchangeMiss seg) s = .next t ∧ ends t ∧ counted t 0
        ∧ reportsMade (1 + lostAlerts e) s t ∧ unconfirmed t)
    ∧ (r.reported + m = r.handed → (stationAt s n).kind = .sounder → s.bell.waiting = [] → c.zone < 16 →
      (∀ i, i < 8 → (inputAt s i).live = false) →
      (∀ z, c.zone < z → z < 16 → inZones c.job.zones z = false) →
      ∃ t, exec (.bellAck seg src) s = .next t ∧ ends t ∧ t.bell.current = none ∧ t.bell.waiting = []
        ∧ zoneAt t c.zone =
            { outcome := if r.acked + m = r.handed then .confirmed else .unconfirmed
              day := s.sched.day, second := s.sched.second, origin := some c.job.origin
              sent := r.handed, acked := r.acked + m }
        ∧ (∀ z, z ≠ c.zone → zoneAt t z = zoneAt s z) ∧ t.bell.sounding = s.bell.sounding
        ∧ stationAt t n = credited e ∧ reportsMade (backAlerts e) s t)

/-- Frames that are not taken (R146 to R149): a stranger frame is counted, and one from the address of the open
exchange ends it, credited to no station; a frame out of turn changes nothing; an invalid frame raises the count of
its fault, the first one being captured, and the port's alert is raised once when the sum reaches the threshold. That
an overrun is found on the gateway port at any time is the model's reading (log 12). -/
def Obligations.UntakenFramesAreCounted : Prop :=
  ∀ (s : State), s.office.powered = true →
    let counts := fun (c : Instr) (p : Port) (f : FrameFault) (h : FrameHeader) => ∃ t, exec c s = .next t
      ∧ (let old := errorsAt s p
         let new := errorsAt t p
         new.parity = min 255 (old.parity + if f = .parity then 1 else 0)
         ∧ new.framing = min 255 (old.framing + if f = .framing ∨ f = .short then 1 else 0)
         ∧ new.noise = min 255 (old.noise + if f = .noise then 1 else 0)
         ∧ new.check = min 255 (old.check + if f = .length ∨ f = .check then 1 else 0)
         ∧ new.overrun = min 255 (old.overrun + if f = .overrun then 1 else 0)
         ∧ new.stranger = min 255 (old.stranger + if f = .stranger then 1 else 0)
         ∧ new.capture = some (old.capture.getD (f, h))
         ∧ (let due := old.alerted = false ∧ s.office.params.portThreshold ≤ errorSum new
            (due → new.alerted = true ∧ t.office.reportNumber = (s.office.reportNumber + 1) % 65536)
            ∧ (¬due → new.alerted = old.alerted
                ∧ { t with line := { t.line with errors := s.line.errors } } = s)))
      ∧ (∀ q, portIndex q ≠ portIndex p → errorsAt t q = errorsAt s q)
      ∧ t.roll = s.roll ∧ t.sched = s.sched ∧ t.bell = s.bell ∧ t.gate = s.gate ∧ t.reg = s.reg ∧ t.msg = s.msg
    (∀ p f h, (∀ k, p = .field k → (segmentAt s k).sending = none) → f ≠ .stranger →
        (f = .overrun → (p = .uplink ∧ s.line.upHeld.isSome = true) ∨ p = .gateway) →
        ((errorsAt s p).parity ≤ 255 ∧ (errorsAt s p).framing ≤ 255 ∧ (errorsAt s p).noise ≤ 255
          ∧ (errorsAt s p).check ≤ 255 ∧ (errorsAt s p).overrun ≤ 255 ∧ (errorsAt s p).stranger ≤ 255) →
        counts (.invalidFrame p f h) p f h)
    ∧ (∀ seg src kind payload, (segmentAt s seg).sending = none → classify s seg src = none →
        (∀ x, (segmentAt s seg).exchange = some x → x.address ≠ src) →
        (let e := errorsAt s (.field seg)
         e.parity ≤ 255 ∧ e.framing ≤ 255 ∧ e.noise ≤ 255 ∧ e.check ≤ 255 ∧ e.overrun ≤ 255 ∧ e.stranger ≤ 255) →
        counts (.strangerFrame seg src kind payload) (.field seg) .stranger
          { dest := some 0x01, src := some src, kind := some kind, length := some payload.length })
    ∧ (∀ seg src kind payload, (segmentAt s seg).sending = none → classify s seg src = none →
        let ends := fun t : State => exec (.strangerFrame seg src kind payload) s = .next t
          ∧ (errorsAt t (.field seg)).stranger = min 255 ((errorsAt s (.field seg)).stranger + 1)
          ∧ (segmentAt t seg).exchange = none
          ∧ segmentAt t seg = chooseNext (pollSkipped s seg) { segmentAt s seg with exchange := none }
          ∧ (∀ k, k ≠ seg → segmentAt t k = segmentAt s k) ∧ (∀ n, stationAt t n = stationAt s n)
          ∧ t.roll = s.roll ∧ t.sched = s.sched ∧ t.gate = s.gate ∧ t.reg = s.reg ∧ t.msg = s.msg
        ((segmentAt s seg).exchange = some ⟨src, .poll⟩ → ∃ t, ends t ∧ t.bell = s.bell)
        ∧ ∀ m c r, (segmentAt s seg).exchange = some ⟨src, .bell m⟩ → s.bell.current = some c → c.ringing = some r →
          r.toHand = [] → r.reported + m < r.handed → ∃ t, ends t
            ∧ t.bell = { s.bell with current := some { c with
                ringing := some { r with reported := r.reported + m } } })
    ∧ ∀ seg n src kind payload, classify s seg src = some n →
        ((segmentAt s seg).sending.isSome = true
          ∨ ∀ x, (segmentAt s seg).exchange = some x → x.address ≠ src) →
        exec (.outOfTurnFrame seg src kind payload) s = .next s

/-- FIELD_FRAME_SENT and OUTPUT_QUEUE_ADMIT (R151 to R154): a POLL or a BELL that has been sent opens its exchange;
after any other frame, and at the end of an exchange, the segment sends the oldest frame of the lowest class, or
polls: from its cursor on, the first address that is not passed over, an address being passed over when its station is
ABSENT and the cycle count is not 0, the cursor moving past each address considered and the cycle count rising at each
wrap. The frame that has waited longest outside a queue joins it when it has a place, and the sequencer counts its own
as handed. That a segment that sends nothing, and an admission with no place or nothing outside, change nothing, their
steps not being enabled, is the model's choice (log 1). -/
def Obligations.SegmentsSendAndAdmit : Prop :=
  ∀ (s : State) (seg : Nat), s.office.powered = true →
    let g := segmentAt s seg
    let leaves := fun (c : Instr) (g' : Segment) => ∃ t, exec c s = .next t ∧ segmentAt t seg = g'
      ∧ (∀ k, k ≠ seg → segmentAt t k = segmentAt s k)
      ∧ { t with line := { t.line with segments := s.line.segments } } = s
    let cycleAt := fun i => (g.cycle + (g.cursor + i) / g.poll.length) % 8
    let addressAt := fun i => g.poll[(g.cursor + i) % g.poll.length]?
    let absent := fun a => ∃ n, classify s seg a = some n ∧ (stationAt s n).presence = .absent
    let pollsNext := fun (i : Nat) (a : Byte) => g.queue = [] ∧ g.cursor < g.poll.length ∧ g.cycle < 8
      ∧ addressAt i = some a ∧ (absent a → cycleAt i = 0)
      ∧ ∀ j b, j < i → addressAt j = some b → absent b ∧ cycleAt j ≠ 0
    let polling := fun (i : Nat) (a : Byte) => { g with
      sending := some ⟨a, .poll⟩, exchange := none, cursor := (g.cursor + i + 1) % g.poll.length
      cycle := (g.cycle + (g.cursor + i + 1) / g.poll.length) % 8 }
    (∀ a, g.sending = some ⟨a, .poll⟩ →
      leaves (.fieldFrameSent seg) { g with sending := none, exchange := some ⟨a, .poll⟩ })
    ∧ (∀ a tone d k, g.sending = some ⟨a, .bell tone d k⟩ →
      leaves (.fieldFrameSent seg) { g with sending := none, exchange := some ⟨a, .bell k⟩ })
    ∧ (∀ f f' pre post, g.sending = some f → 2 ≤ outputClass f → g.exchange = none → g.queue = pre ++ f' :: post →
        (∀ x ∈ pre, outputClass f' < outputClass x) → (∀ x ∈ post, outputClass f' ≤ outputClass x) →
        1 ≤ outputClass f' →
        leaves (.fieldFrameSent seg) { g with sending := some f', exchange := none, queue := pre ++ post })
    ∧ (∀ f, g.sending = some f → 2 ≤ outputClass f → g.queue = [] → g.poll = [] →
        leaves (.fieldFrameSent seg) { g with sending := none, exchange := none })
    ∧ (∀ f i a, g.sending = some f → 2 ≤ outputClass f → pollsNext i a →
        leaves (.fieldFrameSent seg) (polling i a))
    ∧ (∀ i a b, g.sending = none → g.exchange = some ⟨b, .poll⟩ → classify s seg b = none → pollsNext i a →
        leaves (.exchangeMiss seg) (polling i a))
    ∧ (g.sending = none → exec (.fieldFrameSent seg) s = .next s)
    ∧ (∀ f fs, g.outside = f :: fs → g.queue.length < 16 → g.sending.isSome = true ∨ g.exchange.isSome = true →
        2 ≤ outputClass f →
        leaves (.outputQueueAdmit seg) { g with outside := fs, queue := g.queue ++ [f] })
    ∧ (∀ f fs c r x y, g.outside = f :: fs → g.queue.length < 16 → g.sending.isSome = true ∨ g.exchange.isSome = true →
        outputClass f = 1 → (∀ h ∈ g.queue, outputClass h = 1 → h.dest ≠ f.dest) →
        s.bell.current = some c → c.ringing = some r → r.toHand = [(x, y)] → r.reported ≤ r.handed →
        ∃ t, exec (.outputQueueAdmit seg) s = .next t
          ∧ segmentAt t seg = { g with outside := fs, queue := g.queue ++ [f] }
          ∧ (∀ k, k ≠ seg → segmentAt t k = segmentAt s k)
          ∧ t.bell = { s.bell with current := some { c with
              ringing := some { r with toHand := [], handed := r.handed + 1 } } }
          ∧ { t with line := { t.line with segments := s.line.segments }, bell := s.bell } = s)
    ∧ (g.outside = [] ∨ 16 ≤ g.queue.length → exec (.outputQueueAdmit seg) s = .next s)

/-! ### The gateway -/

/-- READY, GATEWAY_OTHER_FRAME and GATEWAY_FRAME_SENT (R134 to R136): the credit limit is the credit, held to 8, and
where the window is OPEN and the new limit has room the oldest eligible record is offered, here one record; where no
offer may be made nothing else changes; a frame of another kind is taken from the port and has no effect (the model's
reading, log 12); a frame that meets one still held is an overrun; and the port sends in the order handed. That
GATEWAY_FRAME_SENT with no frame being sent, its step not being enabled, changes nothing is the model's choice (log
1). -/
def Obligations.GatewayPortServes : Prop :=
  ∀ s : State, s.office.powered = true →
    (∀ src b, s.line.gwHeld = none → ∃ t, exec (.ready src [b]) s = .next t
      ∧ t.msg.creditLimit = min 8 b.toNat
      ∧ (noOffer s (min 8 b.toNat) → t = { s with msg := { s.msg with creditLimit := min 8 b.toNat } })
      ∧ (∀ pre post n c, oneOffer s (min 8 b.toNat) pre post n c → offerMade (min 8 b.toNat) pre post n c s t)
      ∧ t.roll = s.roll ∧ t.sched = s.sched ∧ t.bell = s.bell ∧ t.gate = s.gate ∧ t.reg = s.reg ∧ t.office = s.office)
    ∧ (∀ src kind payload, s.line.gwHeld = none → exec (.gatewayOtherFrame src kind payload) s = .next s)
    ∧ (∀ src payload x, s.line.gwHeld = some x → ∃ t, exec (.parentReport src payload) s = .next t
        ∧ (errorsAt t .gateway).overrun = min 255 ((errorsAt s .gateway).overrun + 1)
        ∧ t.roll = s.roll ∧ t.msg = s.msg ∧ t.line.gwSending = s.line.gwSending)
    ∧ (∀ f, s.line.gwSending = some f → exec .gatewayFrameSent s = .next { s with line := { s.line with
        gwSending := s.line.gwWaiting.head?, gwWaiting := s.line.gwWaiting.drop 1 } })
    ∧ (s.line.gwSending = none → exec .gatewayFrameSent s = .next s)

/-- NOT_BEFORE_REACHED (R134, R135): with the window OPEN, no walk running, and credit left, the oldest QUEUED record
whose not-before has come is offered to the contact at its position, here one record; the records before and behind it
stand. -/
def Obligations.OfferIsMade : Prop :=
  ∀ (s : State) (pre post : List Notice) (n : Notice) (c : Contact), s.office.powered = true →
    oneOffer s s.msg.creditLimit pre post n c → ∃ t, exec (.notBeforeReached n.number) s = .next t
      ∧ offerMade s.msg.creditLimit pre post n c s t

/-- OUTCOME and OUTCOME_TIMEOUT (R133, R137 to R140), with the notice window closed, for the record the outcome names
(that the outcome timer of a record back in QUEUED holds 0 is the model's choice, log 16):
DELIVERED lets it leave; NO_ANSWER or a timer at 0 seats it at the family's next notify contact after the retry gap,
or lets it leave when there is none; BAD_CONTACT adds an alert. A WITHDRAWN_PENDING record leaves at any outcome or
timer at 0, DELIVERED or WITHDRAWN, and a WITHDRAWN one clears the done flags of its listed pupils that are not flagged
(R132, R133). That an outcome, and OUTCOME_TIMEOUT, that names no record with the gateway changes nothing, the step not
being enabled, is the model's choice (log 1). -/
def Obligations.OutcomesApply : Prop :=
  ∀ (s : State) (pre post : List Notice) (n : Notice) (src b1 b2 b3 b4 : Byte), s.office.powered = true →
    s.line.gwHeld = none → s.msg.windowOpen = false → s.msg.walk = .idle →
    let number := b1.toNat * 256 + b2.toNat
    let frame := Instr.outcome src [b1, b2, b3, b4]
    let offered := s.msg.notices = pre ++ n :: post ∧ n ∉ pre ∧ n.state = .offered
      ∧ ∀ x ∈ pre, x.number ≠ n.number
    let pending := s.msg.notices = pre ++ n :: post ∧ n ∉ pre ∧ n.state = .withdrawnPending
      ∧ (∀ x ∈ pre, x.number ≠ n.number) ∧ RollOrdered s
    let leaves := fun (t : State) (reports : Nat) => t.msg.notices = pre ++ post
      ∧ t.office.reportNumber = (s.office.reportNumber + reports) % 65536
      ∧ t.sched = s.sched ∧ t.bell = s.bell ∧ t.gate = s.gate ∧ t.reg = s.reg ∧ sameControl s t
    let names := n.number = number ∧ n.attempts = b3.toNat
    let frees := fun t : State => t.roll = s.roll ∧ t.sched = s.sched ∧ t.bell = s.bell ∧ t.gate = s.gate
      ∧ t.reg = s.reg ∧ sameControl s t ∧ t.line.segments = s.line.segments
    let reseated := fun (t : State) (i : Nat) => t.msg.notices = pre ++ { n with
        position := i, state := .queued, timer := 0
        notBefore := s.sched.second + s.office.params.retryGap } :: post
    (offered → names → b4 = 0 → ∃ t, exec frame s = .next t ∧ frees t ∧ t.msg.notices = pre ++ post
        ∧ t.office.reportNumber = (s.office.reportNumber + 1) % 65536)
    ∧ (∀ i, offered → names → nextNotify (contactsOf s n.family) n.position = some i →
        (b4 = 1 → ∃ t, exec frame s = .next t ∧ frees t ∧ reseated t i ∧ t.office = s.office)
        ∧ (b4 = 2 → n.lastOffered.isSome = true → ∃ t, exec frame s = .next t ∧ frees t ∧ reseated t i
            ∧ t.office.reportNumber = (s.office.reportNumber + 1) % 65536))
    ∧ (offered → names → nextNotify (contactsOf s n.family) n.position = none → b4 = 1 →
        ∃ t, exec frame s = .next t ∧ frees t ∧ t.msg.notices = pre ++ post
          ∧ t.office.reportNumber = (s.office.reportNumber + 2) % 65536)
    ∧ (∀ i, offered → n.timer = 0 → nextNotify (contactsOf s n.family) n.position = some i →
        ∃ t, exec (.outcomeTimeout n.number) s = .next t ∧ frees t ∧ reseated t i ∧ t.office = s.office)
    ∧ (pending → names →
        (b4 = 0 → ∃ t, exec frame s = .next t ∧ leaves t 1 ∧ t.roll = s.roll)
        ∧ (b4 = 1 → ∃ t, exec frame s = .next t ∧ leaves t 1 ∧ doneCleared n s t)
        ∧ (b4 = 2 → n.lastOffered.isSome = true → ∃ t, exec frame s = .next t ∧ leaves t 2 ∧ doneCleared n s t))
    ∧ (pending → n.timer = 0 →
        ∃ t, exec (.outcomeTimeout n.number) s = .next t ∧ leaves t 1 ∧ doneCleared n s t)
    ∧ ((∀ x ∈ s.msg.notices, x.number = number → x.state = .queued ∨ x.attempts ≠ b3.toNat) →
        exec frame s = .next s)
    ∧ ((∀ x ∈ s.msg.notices, x.number = number → x.state = .queued ∨ x.timer ≠ 0) →
        exec (.outcomeTimeout number) s = .next s)

/-- PARENT_REPORT (R111 to R118, R175), on a free gateway line with the notice window closed: a malformed report and
one that comes while writers are held off change nothing; an unmatched one raises an alert; and a matched one excuses
its days and sessions, its entry standing in the list where R115 places it, and where they cover today its sessions'
marks meet an EXCUSE request, the reply carrying their codes. Each is replied to, and a reply that carries no range
repeats the report's sessions, where its payload holds them; that the sessions, and the pupil number, are absent where a
BUSY or MALFORMED payload cannot be read is the model's choice (log 15). -/
def Obligations.ParentReportsAreReplied : Prop :=
  ∀ (s : State) (src : Byte) (payload : List Byte), s.office.powered = true → s.line.gwHeld = none →
    s.line.gwSending = none → s.msg.windowOpen = false →
    let replies := fun (t : State) (r : ParentReply) => exec (.parentReport src payload) s = .next t
      ∧ t.line.gwSending = some (.parentReply r) ∧ t.sched = s.sched ∧ t.bell = s.bell ∧ t.gate = s.gate
      ∧ t.reg = s.reg ∧ sameControl s t
    let unranged := fun r : ParentReply => r.first = none ∧ r.last = none ∧ r.applied = false ∧ r.amCode = none
      ∧ r.pmCode = none
    (writersHeld s = true ∨ s.sched.clock = .unset → ∃ t r, replies t r ∧ r.status = .busy ∧ unranged r
      ∧ r.sessions = reportSessions payload ∧ t.roll = s.roll ∧ t.msg = s.msg ∧ t.office = s.office)
    ∧ (writersHeld s = false → s.sched.clock = .set → decodeParentReport payload = none →
      ∃ t r, replies t r ∧ r.status = .malformed ∧ unranged r ∧ r.sessions = reportSessions payload
        ∧ t.roll = s.roll ∧ t.msg = s.msg ∧ t.office = s.office)
    ∧ (∀ p why, writersHeld s = false → s.sched.clock = .set → decodeParentReport payload = some p →
      unmatchedCause s p = some why → ∃ t r, replies t r ∧ r.status = .notMatched ∧ unranged r
        ∧ r.pupil = some p.pupil ∧ r.sessions = some p.sessions ∧ t.roll = s.roll ∧ t.msg = s.msg
        ∧ t.office.reportNumber = (s.office.reportNumber + 1) % 65536)
    ∧ ∀ p slot e, writersHeld s = false → s.sched.clock = .set → ExcusesDisjoint s →
      decodeParentReport payload = some p → unmatchedCause s p = none → findPupil s p.pupil = some (slot, e) →
      let d1 := s.sched.day + min 14 p.offset
      let d2 := min 365 (d1 + max 1 (min 10 p.count) - 1)
      let new : Excuse := { slot := slot, first := d1, last := d2, sessions := p.sessions, reason := p.reason
                            source := .parent }
      (∀ after, excuseInserted new s.roll.excuses after →
      let room := excuseRoom slot s.roll.excuses after
      (d1 ≤ 365 → room → ∃ t r, replies t r ∧ r.status = .accepted ∧ r.pupil = some p.pupil ∧ r.first = some d1
          ∧ r.last = some d2 ∧ r.sessions = some p.sessions ∧ t.roll.excuses = after
          ∧ (∀ k d x, excusedBy t.roll.excuses k d x =
              if k = slot ∧ d1 ≤ d ∧ d ≤ d2 ∧ hasSession p.sessions x = true then some p.reason
              else excusedBy s.roll.excuses k d x)
          ∧ (RollOrdered s → todayExcused slot d1 d2 p.sessions e s t ∧ otherPupilsStand slot s t
              ∧ (r.applied = true ↔ d1 ≤ s.sched.day ∧ s.sched.day ≤ d2 ∧ e.recordDay = s.sched.day)
              ∧ r.amCode = (if r.applied = true ∧ hasSession p.sessions .am = true
                  then some (markAt t slot .am).code else none)
              ∧ r.pmCode = (if r.applied = true ∧ hasSession p.sessions .pm = true
                  then some (markAt t slot .pm).code else none)))
      ∧ (d1 ≤ 365 → ¬room → ∃ t r, replies t r ∧ r.status = .full ∧ unranged r ∧ r.pupil = some p.pupil
          ∧ r.sessions = some p.sessions ∧ t.roll = s.roll
          ∧ t.office.reportNumber = (s.office.reportNumber + 1) % 65536))
      ∧ (365 < d1 → ∃ t r, replies t r ∧ r.status = .accepted ∧ unranged r ∧ r.pupil = some p.pupil
          ∧ r.sessions = some p.sessions ∧ t.roll = s.roll ∧ t.office = s.office)

/-! ### The uplink and power -/

/-- UPLINK_FRAME_SENT (R159, R161): after a report the oldest report is sent; after a reply the agent is IDLE and takes
the request held; and UNKNOWN_REQUEST (R160): a frame that is no request, or has no kind or an unknown one, is answered
BAD_ARG. -/
def Obligations.UplinkTakesAndSends : Prop :=
  ∀ s : State, s.office.powered = true →
    (∀ x r rs, s.line.upSending = some (.report x) → s.office.reply = none → s.office.reports = r :: rs →
      exec .uplinkFrameSent s = .next { s with
        line := { s.line with upSending := some (.report r) }, office := { s.office with reports := rs } })
    ∧ (∀ x y, s.line.upSending = some (.report x) → s.office.reply = some y →
      exec .uplinkFrameSent s = .next { s with line := { s.line with upSending := some (.reply y) } })
    ∧ (∀ x, s.line.upSending = some (.report x) → s.office.reply = none → s.office.reports = [] →
      exec .uplinkFrameSent s = .next { s with line := { s.line with upSending := none } })
    ∧ (∀ x, s.line.upSending = some (.reply x) → s.line.upHeld = none → s.office.reports = [] →
      exec .uplinkFrameSent s = .next { s with
        line := { s.line with upSending := none }, office := { s.office with agent := .idle, reply := none } })
    ∧ (∀ x h r, s.line.upSending = some (.reply x) → s.line.upHeld = some ⟨h, .request r⟩ → s.office.reports = [] →
      exec .uplinkFrameSent s = exec (commandOf h r) { s with
        line := { s.line with upSending := none, upHeld := none }
        office := { s.office with agent := .idle, reply := none } })
    ∧ (∀ (h : UpHeader) (r : Request), s.office.agent ≠ .idle → s.line.upHeld = none →
      exec (commandOf h r) s = .next { s with line := { s.line with upHeld := some ⟨h, .request r⟩ } })
    ∧ ∀ (h : UpHeader) (kind : Byte) (payload : List Byte) (code : Option Nat), s.office.agent = .idle →
      (kind ≠ 0x0F ∧ code = none) ∨ (kind = 0x0F ∧ payload = [] ∧ code = none)
        ∨ (kind = 0x0F ∧ ∃ b rest, payload = b :: rest ∧ 34 ≤ b.toNat ∧ code = some b.toNat) →
      let reply : Reply := { tag := h.tag, request := code, status := .badArg, data := .none }
      exec (.unknownRequest h kind payload) s = .next { s with
        office := { s.office with agent := .replying, reply := some reply }
        line := { s.line with upSending := some (s.line.upSending.getD (.reply reply)) } }

/-- POWER_FAIL, POWER_UP and BACKUP_LOW (R60, R168 to R170): frames being sent are cut and the relays open, and all
else is kept; power returns to a retained restart when the retention-valid flag is set, with its catch-up (R172,
R173), and to a cold start when it is clear; and a low backup supply clears the flag. That POWER_UP on main power, its
step not being enabled, changes nothing is the model's choice (log 1), and so are what BACKUP_LOW carries and how the
flag is set at a cold start (log 17), the order by gate of the restart's REFERRAL_EXPIRED movements (log 21), the
day-end notice in the step that starts a settlement (log 24), and the outcome timer 0 of a record back in QUEUED
(log 16). -/
def Obligations.PowerFailsAndReturns : Prop :=
  ∀ s : State,
    (s.office.powered = true → ∃ t, exec .powerFail s = .next t ∧ t.office = { s.office with powered := false }
      ∧ (∀ r, r < 2 → relayAt t r = { relayAt s r with position := .opened })
      ∧ t.line.upSending = none ∧ t.line.gwSending = none
      ∧ (∀ g, g < 4 → segmentAt t g = { segmentAt s g with sending := none })
      ∧ { t with
          office := s.office, bell := { t.bell with relays := s.bell.relays }
          line := { t.line with
            upSending := s.line.upSending, gwSending := s.line.gwSending, segments := s.line.segments } } = s)
    ∧ (s.office.powered = false → s.office.retentionValid = false → exec .powerUp s = .next { State.reset with
        office := { State.reset.office with backupLow := s.office.backupLow, retentionValid := !s.office.backupLow }
        choices := s.choices, pending := s.pending })
    ∧ (s.office.powered = false → s.office.retentionValid = true → ∃ t, exec .powerUp s = .next t
        ∧ restartsAndCatchesUp s t
        ∧ t.office.powered = true ∧ t.office.retentionValid = true ∧ t.office.agent = .idle
        ∧ t.bell.current = none ∧ t.bell.waiting = [] ∧ (∀ z, soundingAt t z = 0)
        ∧ (∀ g, g < 8 → (gateAt t g).referral = none ∧ (gateAt t g).memory = none)
        ∧ (∀ n, n < 48 → (stationAt t n).presence = .present ∧ (stationAt t n).misses = 0)
        ∧ (∀ n, (entryAt t n).map (fun e => (e.pupil, e.day.marks, e.day.onSite, e.term))
            = (entryAt s n).map fun e => (e.pupil, e.day.marks, e.day.onSite, e.term))
        ∧ t.roll.families = s.roll.families ∧ t.roll.excuses = s.roll.excuses
        ∧ t.sched.day = s.sched.day ∧ t.sched.second = s.sched.second ∧ t.sched.clock = s.sched.clock
        ∧ t.office.params = s.office.params ∧ t.msg.creditLimit = 0)
    ∧ (s.office.powered = true → exec .powerUp s = .next s)
    ∧ (∀ below, exec (.backupLow below) s = .next { s with office := { s.office with
        backupLow := below, retentionValid := s.office.retentionValid && !below } })
end

