-- ==== Sys2Proof/Laws/Excuses.lean ====
section
/-! SUPPORT. The excuse table: the trim and the insertion of the model are what the terms of the statements say. -/

namespace Sys2Proof.Machine

open Sys2Proof

theorem sessionsLeft_eq (m n : Sessions) : sessionsLeft m n = sessionsOutside m n := by
  cases m <;> cases n <;> rfl

theorem piecesOf_eq (d1 d2 : Nat) (n : Sessions) (e : Excuse) : piecesOf d1 d2 n e = excusePieces d1 d2 n e := by
  unfold piecesOf excusePieces leftPiece middlePiece rightPiece
  rw [sessionsLeft_eq]
  cases sessionsOutside e.sessions n <;> rfl

theorem rangeMeets_eq (slot d1 d2 : Nat) (n : Sessions) (e : Excuse) :
    rangeMeets slot d1 d2 n e = excuseMeets slot d1 d2 n e := by
  simp [rangeMeets, excuseMeets, sessionsMeet]

theorem trimmedBy_eq (slot d1 d2 : Nat) (n : Sessions) (l : List Excuse) :
    trimmedBy slot d1 d2 n l = trimExcuses slot d1 d2 n l := by
  simp only [trimmedBy, trimExcuses, rangeMeets_eq, piecesOf_eq]

theorem rangeTouches_eq (x e : Excuse) : rangeTouches x e = excuseTouches x e := rfl

theorem replaceFirst_append (p : Excuse → Bool) (x e : Excuse) (pre post : List Excuse)
    (hp : ∀ y ∈ pre, p y = false) (he : p e = true) :
    replaceFirst p x (pre ++ e :: post) = pre ++ x :: post.filter fun y => !p y := by
  induction pre with
  | nil => simp [replaceFirst, he]
  | cons a t ih => simp_all [replaceFirst]

/-- The least first day of a list and a bound. -/
theorem foldl_min_first (l : List Excuse) (b : Nat) :
    let m := l.foldl (fun a e => min a e.first) b
    m ≤ b ∧ (∀ y ∈ l, m ≤ y.first) ∧ (m = b ∨ ∃ y ∈ l, m = y.first) := by
  induction l generalizing b with
  | nil => simp
  | cons a t ih =>
    obtain ⟨h1, h2, h3⟩ := ih (min b a.first)
    simp only [List.foldl_cons, List.mem_cons, forall_eq_or_imp, exists_eq_or_imp]
    refine ⟨by omega, ⟨by omega, h2⟩, ?_⟩
    rcases h3 with h | h
    · omega
    · exact .inr (.inr h)

/-- The greatest last day of a list and a bound. -/
theorem foldl_max_last (l : List Excuse) (b : Nat) :
    let m := l.foldl (fun a e => max a e.last) b
    b ≤ m ∧ (∀ y ∈ l, y.last ≤ m) ∧ (m = b ∨ ∃ y ∈ l, m = y.last) := by
  induction l generalizing b with
  | nil => simp
  | cons a t ih =>
    obtain ⟨h1, h2, h3⟩ := ih (max b a.last)
    simp only [List.foldl_cons, List.mem_cons, forall_eq_or_imp, exists_eq_or_imp]
    refine ⟨by omega, ⟨by omega, h2⟩, ?_⟩
    rcases h3 with h | h
    · omega
    · exact .inr (.inr h)

/-- What the insertion of a new entry makes of a list is what R114 and R115 say. -/
theorem insertedExcuses_inserted (x : Excuse) (l : List Excuse) : excuseInserted x l (insertedExcuses x l) := by
  simp only [excuseInserted, insertedExcuses, joinExcuse, trimmedBy_eq, rangeTouches_eq]
  refine ⟨fun h => ?_, fun pre e post hl he hp => ⟨mergedExcuse x (pre ++ e :: post), ?_⟩⟩
  · rw [if_neg (by simpa using h)]
  · rw [hl, if_pos (by simp [he]), replaceFirst_append _ _ _ _ _ hp he]
    have ⟨a1, a2, a3⟩ := foldl_min_first ((pre ++ e :: post).filter (excuseTouches x)) x.first
    have ⟨b1, b2, b3⟩ := foldl_max_last ((pre ++ e :: post).filter (excuseTouches x)) x.last
    simp only [List.mem_filter] at a2 a3 b2 b3
    exact ⟨rfl, rfl, a1, b1, fun y hy ht => ⟨a2 y ⟨hy, ht⟩, b2 y ⟨hy, ht⟩⟩,
      a3.imp_right fun ⟨y, hy, h⟩ => ⟨y, hy.1, hy.2, h⟩, b3.imp_right fun ⟨y, hy, h⟩ => ⟨y, hy.1, hy.2, h⟩⟩

end Sys2Proof.Machine
end

