-- ==== Sys2Proof/Laws/Notices.lean ====
section
/-! SUPPORT. The minutes late of a notice record (R124), which stay within their range (R175). -/

namespace Sys2Proof.Machine

open Sys2Proof

theorem foldl_max_spec {α : Type} (f : α → Nat) (l : List α) (a : Nat) :
    let m := l.foldl (fun acc x => max acc (f x)) a
    a ≤ m ∧ (∀ x ∈ l, f x ≤ m) ∧ (m = a ∨ ∃ x ∈ l, f x = m) := by
  induction l generalizing a with
  | nil => simp
  | cons y l ih =>
    obtain ⟨h1, h2, h3⟩ := ih (max a (f y))
    simp only [List.foldl_cons, List.mem_cons, forall_eq_or_imp, exists_eq_or_imp]
    refine ⟨by omega, ⟨by omega, h2⟩, ?_⟩
    rcases h3 with h | h
    · rcases Nat.le_total (f y) a with h' | h'
      · left; rw [h]; omega
      · right; left; rw [h]; omega
    · exact .inr (.inr h)

/-- The largest minutes of a list bound those of every listed pupil on the roll, and are one's own or 0. -/
theorem mostMinutes_spec (s : State) (ps : List (Nat × Bool)) :
    (∀ p ∈ ps, ∀ slot e, findPupil s p.1 = some (slot, e) → e.day.minutesLate ≤ mostMinutes s ps)
      ∧ (mostMinutes s ps = 0
        ∨ ∃ p ∈ ps, ∃ slot e, findPupil s p.1 = some (slot, e) ∧ e.day.minutesLate = mostMinutes s ps) := by
  obtain ⟨-, h2, h3⟩ :=
    foldl_max_spec (fun p : Nat × Bool => ((findPupil s p.1).map fun x => x.2.day.minutesLate).getD 0) ps 0
  refine ⟨fun p hp slot e he => by simpa [he, mostMinutes] using h2 p hp, ?_⟩
  rcases h3 with h | ⟨p, hp, h⟩
  · exact .inl h
  · cases he : findPupil s p.1 with
    | none => left; rw [he] at h; exact h.symm
    | some x => exact .inr ⟨p, hp, x.1, x.2, he, by simpa [he, mostMinutes] using h⟩

/-- A record's minutes brought up to date stay within 1 to 240 where the day's minutes of the roll are at most 240. -/
theorem noticeMinutes_range (s : State) (n : Notice) (hr : ∀ p x, findPupil s p = some x → x.2.day.minutesLate ≤ 240)
    (hn : ∀ m, n.minutes = some m → 1 ≤ m ∧ m ≤ 240) (m : Nat) (h : noticeMinutes s n = some m) : 1 ≤ m ∧ m ≤ 240 := by
  unfold noticeMinutes at h
  split at h
  · split at h
    · exact hn m h
    · rename_i h0
      cases h
      obtain h | ⟨p, -, slot, e, he, h⟩ := (mostMinutes_spec s n.pupils).2
      · exact absurd h h0
      · have : e.day.minutesLate ≤ 240 := hr p.1 (slot, e) he
        omega
  all_goals exact hn m h

end Sys2Proof.Machine
end

