-- ==== Sys2Proof/Laws/State.lean ====
section
/-! SUPPORT. What each update of the state leaves in each field, so that no proof unfolds a record update. -/

namespace Sys2Proof.Machine

variable (s : State)

/-! ### modLine -/

@[simp] theorem modLine_line (f : LineUnit → LineUnit) : (s.modLine f).line = f s.line := rfl

@[simp] theorem modLine_roll (f : LineUnit → LineUnit) : (s.modLine f).roll = s.roll := rfl

@[simp] theorem modLine_sched (f : LineUnit → LineUnit) : (s.modLine f).sched = s.sched := rfl

@[simp] theorem modLine_bell (f : LineUnit → LineUnit) : (s.modLine f).bell = s.bell := rfl

@[simp] theorem modLine_gate (f : LineUnit → LineUnit) : (s.modLine f).gate = s.gate := rfl

@[simp] theorem modLine_reg (f : LineUnit → LineUnit) : (s.modLine f).reg = s.reg := rfl

@[simp] theorem modLine_msg (f : LineUnit → LineUnit) : (s.modLine f).msg = s.msg := rfl

@[simp] theorem modLine_office (f : LineUnit → LineUnit) : (s.modLine f).office = s.office := rfl

@[simp] theorem modLine_choices (f : LineUnit → LineUnit) : (s.modLine f).choices = s.choices := rfl

@[simp] theorem modLine_pending (f : LineUnit → LineUnit) : (s.modLine f).pending = s.pending := rfl

@[simp] theorem modLine_modLine (f g : LineUnit → LineUnit) : (s.modLine f).modLine g = s.modLine (g ∘ f) := rfl

/-! ### modRoll -/

@[simp] theorem modRoll_line (f : RollStore → RollStore) : (s.modRoll f).line = s.line := rfl

@[simp] theorem modRoll_roll (f : RollStore → RollStore) : (s.modRoll f).roll = f s.roll := rfl

@[simp] theorem modRoll_sched (f : RollStore → RollStore) : (s.modRoll f).sched = s.sched := rfl

@[simp] theorem modRoll_bell (f : RollStore → RollStore) : (s.modRoll f).bell = s.bell := rfl

@[simp] theorem modRoll_gate (f : RollStore → RollStore) : (s.modRoll f).gate = s.gate := rfl

@[simp] theorem modRoll_reg (f : RollStore → RollStore) : (s.modRoll f).reg = s.reg := rfl

@[simp] theorem modRoll_msg (f : RollStore → RollStore) : (s.modRoll f).msg = s.msg := rfl

@[simp] theorem modRoll_office (f : RollStore → RollStore) : (s.modRoll f).office = s.office := rfl

@[simp] theorem modRoll_choices (f : RollStore → RollStore) : (s.modRoll f).choices = s.choices := rfl

@[simp] theorem modRoll_pending (f : RollStore → RollStore) : (s.modRoll f).pending = s.pending := rfl

@[simp] theorem modRoll_modRoll (f g : RollStore → RollStore) : (s.modRoll f).modRoll g = s.modRoll (g ∘ f) := rfl

/-! ### modSched -/

@[simp] theorem modSched_line (f : ScheduleUnit → ScheduleUnit) : (s.modSched f).line = s.line := rfl

@[simp] theorem modSched_roll (f : ScheduleUnit → ScheduleUnit) : (s.modSched f).roll = s.roll := rfl

@[simp] theorem modSched_sched (f : ScheduleUnit → ScheduleUnit) : (s.modSched f).sched = f s.sched := rfl

@[simp] theorem modSched_bell (f : ScheduleUnit → ScheduleUnit) : (s.modSched f).bell = s.bell := rfl

@[simp] theorem modSched_gate (f : ScheduleUnit → ScheduleUnit) : (s.modSched f).gate = s.gate := rfl

@[simp] theorem modSched_reg (f : ScheduleUnit → ScheduleUnit) : (s.modSched f).reg = s.reg := rfl

@[simp] theorem modSched_msg (f : ScheduleUnit → ScheduleUnit) : (s.modSched f).msg = s.msg := rfl

@[simp] theorem modSched_office (f : ScheduleUnit → ScheduleUnit) : (s.modSched f).office = s.office := rfl

@[simp] theorem modSched_choices (f : ScheduleUnit → ScheduleUnit) : (s.modSched f).choices = s.choices := rfl

@[simp] theorem modSched_pending (f : ScheduleUnit → ScheduleUnit) : (s.modSched f).pending = s.pending := rfl

@[simp] theorem modSched_modSched (f g : ScheduleUnit → ScheduleUnit) : (s.modSched f).modSched g = s.modSched (g ∘ f) := rfl

/-! ### modBell -/

@[simp] theorem modBell_line (f : BellUnit → BellUnit) : (s.modBell f).line = s.line := rfl

@[simp] theorem modBell_roll (f : BellUnit → BellUnit) : (s.modBell f).roll = s.roll := rfl

@[simp] theorem modBell_sched (f : BellUnit → BellUnit) : (s.modBell f).sched = s.sched := rfl

@[simp] theorem modBell_bell (f : BellUnit → BellUnit) : (s.modBell f).bell = f s.bell := rfl

@[simp] theorem modBell_gate (f : BellUnit → BellUnit) : (s.modBell f).gate = s.gate := rfl

@[simp] theorem modBell_reg (f : BellUnit → BellUnit) : (s.modBell f).reg = s.reg := rfl

@[simp] theorem modBell_msg (f : BellUnit → BellUnit) : (s.modBell f).msg = s.msg := rfl

@[simp] theorem modBell_office (f : BellUnit → BellUnit) : (s.modBell f).office = s.office := rfl

@[simp] theorem modBell_choices (f : BellUnit → BellUnit) : (s.modBell f).choices = s.choices := rfl

@[simp] theorem modBell_pending (f : BellUnit → BellUnit) : (s.modBell f).pending = s.pending := rfl

@[simp] theorem modBell_modBell (f g : BellUnit → BellUnit) : (s.modBell f).modBell g = s.modBell (g ∘ f) := rfl

/-! ### modGate -/

@[simp] theorem modGate_line (f : GateUnit → GateUnit) : (s.modGate f).line = s.line := rfl

@[simp] theorem modGate_roll (f : GateUnit → GateUnit) : (s.modGate f).roll = s.roll := rfl

@[simp] theorem modGate_sched (f : GateUnit → GateUnit) : (s.modGate f).sched = s.sched := rfl

@[simp] theorem modGate_bell (f : GateUnit → GateUnit) : (s.modGate f).bell = s.bell := rfl

@[simp] theorem modGate_gate (f : GateUnit → GateUnit) : (s.modGate f).gate = f s.gate := rfl

@[simp] theorem modGate_reg (f : GateUnit → GateUnit) : (s.modGate f).reg = s.reg := rfl

@[simp] theorem modGate_msg (f : GateUnit → GateUnit) : (s.modGate f).msg = s.msg := rfl

@[simp] theorem modGate_office (f : GateUnit → GateUnit) : (s.modGate f).office = s.office := rfl

@[simp] theorem modGate_choices (f : GateUnit → GateUnit) : (s.modGate f).choices = s.choices := rfl

@[simp] theorem modGate_pending (f : GateUnit → GateUnit) : (s.modGate f).pending = s.pending := rfl

@[simp] theorem modGate_modGate (f g : GateUnit → GateUnit) : (s.modGate f).modGate g = s.modGate (g ∘ f) := rfl

/-! ### modReg -/

@[simp] theorem modReg_line (f : RegisterUnit → RegisterUnit) : (s.modReg f).line = s.line := rfl

@[simp] theorem modReg_roll (f : RegisterUnit → RegisterUnit) : (s.modReg f).roll = s.roll := rfl

@[simp] theorem modReg_sched (f : RegisterUnit → RegisterUnit) : (s.modReg f).sched = s.sched := rfl

@[simp] theorem modReg_bell (f : RegisterUnit → RegisterUnit) : (s.modReg f).bell = s.bell := rfl

@[simp] theorem modReg_gate (f : RegisterUnit → RegisterUnit) : (s.modReg f).gate = s.gate := rfl

@[simp] theorem modReg_reg (f : RegisterUnit → RegisterUnit) : (s.modReg f).reg = f s.reg := rfl

@[simp] theorem modReg_msg (f : RegisterUnit → RegisterUnit) : (s.modReg f).msg = s.msg := rfl

@[simp] theorem modReg_office (f : RegisterUnit → RegisterUnit) : (s.modReg f).office = s.office := rfl

@[simp] theorem modReg_choices (f : RegisterUnit → RegisterUnit) : (s.modReg f).choices = s.choices := rfl

@[simp] theorem modReg_pending (f : RegisterUnit → RegisterUnit) : (s.modReg f).pending = s.pending := rfl

@[simp] theorem modReg_modReg (f g : RegisterUnit → RegisterUnit) : (s.modReg f).modReg g = s.modReg (g ∘ f) := rfl

/-! ### modMsg -/

@[simp] theorem modMsg_line (f : MessageUnit → MessageUnit) : (s.modMsg f).line = s.line := rfl

@[simp] theorem modMsg_roll (f : MessageUnit → MessageUnit) : (s.modMsg f).roll = s.roll := rfl

@[simp] theorem modMsg_sched (f : MessageUnit → MessageUnit) : (s.modMsg f).sched = s.sched := rfl

@[simp] theorem modMsg_bell (f : MessageUnit → MessageUnit) : (s.modMsg f).bell = s.bell := rfl

@[simp] theorem modMsg_gate (f : MessageUnit → MessageUnit) : (s.modMsg f).gate = s.gate := rfl

@[simp] theorem modMsg_reg (f : MessageUnit → MessageUnit) : (s.modMsg f).reg = s.reg := rfl

@[simp] theorem modMsg_msg (f : MessageUnit → MessageUnit) : (s.modMsg f).msg = f s.msg := rfl

@[simp] theorem modMsg_office (f : MessageUnit → MessageUnit) : (s.modMsg f).office = s.office := rfl

@[simp] theorem modMsg_choices (f : MessageUnit → MessageUnit) : (s.modMsg f).choices = s.choices := rfl

@[simp] theorem modMsg_pending (f : MessageUnit → MessageUnit) : (s.modMsg f).pending = s.pending := rfl

@[simp] theorem modMsg_modMsg (f g : MessageUnit → MessageUnit) : (s.modMsg f).modMsg g = s.modMsg (g ∘ f) := rfl

/-! ### modOffice -/

@[simp] theorem modOffice_line (f : OfficeAgent → OfficeAgent) : (s.modOffice f).line = s.line := rfl

@[simp] theorem modOffice_roll (f : OfficeAgent → OfficeAgent) : (s.modOffice f).roll = s.roll := rfl

@[simp] theorem modOffice_sched (f : OfficeAgent → OfficeAgent) : (s.modOffice f).sched = s.sched := rfl

@[simp] theorem modOffice_bell (f : OfficeAgent → OfficeAgent) : (s.modOffice f).bell = s.bell := rfl

@[simp] theorem modOffice_gate (f : OfficeAgent → OfficeAgent) : (s.modOffice f).gate = s.gate := rfl

@[simp] theorem modOffice_reg (f : OfficeAgent → OfficeAgent) : (s.modOffice f).reg = s.reg := rfl

@[simp] theorem modOffice_msg (f : OfficeAgent → OfficeAgent) : (s.modOffice f).msg = s.msg := rfl

@[simp] theorem modOffice_office (f : OfficeAgent → OfficeAgent) : (s.modOffice f).office = f s.office := rfl

@[simp] theorem modOffice_choices (f : OfficeAgent → OfficeAgent) : (s.modOffice f).choices = s.choices := rfl

@[simp] theorem modOffice_pending (f : OfficeAgent → OfficeAgent) : (s.modOffice f).pending = s.pending := rfl

@[simp] theorem modOffice_modOffice (f g : OfficeAgent → OfficeAgent) : (s.modOffice f).modOffice g = s.modOffice (g ∘ f) := rfl

/-! ### withPending and countChoice -/

@[simp] theorem withPending_line (l : List Instr) : (s.withPending l).line = s.line := rfl

@[simp] theorem withPending_roll (l : List Instr) : (s.withPending l).roll = s.roll := rfl

@[simp] theorem withPending_sched (l : List Instr) : (s.withPending l).sched = s.sched := rfl

@[simp] theorem withPending_bell (l : List Instr) : (s.withPending l).bell = s.bell := rfl

@[simp] theorem withPending_gate (l : List Instr) : (s.withPending l).gate = s.gate := rfl

@[simp] theorem withPending_reg (l : List Instr) : (s.withPending l).reg = s.reg := rfl

@[simp] theorem withPending_msg (l : List Instr) : (s.withPending l).msg = s.msg := rfl

@[simp] theorem withPending_office (l : List Instr) : (s.withPending l).office = s.office := rfl

@[simp] theorem withPending_choices (l : List Instr) : (s.withPending l).choices = s.choices := rfl

@[simp] theorem withPending_pending (l : List Instr) : (s.withPending l).pending = l := rfl

@[simp] theorem countChoice_line : s.countChoice.line = s.line := rfl

@[simp] theorem countChoice_roll : s.countChoice.roll = s.roll := rfl

@[simp] theorem countChoice_sched : s.countChoice.sched = s.sched := rfl

@[simp] theorem countChoice_bell : s.countChoice.bell = s.bell := rfl

@[simp] theorem countChoice_gate : s.countChoice.gate = s.gate := rfl

@[simp] theorem countChoice_reg : s.countChoice.reg = s.reg := rfl

@[simp] theorem countChoice_msg : s.countChoice.msg = s.msg := rfl

@[simp] theorem countChoice_office : s.countChoice.office = s.office := rfl

@[simp] theorem countChoice_choices : s.countChoice.choices = s.choices + 1 := rfl

@[simp] theorem countChoice_pending : s.countChoice.pending = s.pending := rfl

end Sys2Proof.Machine
end

