-- ==== Sys2Proof/Laws/Tables.lean ====
section
/-! SUPPORT. What reading a sparse table gives after each way of writing it, and that every way keeps the canonical
form. -/

namespace Sys2Proof.Machine

variable {α β : Type}

/-! ### Reading after writing -/

theorem tabFind_tabInsert (n m : Nat) (x : α) (t : Table α) :
    tabFind (tabInsert n x t) m = if m = n then some x else tabFind t m := by
  induction t with
  | nil => simp [tabInsert, tabFind]
  | cons p t ih =>
    obtain ⟨k, y⟩ := p
    simp only [tabInsert]
    split
    · simp [tabFind]
    · split
      · subst_vars; simp only [tabFind]; split <;> rfl
      · simp only [tabFind, ih]
        split
        · split
          · omega
          · rfl
        · rfl

theorem tabFind_tabErase (n m : Nat) (t : Table α) :
    tabFind (tabErase n t) m = if m = n then none else tabFind t m := by
  induction t with
  | nil => simp [tabErase, tabFind]
  | cons p t ih =>
    obtain ⟨k, y⟩ := p
    simp only [tabErase] at ih
    simp only [tabErase, List.filter_cons]
    split
    · rename_i h
      have hk : k ≠ n := by simpa using h
      simp only [tabFind, ih]
      split <;> split <;> first | omega | rfl
    · rename_i h
      have hk : k = n := by simpa using h
      rw [ih, hk]
      simp only [tabFind]
      split <;> simp_all

/-- A number that has been set reads as what it was set to; every other number reads as before. -/
theorem tabGet_tabSet [DecidableEq α] (d : α) (n m : Nat) (x : α) (t : Table α) :
    tabGet d (tabSet d n x t) m = if m = n then x else tabGet d t m := by
  simp only [tabGet, tabSet]
  split
  · rw [tabFind_tabErase]; split <;> simp_all
  · rw [tabFind_tabInsert]; split <;> simp

theorem tabFind_none_of_lt (t : Table α) (m : Nat) (h : ∀ p ∈ t, m < p.1) : tabFind t m = none := by
  induction t with
  | nil => rfl
  | cons p t ih =>
    have := h p (by simp)
    simp only [tabFind]
    rw [if_neg (by omega)]
    exact ih fun q hq => h q (by simp [hq])

/-- In a table in canonical form a listed record is what its number reads as. -/
theorem tabFind_of_mem {t : Table α} (h : tabSorted t) {p : Nat × α} (hp : p ∈ t) : tabFind t p.1 = some p.2 := by
  induction t with
  | nil => simp at hp
  | cons q t ih =>
    obtain ⟨k, y⟩ := q
    simp only [tabSorted, List.map_cons, List.pairwise_cons] at h
    rcases List.mem_cons.mp hp with rfl | hp
    · simp [tabFind]
    · have := h.1 p.1 (List.mem_map_of_mem (f := Prod.fst) hp)
      simp only [tabFind]
      rw [if_neg (by omega)]
      exact ih h.2 hp

/-- A record a number reads as is listed. -/
theorem mem_of_tabFind {t : Table α} {n : Nat} {x : α} (h : tabFind t n = some x) : (n, x) ∈ t := by
  induction t with
  | nil => simp [tabFind] at h
  | cons q t ih =>
    obtain ⟨k, y⟩ := q
    simp only [tabFind] at h
    split at h
    · subst_vars; simp_all
    · exact List.mem_cons_of_mem _ (ih h)

/-! ### The canonical form -/

theorem mem_tabInsert {n : Nat} {x : α} {t : Table α} {p : Nat × α} (h : p ∈ tabInsert n x t) :
    p = (n, x) ∨ p ∈ t := by
  induction t with
  | nil => simpa [tabInsert] using h
  | cons q t ih =>
    obtain ⟨k, y⟩ := q
    simp only [tabInsert] at h
    split at h
    · simpa using h
    · split at h
      · simp only [List.mem_cons] at h ⊢; tauto
      · simp only [List.mem_cons] at h ⊢
        rcases h with h | h
        · tauto
        · rcases ih h with h | h <;> tauto

theorem tabSorted_tabInsert (n : Nat) (x : α) {t : Table α} (h : tabSorted t) : tabSorted (tabInsert n x t) := by
  induction t with
  | nil => simp [tabInsert, tabSorted]
  | cons q t ih =>
    obtain ⟨k, y⟩ := q
    have hc := h
    simp only [tabSorted, List.map_cons, List.pairwise_cons] at h
    simp only [tabInsert]
    split
    · rename_i hn
      simp only [tabSorted, List.map_cons, List.pairwise_cons]
      refine ⟨?_, h⟩
      intro b hb
      rcases List.mem_cons.mp hb with rfl | hb
      · exact hn
      · exact hn.trans (h.1 b hb)
    · split
      · subst_vars; exact hc
      · simp only [tabSorted, List.map_cons, List.pairwise_cons]
        refine ⟨?_, ih h.2⟩
        intro b hb
        obtain ⟨p, hp, rfl⟩ := List.mem_map.mp hb
        rcases mem_tabInsert hp with rfl | hp
        · show k < n; omega
        · exact h.1 p.1 (List.mem_map_of_mem (f := Prod.fst) hp)

theorem tabSorted_tabErase (n : Nat) {t : Table α} (h : tabSorted t) : tabSorted (tabErase n t) :=
  h.sublist (List.Sublist.map _ List.filter_sublist)

theorem tabSorted_tabSet [DecidableEq α] (d : α) (n : Nat) (x : α) {t : Table α} (h : tabSorted t) :
    tabSorted (tabSet d n x t) := by
  unfold tabSet
  split
  · exact tabSorted_tabErase n h
  · exact tabSorted_tabInsert n x h

theorem tabSorted_mapSnd (f : Nat × α → β) {t : Table α} (h : tabSorted t) :
    tabSorted (t.map fun p => (p.1, f p)) := by
  simpa [tabSorted, Function.comp_def] using h

/-- Each number below `n` reads as the function's value at it, and every other as the default. -/
theorem tabGet_tabulate [DecidableEq α] (d : α) (n : Nat) (f : Nat → α) (m : Nat) :
    tabGet d (tabulate d n f) m = if m < n then f m else d := by
  have key : ∀ (a k : Nat),
      tabGet d ((List.range' a k).filterMap fun i => if f i = d then none else some (i, f i)) m
        = if a ≤ m ∧ m < a + k then f m else d := by
    intro a k
    induction k generalizing a with
    | zero =>
      rw [if_neg (by omega)]; rfl
    | succ k ih =>
      rw [List.range'_succ, List.filterMap_cons]
      by_cases hd : f a = d
      · simp only [hd, if_true]
        rw [ih]
        split <;> split <;> first | rfl | omega | skip
        · have : m = a := by omega
          rw [this, hd]
      · simp only [hd, if_false]
        by_cases hm : m = a
        · subst hm
          rw [if_pos (by omega)]
          simp [tabGet, tabFind]
        · have hr := ih (a + 1)
          simp only [tabGet, tabFind, hm, if_false] at hr ⊢
          rw [hr]
          split <;> split <;> first | rfl | omega
  have := key 0 n
  simpa [tabulate, List.range_eq_range'] using this

theorem tabSorted_tabulate [DecidableEq α] (d : α) (n : Nat) (f : Nat → α) : tabSorted (tabulate d n f) := by
  unfold tabSorted tabulate
  rw [List.map_filterMap]
  refine List.Pairwise.filterMap (R := (· < ·)) _ ?_ List.pairwise_lt_range
  intro a b hab x hx y hy
  have hx' : x = a := by
    by_cases h : f a = d <;> simp_all
  have hy' : y = b := by
    by_cases h : f b = d <;> simp_all
  omega

/-! ### The canonical form with a default -/

theorem tabWf_nil [DecidableEq α] (d : α) : tabWf d ([] : Table α) := ⟨List.Pairwise.nil, fun _ h => nomatch h⟩

theorem tabWf_tabErase [DecidableEq α] {d : α} (n : Nat) {t : Table α} (h : tabWf d t) : tabWf d (tabErase n t) :=
  ⟨tabSorted_tabErase n h.1, fun p hp => h.2 p (List.mem_filter.mp hp).1⟩

theorem tabWf_tabInsert [DecidableEq α] {d : α} (n : Nat) {x : α} {t : Table α} (h : tabWf d t) (hx : x ≠ d) :
    tabWf d (tabInsert n x t) := by
  refine ⟨tabSorted_tabInsert n x h.1, fun p hp => ?_⟩
  rcases mem_tabInsert hp with rfl | hp
  · exact hx
  · exact h.2 p hp

/-- Writing a record keeps the canonical form. -/
theorem tabWf_tabSet [DecidableEq α] {d : α} (n : Nat) (x : α) {t : Table α} (h : tabWf d t) :
    tabWf d (tabSet d n x t) := by
  unfold tabSet
  split
  · exact tabWf_tabErase n h
  · exact tabWf_tabInsert n h ‹_›

theorem tabWf_tabulate [DecidableEq α] (d : α) (n : Nat) (f : Nat → α) : tabWf d (tabulate d n f) := by
  refine ⟨tabSorted_tabulate d n f, fun p hp => ?_⟩
  obtain ⟨i, -, hi⟩ := List.mem_filterMap.mp hp
  split at hi
  · cases hi
  · rw [← Option.some.inj hi]; assumption

end Sys2Proof.Machine
end

