-- ==== Sys2Proof/Laws/Records.lean ====
section
/-! SUPPORT. What the shared operations do, each said once: single records read after they are written, the entry
update, the report queue, the uplink's choice, and the gateway port. -/

namespace Sys2Proof.Machine

open Sys2Proof

variable (s : State)

/-! ### Single records -/

theorem gateAt_setGateAt (g h : Nat) (x : Gate) : gateAt (setGateAt g x s) h = if h = g then x else gateAt s h :=
  tabGet_tabSet ..

theorem stationAt_setStationAt (n m : Nat) (x : Station) :
    stationAt (setStationAt n x s) m = if m = n then x else stationAt s m := tabGet_tabSet ..

theorem segmentAt_setSegmentAt (n m : Nat) (x : Segment) :
    segmentAt (setSegmentAt n x s) m = if m = n then x else segmentAt s m := tabGet_tabSet ..

theorem zoneAt_setZoneAt (n m : Nat) (x : ZoneRecord) :
    zoneAt (setZoneAt n x s) m = if m = n then x else zoneAt s m := tabGet_tabSet ..

theorem inputAt_setInputAt (n m : Nat) (x : ContactInput) :
    inputAt (setInputAt n x s) m = if m = n then x else inputAt s m := tabGet_tabSet ..

theorem lessonAt_setLessonAt (n m : Nat) (x : WindowState) :
    lessonAt (setLessonAt n x s) m = if m = n then x else lessonAt s m := tabGet_tabSet ..

theorem errorsAt_setErrorsAt (p : Port) (q : Port) (x : ErrorRecord) :
    errorsAt (setErrorsAt p x s) q = if portIndex q = portIndex p then x else errorsAt s q := tabGet_tabSet ..

theorem roomAt_setRoomAt (k slot room k' slot' : Nat) :
    roomAt (setRoomAt k slot room s) k' slot' = if k' = k ∧ slot' = slot then room else roomAt s k' slot' := by
  simp only [roomAt, setRoomAt, modReg_reg, tabGet_tabSet]
  split
  · subst_vars; rw [tabGet_tabSet]; simp
  · simp_all

/-! ### Entries of the roll -/

/-- An entry update changes the entry of its slot, when filled, and no other. -/
theorem entryAt_modEntry (slot n : Nat) (f : RollEntry → RollEntry) :
    entryAt (modEntry slot f s) n = if n = slot then (entryAt s slot).map f else entryAt s n := by
  cases h : entryAt s slot with
  | none => simp only [modEntry, h]; split <;> simp_all
  | some e =>
    have : modEntry slot f s = s.modRoll fun u => { u with roll := tabInsert slot (f e) u.roll } := by
      simp only [modEntry, h]
    rw [this]
    simp only [entryAt, modRoll_roll, tabFind_tabInsert, Option.map_some]

@[simp] theorem modEntry_line (slot : Nat) (f : RollEntry → RollEntry) : (modEntry slot f s).line = s.line := by
  unfold modEntry; split <;> rfl

@[simp] theorem modEntry_sched (slot : Nat) (f : RollEntry → RollEntry) : (modEntry slot f s).sched = s.sched := by
  unfold modEntry; split <;> rfl

@[simp] theorem modEntry_bell (slot : Nat) (f : RollEntry → RollEntry) : (modEntry slot f s).bell = s.bell := by
  unfold modEntry; split <;> rfl

@[simp] theorem modEntry_gate (slot : Nat) (f : RollEntry → RollEntry) : (modEntry slot f s).gate = s.gate := by
  unfold modEntry; split <;> rfl

@[simp] theorem modEntry_reg (slot : Nat) (f : RollEntry → RollEntry) : (modEntry slot f s).reg = s.reg := by
  unfold modEntry; split <;> rfl

@[simp] theorem modEntry_msg (slot : Nat) (f : RollEntry → RollEntry) : (modEntry slot f s).msg = s.msg := by
  unfold modEntry; split <;> rfl

@[simp] theorem modEntry_office (slot : Nat) (f : RollEntry → RollEntry) : (modEntry slot f s).office = s.office := by
  unfold modEntry; split <;> rfl

@[simp] theorem modEntry_choices (slot : Nat) (f : RollEntry → RollEntry) :
    (modEntry slot f s).choices = s.choices := by
  unfold modEntry; split <;> rfl

@[simp] theorem modEntry_pending (slot : Nat) (f : RollEntry → RollEntry) :
    (modEntry slot f s).pending = s.pending := by
  unfold modEntry; split <;> rfl

/-! ### The uplink's choice and the report queue -/

/-- The choice of the next frame touches the frame being sent and the report queue only. -/
theorem uplinkChoose_eq :
    uplinkChoose s = { s with line := { s.line with upSending := (uplinkChoose s).line.upSending }
                              office := { s.office with reports := (uplinkChoose s).office.reports } } := by
  unfold uplinkChoose
  split
  · rfl
  · split
    · rfl
    · split
      · rfl
      · rfl

/-- A report offered takes its number; it joins the queue, or is lost and counted. Besides the report queue and the
frame that a free uplink then sends, nothing changes. -/
theorem offerReport_eq (b : ReportBody) :
    offerReport b s = { s with
      line := { s.line with upSending := (offerReport b s).line.upSending }
      office := { s.office with reports := (offerReport b s).office.reports
                                reportNumber := (s.office.reportNumber + 1) % 65536
                                lost := if reportRoom s then s.office.lost else satAdd 65535 s.office.lost 1 } } := by
  unfold offerReport
  split
  · rw [uplinkChoose_eq]; simp_all [State.modOffice]
  · simp_all [State.modOffice]

@[simp] theorem offerReport_roll (b : ReportBody) : (offerReport b s).roll = s.roll := by rw [offerReport_eq]

@[simp] theorem offerReport_sched (b : ReportBody) : (offerReport b s).sched = s.sched := by rw [offerReport_eq]

@[simp] theorem offerReport_bell (b : ReportBody) : (offerReport b s).bell = s.bell := by rw [offerReport_eq]

@[simp] theorem offerReport_gate (b : ReportBody) : (offerReport b s).gate = s.gate := by rw [offerReport_eq]

@[simp] theorem offerReport_reg (b : ReportBody) : (offerReport b s).reg = s.reg := by rw [offerReport_eq]

@[simp] theorem offerReport_msg (b : ReportBody) : (offerReport b s).msg = s.msg := by rw [offerReport_eq]

@[simp] theorem offerReport_choices (b : ReportBody) : (offerReport b s).choices = s.choices := by
  rw [offerReport_eq]

@[simp] theorem offerReport_pending (b : ReportBody) : (offerReport b s).pending = s.pending := by
  rw [offerReport_eq]

@[simp] theorem offerReport_powered (b : ReportBody) : (offerReport b s).office.powered = s.office.powered := by
  rw [offerReport_eq]

@[simp] theorem offerReport_params (b : ReportBody) : (offerReport b s).office.params = s.office.params := by
  rw [offerReport_eq]

@[simp] theorem offerReport_catchUp (b : ReportBody) : (offerReport b s).office.catchUp = s.office.catchUp := by
  rw [offerReport_eq]

@[simp] theorem offerReport_segments (b : ReportBody) : (offerReport b s).line.segments = s.line.segments := by
  rw [offerReport_eq]

@[simp] theorem offerReport_stations (b : ReportBody) : (offerReport b s).line.stations = s.line.stations := by
  rw [offerReport_eq]

/-! ### The gateway port -/

/-- A frame handed to the gateway port is sent at once on a free line, and waits behind the others on a busy one. -/
theorem handGateway_eq (f : GatewayFrame) :
    handGateway f s = { s with line := { s.line with
      gwSending := some (s.line.gwSending.getD f)
      gwWaiting := if s.line.gwSending.isNone then s.line.gwWaiting else s.line.gwWaiting ++ [f] } } := by
  unfold handGateway
  split <;> simp_all [State.modLine]

end Sys2Proof.Machine
end

