-- ==== Sys2Proof/Laws/Requests.lean ====
section
/-! SUPPORT. What a request's arrival does, said once: taken by an idle agent, carried out, and answered. -/

namespace Sys2Proof.Machine

open Sys2Proof

/-- The state in which a block carries a request out. -/
def working (s : State) : State := s.modOffice fun o => { o with agent := .working }

/-- A request of an allowed layout that an idle agent takes is carried out, and its reply placed. -/
theorem requestArrives_idle (h : UpHeader) (r : Request) (s : State) (idle : s.office.agent = .idle)
    (ok : countsOk r = true) :
    requestArrives h r s = placeReply s.line.upSending.isNone
      { tag := h.tag, request := some (requestCode r), status := (serve r (working s)).2.1,
        data := (serve r (working s)).2.2 } (serve r (working s)).1 := by
  simp only [requestArrives, uplinkArrive, idle, if_true, takeUplink, judgeFrame, ok, replyOf]
  rfl

/-- A request whose counts lie outside its layout is refused before any block sees it (R160). -/
theorem requestArrives_layout (h : UpHeader) (r : Request) (s : State) (idle : s.office.agent = .idle)
    (bad : countsOk r = false) :
    requestArrives h r s = placeReply s.line.upSending.isNone
      { tag := h.tag, request := some (requestCode r), status := .badArg, data := .none } (working s) := by
  simp only [requestArrives, uplinkArrive, idle, if_true, takeUplink, judgeFrame, bad, rejected]
  rfl

/-- When no report has taken the line meanwhile, placing a reply sends it on a free line and changes nothing else. -/
theorem placeReply_quiet (reply : Reply) (s : State) (free : Bool) (hf : free = s.line.upSending.isNone) :
    placeReply free reply s =
      { s with office := { s.office with agent := .replying, reply := some reply }
               line := { s.line with upSending := some (s.line.upSending.getD (.reply reply)) } } := by
  subst hf
  cases h : s.line.upSending with
  | none =>
    simp only [placeReply, Option.isNone_none, modOffice_line, h]
    simp [uplinkChoose, h, State.modOffice, State.modLine]
  | some f =>
    simp only [placeReply, Option.isNone_some]
    simp [uplinkChoose, h, State.modOffice]
    rw [← h]

/-- A request that a block carries out without offering a report leaves its effect and its reply. -/
theorem requestArrives_quiet (h : UpHeader) (r : Request) (s s' : State) (st : Status) (d : ReplyData)
    (idle : s.office.agent = .idle) (ok : countsOk r = true)
    (served : serve r (working s) = (working s', st, d)) (line : s'.line.upSending = s.line.upSending) :
    requestArrives h r s = withReply h r st d s' := by
  rw [requestArrives_idle h r s idle ok, served, placeReply_quiet _ _ _ (by simp [working, line])]
  simp [withReply, working, State.modOffice]

/-- A request that is refused changes nothing. -/
theorem requestArrives_refused (h : UpHeader) (r : Request) (s : State) (st : Status) (idle : s.office.agent = .idle)
    (ok : countsOk r = true) (refused : serve r (working s) = refuse st (working s)) :
    requestArrives h r s = withReply h r st .none s :=
  requestArrives_quiet h r s s st .none idle ok refused rfl

/-- The meaning of a request's command. -/
theorem exec_commandOf (h : UpHeader) (r : Request) (s : State) :
    exec (commandOf h r) s = whenPowered (requestArrives h r) s := by
  cases r <;> rfl

end Sys2Proof.Machine
end

