-- ==== Sys2Proof/Laws/Wire.lean ====
section
/-! SUPPORT. The bits of a byte and of a frame on a line (R174), counted. -/

namespace Sys2Proof.Machine

open Sys2Proof

@[simp] theorem lineBits_length (b : Byte) : (lineBits b).length = 11 := by simp [lineBits]

@[simp] theorem breakBits_length : breakBits.length = 15 := rfl

theorem frameBits_length (bs : List Byte) : (frameBits bs).length = 15 + 11 * bs.length := by
  simp [frameBits, List.length_flatMap]
  omega

/-- A frame's bits are its break, the bits of its first byte and those of the rest. -/
theorem frameBits_cons (b : Byte) (bs : List Byte) :
    frameBits (b :: bs) = breakBits ++ (lineBits b ++ bs.flatMap lineBits) := rfl

end Sys2Proof.Machine
end

