-- ==== Sys2Proof/Tests/Slice0.lean ====
section
/-! SUPPORT. Small tests: an ill-formed command for each check of WellFormed.lean, the worked cases of the
specification, and for each statement of Obligations.lean that has hypotheses a concrete state and operands that meet
them, one for each clause. -/

namespace Sys2Proof.Tests

open Sys2Proof Sys2Proof.Machine

-- One test after another: elaborated side by side, they would each hold a thread until the ones before are checked.
set_option Elab.async false

/-! ### Ill-formed commands -/

/-- The header of the tests' uplink frames. -/
def hd : UpHeader := ⟨0x00, 0x07⟩

/-- A payload one byte too long. -/
def longPayload : List Byte := List.replicate 241 0

theorem test_wf_segment : (Instr.tap 4 0x10 []).wf = false := by decide

theorem test_wf_payload : (Instr.parentReport 0x02 longPayload).wf = false := by decide +kernel

theorem test_wf_gate : (Instr.referralExpiry 8).wf = false := by decide

theorem test_wf_zone : (Instr.soundingCountExpiry 16).wf = false := by decide

theorem test_wf_input : (Instr.inputChange 8 .low 40).wf = false := by decide

theorem test_wf_port : (Instr.invalidFrame (.field 4) .parity ⟨none, none, none, none⟩).wf = false := by decide

theorem test_wf_length : (Instr.invalidFrame .uplink .parity ⟨none, none, none, some 256⟩).wf = false := by decide

theorem test_wf_notice : (Instr.notBeforeReached 65536).wf = false := by decide

theorem test_wf_gatewayKind : (Instr.gatewayOtherFrame 0x02 0x0D []).wf = false := by decide

theorem test_wf_pupil : (Instr.dropRoll hd 65536).wf = false := by decide

theorem test_wf_tokens : (Instr.loadRoll hd ⟨1, [], 1, 7, 1, false, false⟩).wf = false := by decide

theorem test_wf_contacts : (Instr.loadFamily hd 1 false []).wf = false := by decide

theorem test_wf_calendar : (Instr.loadCalendar hd 0 [.plan 255]).wf = false := by decide

theorem test_wf_second : (Instr.setClock hd 1 16777216).wf = false := by decide

theorem test_wf_event :
    (Instr.loadPlan hd 0 0 [⟨0, .periodStart 256, 0, 0, 1, false⟩] true).wf = false := by decide

theorem test_wf_inputEntry :
    (Instr.loadInputs hd [(0, ⟨.falling, 256, .unused, 0, 0, 5, false⟩)]).wf = false := by decide

theorem test_wf_relayZone : (Instr.setRelay hd 0 .auto (some 255)).wf = false := by decide

theorem test_wf_items : (Instr.setParams hd [⟨.grace, 65536, some 0⟩]).wf = false := by decide

theorem test_wf_selector : (Instr.readExcuses hd (.pupil 65536) 0 1).wf = false := by decide

theorem test_wf_pollList : (Instr.loadPollList hd 0 (List.replicate 33 0x10)).wf = false := by decide

/-! ### Worked cases of the specification -/

theorem test_crc_nine : crc [0x31, 0x32, 0x33, 0x34, 0x35, 0x36, 0x37, 0x38, 0x39] = 0x29B1 := by decide +kernel

/-- Table 5 of Chapter 4: AM starts at 31200 and closes at 33000, PM starts at 48300 and closes at 50100, grace 90. -/
theorem test_bands :
    [31290, 31291, 31651, 33090, 33091, 47100].map (bandOf (some 31200) (some 33000) 90)
        = [.onTime, .late, .late, .late, .lateAfterClose, .lateAfterClose]
      ∧ [31291, 31651, 33090, 33091, 47100].map (minutesOf 31200 90) = [1, 7, 30, 31, 240]
      ∧ bandOf (some 48300) (some 50100) 90 48420 = .late ∧ minutesOf 48300 90 48420 = 1 := by decide

/-- Table 8 of Chapter 1: the term record before the first night. -/
def term117 : TermRecord := { p := 117, a := 106, u := 9, lateCount := 4, lateMinutes := 38, concern := false }

/-- The pupil of Table 8 of Chapter 1, late in the morning and absent all afternoon. -/
def pupil40117 : RollEntry :=
  { pupil := 40117, tokens := [0x1111], form := 23, year := 9, family := 812, referOnArrival := false
    noSelfExit := false, recordDay := 50
    day := { clearedDay with marks := ⟨⟨.late, some .gate⟩, ⟨.absent, some .close⟩⟩, minutesLate := 7 }
    term := term117 }

theorem test_settlement_firstNight :
    settledCounts pupil40117
        = { p := 119, a := 107, u := 10, lateCount := 5, lateMinutes := 45, concern := false }
      ∧ attendance (settledCounts pupil40117) = 899
      ∧ concernRaised Params.cold (settledCounts pupil40117) = true := by decide

theorem test_settlement_secondNight :
    let e := { pupil40117 with
      day := { clearedDay with marks := ⟨⟨.present, some .register⟩, ⟨.present, some .register⟩⟩ }
      term := { p := 119, a := 107, u := 10, lateCount := 5, lateMinutes := 45, concern := true } }
    attendance (settledCounts e) = 900 ∧ concernAfter Params.cold (settledCounts e) = true := by decide

theorem test_settlement_saturated :
    let e := { pupil40117 with
      day := { clearedDay with marks := ⟨⟨.present, some .register⟩, ⟨.absent, some .close⟩⟩ }
      term := { p := 1022, a := 1000, u := 20, lateCount := 0, lateMinutes := 0, concern := false } }
    (settledCounts e).p = 1023 ∧ (settledCounts e).a = 1001 ∧ (settledCounts e).u = 21
      ∧ attendance (settledCounts e) = 978 := by decide

/-- Table 4 of Chapter 6: the entries of pupil 40177, in slot 612. -/
theorem test_excuse_ranges :
    let one (first last : Nat) (n : Sessions) (r : ExcuseReason) (src : ExcuseSource) : Excuse :=
      ⟨612, first, last, n, r, src⟩
    let t1 := insertedExcuses (one 52 58 .both .illness .parent) []
    let t2 := insertedExcuses (one 54 55 .pm .medical .parent) t1
    let t3 := insertedExcuses (one 56 58 .pm .medical .parent) t2
    t2 = [one 52 53 .both .illness .parent, one 54 55 .am .illness .parent, one 56 58 .both .illness .parent,
          one 54 55 .pm .medical .parent]
      ∧ t3 = [one 52 53 .both .illness .parent, one 54 55 .am .illness .parent, one 56 58 .am .illness .parent,
              one 54 58 .pm .medical .parent]
      ∧ trimExcuses 612 53 54 .both t3 = [one 52 52 .both .illness .parent, one 55 55 .am .illness .parent,
              one 56 58 .am .illness .parent, one 55 58 .pm .medical .parent]
      ∧ (trimCount 612 53 54 1 t3, trimCount 612 53 54 0 t3, trimCount 612 53 54 2 t3) = (3, 0, 0) := by decide

theorem test_request_bytes :
    decodeRequest (encodeRequest (.setMark 40117 .pm .excused)) = some (.setMark 40117 .pm .excused)
      ∧ encodeRequest (.setMark 40117 .pm .excused) = [0x05, 0x9C, 0xB5, 0x01, 0x05] := by decide +kernel

/-- A BELL_ACK of station 0x21 with tag 5, in bytes, with the check of R174's own calculation. -/
theorem test_frame_received :
    hearAll .waiting (cleanFrame (withCheck [0x01, 0x21, 0x08, 0x05, 0x00])) = [.good 0x21 0x08 0x05 []]
      ∧ commandOfFrame (.field 2) (.good 0x21 0x08 0x05 []) = some (.bellAck 2 0x21)
      ∧ hearAll .waiting (cleanFrame (withCheck [0x02, 0x21, 0x08, 0x05, 0x00])) = [.elsewhere]
      ∧ hearAll .waiting (cleanFrame [0x01, 0x21, 0x08, 0x05, 0x00, 0x00, 0x00])
          = [.invalid .check ⟨some 0x01, some 0x21, some 0x08, some 0⟩] := by decide +kernel

theorem test_byte_bits :
    lineBits 0x13 = [false, true, true, false, false, true, false, false, false, false, true]
      ∧ readByte (cleanByte 0x13) = .inl 0x13
      ∧ readByte { cleanByte 0x13 with parity := cleanSample true } = .inr .parity
      ∧ readByte { cleanByte 0x13 with stop := cleanSample false } = .inr .framing
      ∧ readByte { cleanByte 0x13 with start := ⟨false, true, false⟩ } = .inr .noise := by decide +kernel

/-- R174: a POLL to station 0x20 opens with 13 bit-times at space and 2 at mark, and its destination byte follows. -/
theorem test_frame_bits :
    let s := setSegmentAt 1 { coldSegment with sending := some ⟨0x20, .poll⟩ } State.reset
    (sentBits s (.field 1)).map (·.take 26) = some
        ([false, false, false, false, false, false, false, false, false, false, false, false, false, true, true]
          ++ [false, false, false, false, false, false, true, false, false, false, true])
      ∧ (sentBits s (.field 1)).map List.length = some (15 + 11 * 7) ∧ (lineBytes s (.field 1)).isSome = true
      ∧ lineBytes s .gateway = none := by decide +kernel

/-- R157 with Table 2 of Chapter 8, and Table 4 of Chapter 11: a STATIONS entry without its number, and an absent
session. -/
theorem test_wire_station :
    putStation { address := 0x20, mask := 0xFF, segment := 1, kind := .gateIn, unit := 2, enabled := true
                 presence := .absent, misses := 3 } = [0x20, 0xFF, 1, 0, 2, 1, 1, 3]
      ∧ [none, some Session.am, some .pm].flatMap putOptSession = [2, 0, 1] := by decide

/-- Whether a command answers a next state that has a property. -/
def leads (c : Instr) (s : State) (p : State → Bool) : Bool :=
  match exec c s with
  | .next t => p t
  | .fault _ => false
  | .refused _ => false

/-! ### The states of the witnesses -/

/-- A pupil of form 23 and family 812 with nothing recorded. -/
def plainPupil : RollEntry := { pupil40117 with day := clearedDay, term := newTerm }

/-- A report of the tests. -/
def someReport : Report := { number := 1, day := 50, second := 31291, body := .registerDone .am 23 1 31291 }

/-- The state after reset with day 50 at 31291 on a closed day, and one pupil in slot 12. -/
def withPupil (e : RollEntry) : State :=
  { State.reset with
    roll := { State.reset.roll with
      roll := [(12, e)]
      families := [(812, ⟨false, [⟨0xA1, true, true, .voice⟩, ⟨0xA2, true, true, .text⟩]⟩)] }
    sched := { State.reset.sched with
      clock := .set, day := 50, second := 31291, state := .closedDay, lastSecond := 31291, lastDay := 50 } }

/-- That state with the plain pupil. -/
def base : State := withPupil plainPupil

/-- The events of a day: the sessions of plan 0 of Chapter 2. -/
def dayEvents : List Event :=
  [⟨30600, .sessionOpen .am, 0, 0, 1, false⟩, ⟨31200, .sessionStart .am, 0, 0, 1, false⟩,
   ⟨33000, .sessionClose .am, 0, 0, 1, false⟩]

/-- The pupil's state in a day of those events, in the middle of it. -/
def activeDay (c : Cursor) : State :=
  { base with sched := { base.sched with
      state := .active, active := some 0, cursor := c, plans := [(0, dayEvents)], calendar := [(50, 0), (51, 0)] } }

/-- A station at address 0x20 of segment 1, of a kind and unit 2, as entry 3. -/
def withStation (k : StationKind) (s : State) : State :=
  setStationAt 3 { address := 0x20, mask := 0xFF, segment := 1, kind := k, unit := 2, enabled := true
                   presence := .present, misses := 0 } s

/-- Segment 1 as it awaits the answer of address 0x20. -/
def awaiting (x : ExchangeKind) (s : State) : State :=
  setSegmentAt 1 { coldSegment with exchange := some ⟨0x20, x⟩ } s

/-- A station of a kind from which a POLL's answer is awaited. -/
def polled (k : StationKind) (s : State) : State := awaiting .poll (withStation k s)

/-- A referral of the pupil in slot 12 at gate 2. -/
def heldTap : Referral :=
  { number := 9, slot := 12, direction := .inward, reason := .mode, session := none, band := some .onTime
    minutes := 0, tapSecond := 31000, segment := 1, address := 0x20, sequence := 4, timer := 0, token := 0x1111 }

/-- Gate 2 with a referral. -/
def holding (r : Referral) (s : State) : State := setGateAt 2 { coldGate with referral := some r } s

/-- A notice record of the pupil's family, with the gateway. -/
def offeredNotice : Notice :=
  { number := 258, family := 812, pupils := [(40117, false)], reason := .absence, session := some .am, period := none
    minutes := none, template := 4, position := 0, attempts := 1, notBefore := 31000, state := .offered, timer := 0
    lastOffered := some (0, 0xA1) }

/-- The same record before its first offer. -/
def queuedNotice : Notice :=
  { offeredNotice with attempts := 0, state := .queued, lastOffered := none }

/-- A state with notice records. -/
def withNotices (l : List Notice) : State := { base with msg := { base.msg with notices := l } }

/-- A bell job that waits for two frames to be reported in zone 15. -/
def ringingJob : CurrentJob :=
  { job := { zones := 0x8000, tone := 1, duration := 5, override := false, origin := .event }, zone := 15
    ringing := some { toHand := [], handed := 2, reported := 1, acked := 1 } }

/-- A state in which that job waits, with others behind it. -/
def ringing (waiting : List BellJob) : State :=
  { base with bell := { base.bell with current := some ringingJob, waiting := waiting } }

/-- A TAP's payload of the pupil's token and sequence 4. -/
def tapBytes : List Byte := [0x00, 0x00, 0x11, 0x11, 0x04]

/-- A state in which a day is being settled. -/
def settling (cursor : Nat) : State :=
  { base with roll := { base.roll with rollState := .rollover 51, cursor := cursor }
              sched := { base.sched with state := .ending, outstanding := 1 } }

/-! ### Witnesses -/

theorem test_witness_StepRunsTheFrontCommand :
    (base.withPending [.secondsTick]).pending = .secondsTick :: [] ∧ base.pending = [] := by decide

theorem test_witness_WithoutPowerCommandsDoNothing :
    { base with office := { base.office with powered := false } }.office.powered = false
      ∧ Instr.settleSlot ≠ .secondsTick ∧ Instr.settleSlot ≠ .powerUp := by decide

/-- The only hypothesis of RefusedRequestChangesNothing, RollAndScheduleReadsAnswer, GateWindowAndListReadsAnswer,
PortReadsAnswer and RestartAndClearAll, and one of every other statement of a request. -/
theorem test_witness_takesRequests : takesRequests base := by decide

theorem test_witness_RollWritersAreHeldOff :
    takesRequests (settling 0) ∧ writersHeld (settling 0) = true ∧ countsOk (.dropRoll 1) = true := by decide

theorem test_witness_RequestBytesReadBack : Request.wf (.setMark 40117 .pm .excused) = true := by decide

theorem test_witness_BytesAndFieldsAgree : takesRequests base ∧ Request.wf (.dropRoll 65535) = true := by decide

theorem test_witness_BytesAndFieldsAgree_frames :
    ([] : List Byte).length ≤ 240 ∧ (List.replicate 240 (0 : Byte)).length ≤ 240 ∧ 240 < (241 : Byte).toNat
      ∧ (0 : Nat) < (withCheck (uncheckedBytes 0x01 0x21 0x08 0x05 [])).length
      ∧ [0x01, 0x21, 0x08, 0x05, 0x00] ++ [0x00, 0x00] ≠ withCheck (uncheckedBytes 0x01 0x21 0x08 0x05 [])
      ∧ ({ cleanByte 0 with start := ⟨false, true, false⟩ } : LineByte).start.level = none
      ∧ readByte { cleanByte 0 with parity := cleanSample false } = .inr .parity := by decide +kernel

/-- A state in which the pupil's slot is the next to be settled, by a command that waits. -/
def running : State := (settling 12).withPending [.settleSlot]

/-- The step of the statements StepKeeps…, each of which has this step and its own invariant as hypotheses. -/
theorem test_witness_step : ∃ t, step running = .next t := ⟨_, rfl⟩

theorem test_witness_StepKeepsTermFigures : TermsInRange running := by decide

theorem test_witness_StepKeepsOnSiteCount : OnSiteCounted running := by decide

theorem test_witness_StepKeepsRelays : RelaysFollow running := by decide

theorem test_witness_StepKeepsCapacitiesAndRanges : QueuesBounded running := by decide

theorem test_witness_StepKeepsCapacitiesAndRanges_parameters : ParamsInRange running := by
  intro n g
  cases n <;> exact ⟨by simp [paramRange, paramValue, tabGet, tabFind, running, State.withPending, settling, base,
    withPupil, State.reset, Params.cold, defaultGrace], by simp [paramRange, paramValue, tabGet, tabFind, running,
    State.withPending, settling, base, withPupil, State.reset, Params.cold, defaultGrace]⟩

theorem test_witness_StepKeepsSchedule : ScheduleConsistent running := by decide

theorem test_witness_StepKeepsNotices : NoticesOrderly (withNotices [offeredNotice]) :=
  ⟨by decide, by decide, by decide, by decide⟩

theorem test_witness_StepKeepsNotices_step : ∃ t, step (withNotices [offeredNotice]) = .next t := ⟨_, rfl⟩

theorem test_witness_StepKeepsExcuses : ExcusesDisjoint running :=
  ⟨⟨List.Pairwise.nil, fun _ h => nomatch h⟩, by decide⟩

theorem test_witness_StepKeepsTables : TablesSorted running ∧ RollOrdered running := ⟨by decide, by decide⟩

theorem test_witness_StepKeepsRegisters : RegistersCounted running :=
  ⟨fun x h => by cases x <;> exact absurd h (by decide), fun _ x => by cases x <;> decide⟩

theorem test_witness_MergeTableDecides : entryAt base 12 = some plainPupil := by decide

theorem test_witness_BandAndMinutesOfATap :
    let s := activeDay (.next 2)
    tapSession s 31291 = some (.am, false) ∧ lookupTime s (.sessionStart .am) = some 31200
      ∧ lookupTime s (.sessionClose .am) = some 33000 ∧ graceAt s 0 = 60
      ∧ (judgeArrival s 0 31261).session = some .am ∧ (judgeArrival s 0 31260).band = .onTime
      ∧ (judgeArrival s 0 31261).band = .late ∧ (judgeArrival s 0 33060).band = .late
      ∧ (judgeArrival s 0 33061).band = .lateAfterClose := by decide

theorem test_witness_BandAndMinutesOfATap_open :
    let s (es : List Event) := { activeDay .past with sched :=
      { (activeDay .past).sched with plans := [(0, es)] } }
    tapSession (s (dayEvents.take 1)) 30600 = some (.am, false)
      ∧ lookupTime (s (dayEvents.take 1)) (.sessionStart .am) = none
      ∧ tapSession (s (dayEvents.take 2)) 31261 = some (.am, false)
      ∧ lookupTime (s (dayEvents.take 2)) (.sessionStart .am) = some 31200
      ∧ lookupTime (s (dayEvents.take 2)) (.sessionClose .am) = none := by decide

theorem test_witness_BandAndMinutesOfATap_session :
    let s := activeDay (.next 2)
    lookupTime s (.sessionOpen .am) = some 30600
      ∧ (∀ y p, lookupTime s (.sessionOpen y) = some p → y = .am ∨ p < 30600 ∨ 30600 < p)
      ∧ (∀ y p, lookupTime s (.sessionOpen y) = some p → 30599 < p ∧ (y = .am ∨ 30600 < p))
      ∧ ∀ y, lookupTime base (.sessionOpen y) = none := by
  have am : lookupTime (activeDay (.next 2)) (.sessionOpen .am) = some 30600 := by decide
  have pm : lookupTime (activeDay (.next 2)) (.sessionOpen .pm) = none := by decide
  refine ⟨am, fun y p h => ?_, fun y p h => ?_, fun y => by cases y <;> decide⟩ <;> cases y <;>
    simp_all

theorem test_witness_SettlementCounts :
    termInRange pupil40117.term ∧ pupil40117.term.p + 2 ≤ 1023 ∧ termInRange { term117 with p := 1022, a := 1022 }
      ∧ termInRange { term117 with p := 1023, a := 1023 } := by decide

theorem test_witness_RollAndScheduleReadsAnswer :
    takesRequests base ∧ findPupil base 40117 = some (12, plainPupil) ∧ findPupil base 40118 = none
      ∧ nextFilledSlot base 12 = some (12, plainPupil) ∧ nextFilledSlot base 3071 = none
      ∧ (tabFind base.roll.families 812).isSome = true ∧ tabFind base.roll.families 2047 = none := by decide

theorem test_witness_LoadRollLoads :
    takesRequests base ∧ RollOrdered base ∧ writersHeld base = false ∧ base.reg.walks = []
      ∧ formState base .am ≠ .opened ∧ formState base .pm ≠ .opened ∧ findPupil base 65000 = none
      ∧ findPupil base 40117 = some (12, plainPupil) := by decide

theorem test_witness_LoadRollLoads_unique :
    ∀ x ∈ base.roll.roll, ∀ k ∈ x.2.tokens, k ∉ [(1 : Handle), 2] := by
  simp [base, withPupil, plainPupil, pupil40117]

theorem test_witness_LoadRollLoads_slot : firstEmptySlot base = some 0 :=
  List.find?_range_eq_some.mpr ⟨by decide, List.mem_range.mpr (by decide), fun j h => absurd h (Nat.not_lt_zero j)⟩

/-- A state with the AM windows OPEN. -/
def openAm : State := { base with reg := { base.reg with form := ⟨⟨.opened, []⟩, ⟨.notOpened, []⟩⟩ } }

theorem test_witness_LoadRollLoads_refused :
    writersHeld (settling 0) = true ∧ formState openAm .am = .opened ∧ findPupil openAm 40117 = some (12, plainPupil)
      ∧ plainPupil.form ≠ 24 ∧ (∃ x ∈ base.roll.roll, x.2.pupil ≠ 1 ∧ (0x1111 : Handle) ∈ x.2.tokens) := by decide

theorem test_witness_LoadRollLoads_slotOpen : firstEmptySlot openAm = some 0 :=
  List.find?_range_eq_some.mpr ⟨by decide, List.mem_range.mpr (by decide), fun j h => absurd h (Nat.not_lt_zero j)⟩

/-- The entry of a slot of the full roll. -/
def fullEntry (i : Nat) : RollEntry := { plainPupil with pupil := i + 1, tokens := [BitVec.ofNat 32 (i + 1)] }

/-- The state with such a pupil in each slot of a list. -/
def filledRoll (l : List Nat) : State :=
  { base with roll := { base.roll with roll := l.map fun i => (i, fullEntry i) } }

theorem filledRoll_roll (l : List Nat) : (filledRoll l).roll.roll = l.map fun i => (i, fullEntry i) := rfl

theorem entryAt_filledRoll (l : List Nat) (n : Nat) (h : n ∈ l) : entryAt (filledRoll l) n = some (fullEntry n) := by
  change tabFind (l.map fun i => (i, fullEntry i)) n = _
  induction l with
  | nil => cases h
  | cons a t ih =>
    rcases eq_or_ne n a with rfl | hne
    · simp [tabFind]
    · simpa [tabFind, hne] using ih (by simpa [hne] using h)

theorem filledRoll_full (l : List Nat) (hl : ∀ i, i ∈ l ↔ i < Config.rollSlots) :
    firstEmptySlot (filledRoll l) = none :=
  List.find?_range_eq_none.mpr fun i hi => by simp [entryAt_filledRoll l i ((hl i).mpr hi)]

theorem filledRoll_ordered (l : List Nat) (hl : ∀ i, i ∈ l ↔ i < 3072) (hs : l.Pairwise (· < ·)) :
    RollOrdered (filledRoll l) := by
  refine ⟨?_, fun x hx => ?_⟩
  · rw [tabSorted, filledRoll_roll, List.map_map]
    simpa [Function.comp_def] using hs
  · obtain ⟨i, hi, rfl⟩ := List.mem_map.mp (filledRoll_roll l ▸ hx)
    exact (hl i).mp hi

theorem filledRoll_free (l : List Nat) (hl : ∀ i, i ∈ l ↔ i < 3072) :
    findPupil (filledRoll l) 65000 = none
      ∧ ∀ x ∈ (filledRoll l).roll.roll, ∀ k ∈ x.2.tokens, k ∉ [(0xFFFFFFFF : Handle)] := by
  refine ⟨List.find?_eq_none.mpr fun x hx => ?_, fun x hx k hk => ?_⟩
  · obtain ⟨i, hi, rfl⟩ := List.mem_map.mp (filledRoll_roll l ▸ hx)
    have := (hl i).mp hi
    simp only [fullEntry, beq_iff_eq]
    omega
  · obtain ⟨i, hi, rfl⟩ := List.mem_map.mp (filledRoll_roll l ▸ hx)
    have := (hl i).mp hi
    obtain rfl : k = BitVec.ofNat 32 (i + 1) := by simpa [fullEntry] using hk
    simp only [List.mem_singleton]
    bv_omega

theorem test_witness_LoadRollLoads_full :
    let s := filledRoll (List.range 3072)
    firstEmptySlot s = none ∧ findPupil s 65000 = none ∧ RollOrdered s ∧ takesRequests s ∧ writersHeld s = false
      ∧ s.reg.walks = [] ∧ ∀ x ∈ s.roll.roll, ∀ k ∈ x.2.tokens, k ∉ [(0xFFFFFFFF : Handle)] :=
  have hl := fun i => List.mem_range (m := i) (n := 3072)
  have ⟨h1, h2⟩ := filledRoll_free _ hl
  ⟨filledRoll_full _ hl, h1, filledRoll_ordered _ hl List.pairwise_lt_range, ⟨rfl, rfl⟩, rfl, rfl, h2⟩

theorem test_witness_DropRollEmptiesASlot :
    takesRequests base ∧ RollOrdered base ∧ findPupil base 40117 = some (12, plainPupil)
      ∧ (∀ g, g < 8 → ∀ r ∈ (gateAt base g).referral, r.slot ≠ 12)
      ∧ heldAtGate (holding heldTap base) 12 = true ∧ anyFormOpen openAm = true := by decide

/-- A QUEUED record that lists a second pupil too. -/
def sharedNotice : Notice :=
  { queuedNotice with number := 259, reason := .concern, session := none, pupils := [(40117, false), (40118, false)] }

/-- The notice clauses of DropRollEmptiesASlot, LoadFamilyReplaces and SetMarkWrites: a record that leaves, and one that
stays with a pupil fewer. -/
theorem test_witness_noticesBecome :
    let s := withNotices [queuedNotice, sharedNotice, offeredNotice]
    let k := withNotices [queuedNotice, sharedNotice]
    s.msg.windowOpen = false ∧ NoticesOrderly k ∧ s.office.reportNumber ≤ 65535
      ∧ (∃ p ∈ queuedNotice.pupils, p.1 = 40117) ∧ withdrawnRecord k 40117 queuedNotice = none
      ∧ (withdrawnRecord k 40117 sharedNotice).map (·.pupils) = some [(40118, false)]
      ∧ (withdrawnRecord k 40117 offeredNotice).map (fun n => (n.state, n.pupils))
          = some (.withdrawnPending, [(40117, true)]) :=
  ⟨by decide, ⟨by decide, by decide, by decide, by decide⟩, by decide, by decide, by decide, by decide, by decide⟩

theorem test_witness_LoadFamilyReplaces :
    familyLoadable 2047 [⟨0xA1, true, true, .voice⟩, ⟨0xA2, true, true, .text⟩] base
      ∧ ¬(([⟨0xA1, true, true, .voice⟩, ⟨0xA1, true, true, .text⟩] : List Contact).map (·.handle)).Nodup := by decide

theorem test_witness_LoadFamilyReplaces_notices :
    let s := withNotices [queuedNotice]
    familyLoadable 812 [⟨0xA1, true, false, .voice⟩] s ∧ firstNotify [⟨0xA1, true, false, .voice⟩] = none
      ∧ familyLoadable 812 [⟨0xA1, true, false, .voice⟩, ⟨0xA2, true, true, .text⟩] s
      ∧ firstNotify [⟨0xA1, true, false, .voice⟩, ⟨0xA2, true, true, .text⟩] = some 1 := by decide

theorem test_witness_SetMarkWrites :
    takesRequests base ∧ RollOrdered base ∧ writersHeld base = false ∧ findPupil base 40117 = some (12, plainPupil)
      ∧ formState base .am ≠ .opened ∧ formState openAm .am = .opened
      ∧ findPupil openAm 40117 = some (12, plainPupil) := by decide

/-- The pupil ABSENT in the morning. -/
def absentPupil : RollEntry :=
  { plainPupil with day := { clearedDay with
      marks := ⟨⟨.absent, some .close⟩, ⟨.untaken, none⟩⟩
      flags := { clearedFlags with doneAbsence := ⟨true, false⟩ } } }

theorem test_witness_SetMarkWrites_notices :
    let s := { withPupil absentPupil with msg := { base.msg with notices := [queuedNotice] } }
    findPupil s 40117 = some (12, absentPupil) ∧ (absentPupil.day.marks.get .am).code = .absent
      ∧ MarkCode.present ≠ .absent ∧ s.msg.windowOpen = false ∧ s.office.reportNumber ≤ 65535
      ∧ lists (.absence .am) 40117 queuedNotice = true ∧ lists (.absence .pm) 40117 queuedNotice = false
      ∧ (absentPupil.day.marks.get .pm).code ≠ .absent := by decide

/-- The SET_MARK of that witness: the record leaves with one report. -/
theorem test_setMark_withdraws :
    leads (.setMark hd 40117 .am .present)
        { withPupil absentPupil with
          line := { base.line with upSending := some (.report someReport) }
          msg := { base.msg with notices := [queuedNotice] } }
      (fun t => decide (t.msg.notices = [] ∧ t.office.reportNumber = 1)) := by
  decide +kernel

/-- R132 takes the pupil from every record of the reason and session, a record with the gateway among them. -/
theorem test_withdraw_everyRecord :
    let offered := { offeredNotice with family := 813, state := .withdrawnPending, pupils := [(40117, true)] }
    leads (.setMark hd 40117 .am .present)
        { withPupil absentPupil with
          line := { base.line with upSending := some (.report someReport) }
          msg := { base.msg with notices := [offered, queuedNotice] } }
      (fun t => decide (t.msg.notices = [offered])) := by
  decide +kernel

theorem test_witness_AdjustCountsReplaces :
    takesRequests base ∧ RollOrdered base ∧ writersHeld base = false ∧ findPupil base 40117 = some (12, plainPupil)
      ∧ min 1023 1024 ≤ min 1023 1023 := by decide

/-- The day's events as the parts of a plan that R45 accepts, whole and as the end of a build, and a part it refuses. -/
theorem test_witness_CalendarAndPlanLoads_part :
    partLegal 7 0 dayEvents true ∧ partLegal 7 2 (dayEvents.drop 2) true ∧ partLegal 7 30 (dayEvents.drop 1) false
      ∧ ¬partLegal 0 1 [] false ∧ ¬partLegal 7 31 (dayEvents.drop 1) false
      ∧ ¬partLegal 7 0 [⟨0, .periodStart 11, 0, 0, 1, false⟩] true := by
  simp [partLegal, dayEvents]

theorem test_witness_CalendarAndPlanLoads_keeps : planKeeps dayEvents ∧ ¬planKeeps dayEvents.reverse := by
  refine ⟨⟨by decide, fun x => ?_, by decide, fun k _ _ => ?_⟩, fun h => absurd h.1 (by decide)⟩
  · cases x <;> decide
  · simp [dayEvents]

theorem test_witness_CalendarAndPlanLoads :
    takesRequests base ∧ base.sched.active ≠ some 7 ∧ base.sched.staged ≠ some 7 ∧ base.sched.build = none
      ∧ (activeDay .past).sched.active = some 0
      ∧ (let s := { base with sched := { base.sched with build := some ⟨7, dayEvents.take 2⟩ } }
         takesRequests s ∧ s.sched.build = some ⟨7, dayEvents.take 2⟩ ∧ (dayEvents.take 2).length = 2) := by decide

theorem test_witness_StagePlanStages :
    base.sched.state = .closedDay ∧ base.office.catchUp = false ∧ takesRequests (activeDay (.next 0))
      ∧ (activeDay (.next 0)).sched.state = .active ∧ (activeDay (.next 0)).sched.active ≠ some 7
      ∧ (activeDay (.next 0)).sched.cursor = .next 0 ∧ (activeDay .past).sched.cursor = .past
      ∧ (activeDay (.next 1)).sched.cursor = .next (0 + 1) ∧ (activeDay (.next 1)).sched.active = some 0
      ∧ (settling 0).sched.state = .ending ∧ State.reset.sched.state = .unset := by decide

/-- The closes without an event of a swap (R38): an OPEN window whose SESSION_CLOSE the plan lacks or has behind it, and
none of one whose close lies ahead. -/
theorem test_witness_StagePlanStages_closes :
    let s := { activeDay (.next 0) with reg := openAm.reg }
    s.sched.state = .active ∧ formState s .am = .opened ∧ behind (planAt s 7) 31291 (.sessionClose .am) = true
      ∧ behind dayEvents 31291 (.sessionClose .am) = false ∧ behind dayEvents 33000 (.sessionClose .am) = true := by
  decide

/-- The STAGE_PLAN of that witness: the AM windows close, with their walk. -/
theorem test_stagePlan_closes :
    leads (.stagePlan hd 7) { activeDay (.next 0) with reg := openAm.reg }
      (fun t => decide (formState t .am = .closed ∧ t.reg.walks = [⟨.close .am none, 0⟩])) := by
  decide +kernel

theorem test_witness_SetClockSets :
    takesRequests State.reset ∧ State.reset.sched.state ≠ .ending ∧ State.reset.sched.clock = .unset
      ∧ State.reset.sched.staged = none ∧ base.sched.clock = .set ∧ base.sched.state ≠ .active
      ∧ base.sched.day = 50 ∧ (activeDay (.next 2)).sched.state = .active ∧ takesRequests (settling 0)
      ∧ (settling 0).sched.state = .ending := by decide

/-- The SESSION_CLOSE of the day's events lies before a forward set, and before the next tick. -/
theorem test_witness_SetClockSets_event :
    let s := activeDay (.next 2)
    oneEvent s 2 ⟨33000, .sessionClose .am, 0, 0, 1, false⟩ s.sched.second 33000 ∧ s.roll.rollState = .normal
      ∧ s.msg.creditLimit = 0 ∧ s.office.reportNumber ≤ 65535 :=
  ⟨⟨rfl, rfl, rfl, rfl, by decide, by decide, fun _ h => nomatch h⟩, rfl, rfl, by decide⟩

/-- A job of the tests. -/
def someJob : BellJob := { zones := 1, tone := 7, duration := 30, override := false, origin := .office }

theorem test_witness_RingRings :
    takesRequests base ∧ takesRequests (ringing []) ∧ (ringing []).bell.current.isSome = true
      ∧ bellWaits (ringing [someJob, someJob, someJob]) ∧ (ringing [someJob, someJob, someJob]).bell.waiting.length < 4
      ∧ bellWaits (ringing [someJob, someJob, someJob, someJob])
      ∧ (ringing [someJob, someJob, someJob, someJob]).bell.waiting = someJob :: [someJob, someJob, someJob] := by
  decide

theorem test_witness_RingRings_atOnce :
    ringsAtOnce ⟨0x8001, 1, 5, false, .office⟩ base :=
  ⟨rfl, rfl, by decide, by decide +kernel⟩

/-- Zone 2 with a sounder at 0x20, one of the same address, and one at 0x21, all on segment 1. -/
def sounding : State :=
  let st (a : Byte) : Station :=
    { address := a, mask := 0xFF, segment := 1, kind := .sounder, unit := 2, enabled := true, presence := .present
      misses := 0 }
  setStationAt 9 (st 0x21) (setStationAt 5 (st 0x20) (withStation .sounder base))

theorem test_witness_RingRings_sounder :
    let s := withStation .sounder base
    s.bell.current = none ∧ s.bell.waiting = [] ∧ takesRequests s ∧ inZones (0x0004 : ZoneMask) 2 = true
      ∧ (∀ y, y < 2 → inZones (0x0004 : ZoneMask) y = false) ∧ zoneSuppressed s 2 = false
      ∧ soundsIn s 2 3 ∧ (∀ k, k < 3 → ¬soundsIn s 2 k) ∧ lineIdle s 1 := by decide +kernel

theorem test_witness_RingRings_sounder_alone :
    ∀ k, k < 48 → soundsIn (withStation .sounder base) 2 k → placeOf (withStation .sounder base) k = (1, 0x20) := by
  decide +kernel

theorem test_witness_RingRings_sounders :
    soundsIn sounding 2 3 ∧ (∀ k, k < 3 → ¬soundsIn sounding 2 k) ∧ soundsIn sounding 2 9 ∧ lineIdle sounding 1
      ∧ placeOf sounding 9 ≠ placeOf sounding 3 ∧ placeOf sounding 5 = placeOf sounding 3 := by decide +kernel

theorem test_witness_RingRings_sounders_both :
    (∀ k, k < 9 → soundsIn sounding 2 k → placeOf sounding k = placeOf sounding 3)
      ∧ ∀ k, k < 48 → soundsIn sounding 2 k →
          placeOf sounding k = placeOf sounding 3 ∨ placeOf sounding k = placeOf sounding 9 := by decide +kernel

/-- The RING of that witness: a BELL frame to each of the two addresses, in station-table order. -/
theorem test_ring_handsBells :
    leads (.ring hd 0x0004 7 30 false) sounding
      (fun t => decide ((segmentAt t 1).sending = some ⟨0x20, .bell 7 30 1⟩
        ∧ (segmentAt t 1).queue = [⟨0x21, .bell 7 30 1⟩])) := by
  decide +kernel

/-- A state in which input 7 holds zone 15. -/
def suppressing : State :=
  setInputAt 7 { coldInput with level := .low, taken := true, config :=
    { coldInputConfig with function := .suppress, zones := 0x8000 } } base

theorem test_witness_RingRings_suppressed :
    zoneSuppressed suppressing 15 = true ∧ zoneSuppressed suppressing 0 = false
      ∧ takesRequests suppressing ∧ suppressing.bell.current = none := by decide

theorem test_witness_InputAndRelayLoads :
    badInput (7, ⟨.rising, 40, .ringNow, 1, 7, 30, true⟩) = false
      ∧ badInput (0, ⟨.lowLevel, 0, .unused, 0, 0, 1, false⟩) = false
      ∧ ([7, 0] : List Nat).Nodup ∧ ¬([7, 7] : List Nat).Nodup := by decide

/-- R59 with Table 2: an override byte is set or clear, and any other value makes the request BAD_ARG. -/
theorem test_loadInputs_override :
    let entry (o : Byte) : List Byte := [1, 7, 3, 40, 1, 0x00, 0x01, 7, 30, o]
    decodeRequest (0x0E :: entry 1) = some (.loadInputs [(7, ⟨.rising, 40, .ringNow, 1, 7, 30, true⟩)])
      ∧ decodeRequest (0x0E :: entry 2) = none := by decide +kernel

theorem test_witness_GateRequestsDecide :
    takesRequests (holding heldTap base) ∧ writersHeld (holding heldTap base) = false
      ∧ (gateAt (holding heldTap base) 2).referral = some heldTap ∧ heldTap.number = 9
      ∧ (holding heldTap base).gate.movements.length < 1024 ∧ entryAt (holding heldTap base) 12 = some plainPupil
      ∧ (gateAt base 7).referral = none := by decide

/-- A state whose movement list is full. -/
def fullMovements (s : State) : State :=
  let m : Movement := { second := 1, gate := 0, direction := .inward, pupil := 1, kind := .reentry, minutes := none
                        referral := none }
  { s with gate := { s.gate with movements := List.replicate 1024 m } }

/-- The reader's segment is idle, no notice can be withdrawn, and the movement list is full: of GateRequestsDecide,
ReferralExpires and SettlementStarts. -/
theorem test_witness_readerAnswered :
    lineIdle (holding heldTap base) heldTap.segment ∧ (holding heldTap base).msg.notices = []
      ∧ (∀ k, k < 8 → k ≠ 2 → (gateAt (holding heldTap base) k).referral = none)
      ∧ 1024 ≤ (fullMovements (holding heldTap base)).gate.movements.length
      ∧ (fullMovements (holding heldTap base)).gate.movementsFull = false
      ∧ (gateAt (fullMovements (holding heldTap base)) 2).referral = some heldTap := by decide +kernel

/-- A referral that expires with a full list: the reader is answered, and the flag is set with its alert (R78, R83). -/
theorem test_expiry_fullList :
    leads (.referralExpiry 2) { fullMovements (holding heldTap base) with
        line := { base.line with upSending := some (.report someReport) } }
      (fun t => decide ((segmentAt t 1).sending = some ⟨0x20, .gateAnswer 4 .seeOffice (some 40117) (some .onTime) 0⟩
        ∧ t.gate.movementsFull = true ∧ t.office.reportNumber = 3)) := by
  decide +kernel

theorem test_witness_GateRequestsDecide_arrivals :
    let late := { heldTap with session := some .am, band := some .lateAfterClose, minutes := 240 }
    let leaves := { heldTap with direction := .outward, reason := .noSelfExit, band := none }
    (gateAt (holding late base) 2).referral = some late ∧ RollOrdered (holding late base)
      ∧ arrivalAsks plainPupil ⟨late.session, .lateAfterClose, late.minutes⟩ .am
      ∧ arrivalMark plainPupil ⟨late.session, .lateAfterClose, late.minutes⟩ .am = ⟨.lateAfterClose, some .gate⟩
      ∧ excusedMark ⟨.lateAfterClose, some .gate⟩ = ⟨.excused, some .excuse⟩
      ∧ (gateAt (holding leaves base) 2).referral = some leaves ∧ leaves.band = none
      ∧ heldTap.session = none := by decide

theorem test_witness_ExcuseRequestsCover :
    takesRequests base ∧ writersHeld base = false ∧ base.sched.clock = .set
      ∧ findPupil base 40117 = some (12, plainPupil) ∧ base.sched.day + 14 ≤ 365
      ∧ excuseRoom 12 base.roll.excuses (insertedExcuses ⟨12, 64, 64, .am, .illness, .office⟩ base.roll.excuses)
      ∧ base.roll.excuses.length ≤ 256 ∧ RollOrdered base
      ∧ excuseRoom 12 [] (insertedExcuses ⟨12, 50, 50, .am, .illness, .office⟩ [])
      ∧ base.sched.day + 0 ≤ 50 ∧ 50 ≤ min 365 (base.sched.day + 0 + 1 - 1) ∧ plainPupil.recordDay = 50 := by decide

/-- A list for every new entry and list, of ExcuseRequestsCover and ParentReportsAreReplied: the model's own (R114,
R115). -/
theorem test_witness_excuseInserted (x : Excuse) (l : List Excuse) : excuseInserted x l (insertedExcuses x l) :=
  insertedExcuses_inserted x l

/-- R115: a new entry that touches two takes the place of the earlier, and the other leaves. -/
theorem test_excuse_merges :
    let one (slot first last : Nat) (r : ExcuseReason) (src : ExcuseSource) : Excuse := ⟨slot, first, last, .am, r, src⟩
    insertedExcuses (one 12 56 57 .illness .office)
        [one 12 58 60 .illness .parent, one 13 1 2 .medical .office, one 12 52 55 .illness .parent]
      = [one 12 52 60 .illness .office, one 13 1 2 .medical .office] := by decide

theorem test_witness_ExcuseRequestsCover_proper : ExcusesDisjoint base :=
  ⟨⟨List.Pairwise.nil, fun _ h => nomatch h⟩, by decide⟩

/-- The day excuses of some pupils other than the one of the tests. -/
def otherExcuses (l : List Nat) : List Excuse := l.map fun i => ⟨100 + i, 50, 50, .both, .illness, .office⟩

/-- A full excuse table with a range of the pupil from day 50 to day 60. -/
def fullExcuses : List Excuse := ⟨12, 50, 60, .both, .illness, .office⟩ :: otherExcuses (List.range 255)

theorem excusesProper_others (l : List Nat) (h : l.Nodup) :
    excusesProper (⟨12, 50, 60, .both, .illness, .office⟩ :: otherExcuses l) := by
  refine ⟨List.pairwise_cons.mpr ⟨fun e he hs => ?_, ?_⟩, fun e he => ?_⟩
  · obtain ⟨i, -, rfl⟩ := List.mem_map.mp he
    exact absurd (show (12 : Nat) = 100 + i from hs) (by omega)
  · refine List.pairwise_map.mpr (h.imp fun hne hs => ?_)
    exact absurd (Nat.add_left_cancel hs) hne
  · rcases List.mem_cons.mp he with rfl | he
    · exact ⟨by decide, by decide⟩
    · obtain ⟨i, -, rfl⟩ := List.mem_map.mp he
      exact ⟨Nat.le_refl 50, show 50 ≤ 365 by decide⟩

theorem test_witness_ExcuseRequestsCover_full :
    ExcusesDisjoint { base with roll := { base.roll with excuses := fullExcuses } }
      ∧ ¬excuseRoom 12 fullExcuses (insertedExcuses ⟨12, 64, 64, .am, .illness, .office⟩ fullExcuses)
      ∧ 256 < (fullExcuses.countP fun x => rangeMeets 12 55 55 .both x && (piecesOf 55 55 .both x).length == 2)
          + fullExcuses.length :=
  ⟨⟨excusesProper_others _ List.nodup_range, by decide +kernel⟩, by decide +kernel, by decide +kernel⟩

theorem test_witness_NoticeRequestsQueue :
    takesRequests base ∧ writersHeld base = false ∧ findPupil base 40117 = some (12, plainPupil)
      ∧ plainPupil.family = 812 ∧ (tabFind base.roll.families 812).isSome = true
      ∧ firstNotify (contactsOf base 812) = some 0 ∧ base.msg.notices = []
      ∧ (∃ n ∈ (withNotices [{ queuedNotice with reason := .office }]).msg.notices, n.family = 812 ∧ n.reason = .office)
      ∧ ([.absence, .concern] : List NoticeReason).Nodup ∧ ¬([.absence, .absence] : List NoticeReason).Nodup := by
  decide

theorem test_witness_LineLoadsReplace :
    badStation ⟨47, 0xEF, 0xFF, 3, .sounder, 15, true⟩ = false ∧ stationAddress 0x10 = true
      ∧ ([0x10, 0xEF] : List Byte).Nodup ∧ ¬([0x10, 0x10] : List Byte).Nodup
      ∧ (segmentAt (awaiting .poll base) 1).exchange.isSome = true
      ∧ (segmentAt base 3).sending = none ∧ (segmentAt base 3).exchange = none ∧ (segmentAt base 3).queue = [] := by
  decide

theorem test_witness_SetParamsClamps :
    (([⟨.grace, 301, some 7⟩, ⟨.pmin, 100, none⟩] : List ParamItem).map itemKey).Nodup
      ∧ ¬(([⟨.pmin, 0, some 1⟩, ⟨.pmin, 1, none⟩] : List ParamItem).map itemKey).Nodup := by decide

theorem test_witness_TickAdvancesClockAndTimers :
    base.office.powered = true ∧ base.sched.clock = .set ∧ base.sched.second < 86399
      ∧ { base.sched with second := 86399, day := 365 }.day < 366 ∧ { base.sched with day := 366 }.day = 366
      ∧ State.reset.sched.clock = .unset ∧ State.reset.office.powered = true := by decide

theorem test_witness_TickAdvancesClockAndTimers_timers :
    bellWaits State.reset ∧ State.reset.msg.windowOpen = false
      ∧ (∀ g, g < 8 → ∀ r ∈ (gateAt (holding { heldTap with timer := 1 } State.reset) g).referral, r.timer ≠ 0)
      ∧ (∀ n ∈ [{ offeredNotice with timer := 1 }, queuedNotice], timedOut n = false) := by decide

/-- A gate with a referral and a memory, in which a tick has only timers to count. -/
def counting (s : State) : State :=
  setGateAt 2 { coldGate with
    memory := some ⟨0x1111, .hold, 31000, 15⟩, referral := some { heldTap with timer := 1 } } s

/-- The ticks of a SET clock in which the timers alone count: without an event, on day 366, and at midnight with the
settlement held; and at midnight with nothing to hold it. -/
theorem test_witness_TickAdvancesClockAndTimers_setTimers :
    let s := counting (activeDay .past)
    let out := counting { base with sched := { base.sched with day := 366, second := 86399 } }
    let late := counting { base with sched := { base.sched with second := 86399 } }
    let held := { late with roll := { late.roll with heldTriggers := [50] } }
    s.office.powered = true ∧ s.sched.clock = .set ∧ s.sched.second < 86399 ∧ bellWaits s ∧ s.msg.windowOpen = false
      ∧ 86399 ≤ out.sched.second ∧ 366 ≤ out.sched.day ∧ bellWaits out
      ∧ 86399 ≤ held.sched.second ∧ held.sched.day < 366 ∧ held.roll.heldTriggers ≠ [] ∧ bellWaits held
      ∧ late.roll.rollState = .normal ∧ late.roll.heldTriggers = [] ∧ late.reg.walks = [] ∧ bellWaits late := by decide

theorem test_witness_TickAdvancesClockAndTimers_quiet :
    timersRun (counting (activeDay .past)) ∧ noEvent (counting (activeDay .past)) 31292 := by
  refine ⟨⟨?_, fun _ h => nomatch h⟩, rfl, fun _ _ h => nomatch h⟩
  have h : ∀ g, g < 8 → ∀ r ∈ (gateAt (counting (activeDay .past)) g).referral, r.timer ≠ 0 := by decide
  exact fun g hg r hr => h g hg r hr

/-- A tick of a SET clock: the memory's age rises to 16, and the referral's timer reaches 0 (R69, R81). -/
theorem test_tick_setTimers :
    leads .secondsTick (counting (activeDay .past))
      (fun t => decide ((gateAt t 2).memory.map (·.age) = some 16
        ∧ (gateAt t 2).referral.map (·.timer) = some 0)) := by
  decide +kernel

theorem test_witness_TickAdvancesClockAndTimers_event :
    let s := { activeDay (.next 2) with
      bell := (ringing [someJob, someJob, someJob]).bell
      sched := { (activeDay (.next 2)).sched with second := 32999 } }
    oneEvent s 2 ⟨33000, .sessionClose .am, 0, 0, 1, false⟩ s.sched.second (s.sched.second + 1)
      ∧ s.office.powered = true ∧ s.sched.clock = .set ∧ s.sched.second < 86399 ∧ s.roll.rollState = .normal
      ∧ bellWaits s ∧ s.bell.current.isSome = true ∧ s.bell.waiting.length < 4 ∧ s.msg.creditLimit = 0
      ∧ s.office.reportNumber ≤ 65535 ∧ (∀ g, g < 8 → ∀ r ∈ (gateAt s g).referral, r.timer ≠ 0)
      ∧ ∀ n ∈ s.msg.notices, timedOut n = false :=
  ⟨⟨rfl, rfl, rfl, rfl, by decide, by decide, fun _ h => nomatch h⟩, by decide⟩

/-- A boundary event before the next tick, with a plan staged that lacks the AM close. -/
theorem test_witness_TickAdvancesClockAndTimers_boundary :
    let e : Event := ⟨32000, .bell, 1, 1, 1, true⟩
    let s := { activeDay (.next 0) with
      bell := (ringing []).bell, reg := openAm.reg
      sched := { (activeDay (.next 0)).sched with second := 31999, staged := some 7, plans := [(0, [e])] } }
    s.sched.state = .active ∧ s.sched.staged = some 7 ∧ s.sched.cursor = .next 0 ∧ (activeEvents s)[0]? = some e
      ∧ e.boundary = true ∧ e.time = s.sched.second + 1 ∧ s.office.powered = true ∧ s.sched.clock = .set
      ∧ s.roll.rollState = .normal ∧ bellWaits s ∧ s.bell.current.isSome = true ∧ s.bell.waiting.length < 4
      ∧ s.msg.creditLimit = 0 ∧ s.office.reportNumber ≤ 65535
      ∧ (∀ g, g < 8 → ∀ r ∈ (gateAt s g).referral, r.timer ≠ 0) ∧ (∀ n ∈ s.msg.notices, timedOut n = false)
      ∧ formState s .am = .opened ∧ behind (planAt s 7) e.time (.sessionClose .am) = true := by decide

theorem test_witness_SettlementStarts :
    let s := { base with roll := { base.roll with heldTriggers := [51, 52] } }
    s.office.powered = true ∧ s.roll.heldTriggers = 51 :: [52] ∧ s.roll.rollState = .normal
      ∧ s.reg.walks = [] := by decide

theorem test_witness_SettleSlotSettles :
    (settling 12).office.powered = true ∧ (settling 12).roll.rollState = .rollover 51
      ∧ (settling 12).roll.cursor < 3071 ∧ entryAt (settling 12) 12 = some plainPupil ∧ plainPupil.recordDay ≠ 51
      ∧ entryAt (settling 3070) 3070 = none ∧ (settling 3071).roll.cursor = 3071 ∧ entryAt (settling 3071) 3071 = none
      ∧ (settling 3071).sched.outstanding = 1 ∧ (settling 3071).sched.staged = none := by decide

/-- Both sides of R18: below the threshold with Pmin sessions, and a concern flag at the clearing level. -/
theorem test_witness_SettleSlotSettles_concern :
    let s := settling 12
    s.office.params.pmin ≤ (settledCounts pupil40117).p
      ∧ attendance (settledCounts pupil40117) < s.office.params.threshold ∧ pupil40117.term.concern = false
      ∧ (let e := { pupil40117 with term := { term117 with a := 112, concern := true } }
         ¬attendance (settledCounts e) < min 1000 (s.office.params.threshold + s.office.params.hysteresis)) := by
  decide

/-- The pupil in slot 3071, the last to be settled, with settlements outstanding. -/
def settlingLast (outstanding : Nat) : State :=
  let s := settling 3071
  { s with roll := { s.roll with roll := [(3071, plainPupil)] }, sched := { s.sched with outstanding := outstanding } }

theorem test_witness_SettleSlotSettles_last :
    (settlingLast 1).roll.cursor = 3071 ∧ entryAt (settlingLast 1) 3071 = some plainPupil
      ∧ plainPupil.recordDay ≠ 51 ∧ (settlingLast 1).sched.outstanding = 1 ∧ (settlingLast 1).sched.staged = none
      ∧ 2 ≤ (settlingLast 2).sched.outstanding ∧ (settlingLast 2).roll.rollState = .rollover 51
      ∧ { (settling 3071).sched with outstanding := 2 }.outstanding = 2
      ∧ { plainPupil with recordDay := 51 }.recordDay = 51 := by decide

/-- A state whose running walk stands at slot 12. -/
def walking (k : WalkKind) (e : RollEntry) : State :=
  { withPupil e with reg := { base.reg with walks := [⟨k, 12⟩] } }

/-- A state whose running walk stands at slot 3071, with the pupil there and the notice window OPEN. -/
def walkingLast (k : WalkKind) (e : RollEntry) : State :=
  { base with
    roll := { base.roll with roll := [(3071, e)] }
    reg := { base.reg with walks := [⟨k, 3071⟩] }
    msg := { base.msg with windowOpen := true } }

/-- The pupil on site since 31260 by gate 2. -/
def onSitePupil : RollEntry :=
  { plainPupil with day := { clearedDay with onSite := .onSite, arrival := some ⟨31260, 2⟩ } }

theorem test_witness_WalksVisitSlots :
    let s := walking (.close .am (some 31200)) onSitePupil
    s.office.powered = true ∧ s.reg.walks = ⟨.close .am (some 31200), 12⟩ :: [] ∧ entryAt s 12 = some onSitePupil
      ∧ (onSitePupil.day.marks.get .am).code = .untaken ∧ onSitePupil.day.arrival = some ⟨31260, 2⟩
      ∧ 31260 ≤ 31200 + graceAt s 2 ∧ (pupil40117.day.marks.get .am).code ≠ .untaken
      ∧ entryAt (walking (.close .am none) pupil40117) 12 = some pupil40117
      ∧ entryAt { s with roll := { s.roll with roll := [] } } 12 = none
      ∧ (walking (.periodEnd 10) onSitePupil).reg.walks = ⟨.periodEnd 10, 12⟩ :: []
      ∧ tabGet LessonMark.unset [(10, .absent)] 10 = .absent := by decide

theorem test_witness_WalksVisitSlots_last :
    let s := walkingLast (.close .pm none) plainPupil
    s.office.powered = true ∧ s.reg.walks = ⟨.close .pm none, 3071⟩ :: [] ∧ entryAt s 3071 = some plainPupil
      ∧ (plainPupil.day.marks.get .pm).code = .untaken ∧ plainPupil.day.arrival = none
      ∧ s.msg.windowOpen = true ∧ s.roll.rollState = .normal ∧ s.msg.walk = .idle
      ∧ (pupil40117.day.marks.get .pm).code ≠ .untaken
      ∧ entryAt (walkingLast (.periodEnd 1) pupil40117) 3071 = some pupil40117
      ∧ entryAt { s with roll := { s.roll with roll := [] } } 3071 = none := by decide

/-- The last visit of a walk leaves the list and sets the notice walk running (R103). -/
theorem test_lastVisit_requestsWalk :
    leads .closeWalkVisit (walkingLast (.close .pm none) pupil40117)
      (fun t => decide (t.reg.walks = [] ∧ t.msg.walk = .running ∧ t.msg.cursor = 0)) := by
  decide +kernel

/-- A state whose notice walk stands at a pupil who is concern due. -/
def noticing (l : List Notice) : State :=
  let e := { plainPupil with day := { clearedDay with flags := { clearedFlags with dueConcern := true } } }
  { withPupil e with msg := { base.msg with
      walk := .running, cursor := 12, windowOpen := true, templates := ⟨1, 2, 3, 4⟩, notices := l } }

theorem test_witness_NoticeWalkMakesRecords :
    let s := noticing []
    let e := { plainPupil with day := { clearedDay with flags := { clearedFlags with dueConcern := true } } }
    s.office.powered = true ∧ s.msg.walk = .running ∧ s.roll.rollState = .normal ∧ s.msg.cursor = 12
      ∧ entryAt s 12 = some e ∧ noticesHeld s e.family = false ∧ noticeCondition s e .concern = true
      ∧ doneFlag e.day.flags .concern = false ∧ templateOf s.msg.templates (noticeOf .concern).1 ≠ 0
      ∧ (∀ q ∈ dueReasons, q ≠ .concern → noticeCondition s e q = false)
      ∧ firstNotify (contactsOf s e.family) = some 0 ∧ findCombination s e.family .concern = none
      ∧ firstNotify (contactsOf { s with roll := { s.roll with families := [] } } e.family) = none
      ∧ (∀ r ∈ dueReasons, noticeCondition base plainPupil r = false) := by decide

theorem test_witness_NoticeWalkMakesRecords_full :
    findCombination (noticing (List.replicate 256 queuedNotice)) 812 .concern = none
      ∧ 256 ≤ (noticing (List.replicate 256 queuedNotice)).msg.notices.length := by decide +kernel

/-- A family's QUEUED and OFFERED record for the pupil's reason. -/
theorem test_witness_NoticeWalkMakesRecords_joined :
    let q := { queuedNotice with reason := .concern, session := none, pupils := [(40118, false)] }
    let o := { q with state := .offered }
    findCombination (noticing [q]) 812 .concern = some q ∧ (noticing [q]).msg.notices = [] ++ q :: []
      ∧ NoticesOrderly (noticing [q]) ∧ q.state = .queued ∧ q.pupils.length < 4
      ∧ findCombination (noticing [o]) 812 .concern = some o ∧ NoticesOrderly (noticing [o]) ∧ o.state ≠ .queued :=
  ⟨by decide, rfl, ⟨by decide, by decide, by decide, by decide⟩, by decide, by decide, by decide,
    ⟨by decide, by decide, by decide, by decide⟩, by decide⟩

theorem test_witness_NoticeWalkMakesRecords_late :
    let e := { plainPupil with day := { clearedDay with
      marks := ⟨⟨.lateAfterClose, some .gate⟩, ⟨.untaken, none⟩⟩, minutesLate := 31
      flags := { clearedFlags with dueLate := ⟨true, false⟩ } } }
    let q := { queuedNotice with reason := .lateClosed, minutes := some 30, pupils := [(40118, false)] }
    let s := { noticing [q] with roll := (withPupil e).roll }
    entryAt s 12 = some e ∧ noticeCondition s e (.late .am) = true
      ∧ (∀ r ∈ dueReasons, r ≠ .late .am → noticeCondition s e r = false)
      ∧ findCombination s 812 (.late .am) = some q
      ∧ leads .noticeWalkVisit s
      (fun t => decide (t.msg.notices
          = [{ q with pupils := [(40118, false), (40117, false)], minutes := some 31 }])) := by
  decide +kernel

/-- A record whose listed pupils on the roll have no minutes, one pupil being off the roll, keeps its own; the joining
clause of NoticeWalkMakesRecords, and a sibling who leaves. -/
theorem test_witness_NoticeWalkMakesRecords_kept :
    let e := { plainPupil with day := { clearedDay with
      marks := ⟨⟨.lateAfterClose, some .gate⟩, ⟨.untaken, none⟩⟩
      flags := { clearedFlags with dueLate := ⟨true, false⟩ } } }
    let q := { queuedNotice with reason := .lateClosed, minutes := some 30, pupils := [(40118, false)] }
    let s := { noticing [q] with roll := (withPupil e).roll }
    entryAt s 12 = some e ∧ noticeCondition s e (.late .am) = true ∧ findPupil s 40118 = none
      ∧ (findPupil s 40117).map (fun x => x.2.day.minutesLate) = some 0
      ∧ leads .noticeWalkVisit s
        (fun t => decide (t.msg.notices = [{ q with pupils := [(40118, false), (40117, false)] }]))
      ∧ withdrawnRecord s 40117 { q with pupils := [(40118, false), (40117, false)] } = some q := by
  decide +kernel

theorem test_witness_NoticeWalkMakesRecords_passEnd :
    let s := { noticing [] with msg := { (noticing []).msg with cursor := 3071 } }
    let e := { plainPupil with day := { clearedDay with flags := { clearedFlags with dueConcern := true } } }
    let k := { s with roll := { s.roll with roll := [(3071, e)] } }
    s.msg.walk = .running ∧ s.msg.cursor = 3071 ∧ s.msg.creditLimit = 0 ∧ entryAt s 3071 = none
      ∧ s.msg.rewalk = false ∧ { s.msg with rewalk := true }.rewalk = true ∧ entryAt k 3071 = some e
      ∧ noticeCondition k e .concern = true ∧ k.msg.cursor = 3071 ∧ k.msg.creditLimit = 0 := by decide

theorem test_witness_ReferralExpires :
    (holding heldTap base).office.powered = true ∧ (gateAt (holding heldTap base) 2).referral = some heldTap
      ∧ heldTap.timer = 0 ∧ (holding heldTap base).gate.movements.length < 1024
      ∧ (gateAt (holding { heldTap with timer := 1 } base) 2).referral = some { heldTap with timer := 1 } := by decide

/-- A state in which contact input 7 has been taken HIGH with a configuration. -/
def withInput (c : InputConfig) (s : State) : State :=
  setInputAt 7 { coldInput with taken := true, config := c } s

theorem test_witness_ContactsAndRelaysFollow :
    let c : InputConfig := ⟨.falling, 40, .ringNow, 1, 1, 5, false⟩
    let s := withInput c (ringing [someJob, someJob, someJob])
    soundingAt base 15 = 0 ∧ s.office.powered = true ∧ inputAt s 7 = { coldInput with taken := true, config := c }
      ∧ coldInput.level ≠ .low ∧ c.debounce ≤ 40 ∧ s.bell.current.isSome = true ∧ bellWaits s
      ∧ s.bell.waiting.length < 4 ∧ (inputAt base 7).taken = false ∧ ¬39 ≥ c.debounce
      ∧ soundingAt { base with bell := { base.bell with sounding := [(15, 1)] } } 15 ≠ 0 := by decide

/-- R57 at a job's end: of the held inputs 0, 1 and 5 the first two ask, the job of 5 being pending; its discard for
want of room does not make 5 ask again. -/
theorem test_endJob_asksOnce :
    let c : InputConfig := ⟨.lowLevel, 40, .ringNow, 1, 1, 5, false⟩
    let held : ContactInput := { level := .low, taken := true, live := true, config := c }
    let job : BellJob := { someJob with origin := .input 5 }
    let s := setInputAt 0 held (setInputAt 1 held (setInputAt 5 held
      { ringing [someJob, job, someJob, someJob] with
        line := { base.line with upSending := some (.report someReport) } }))
    inputsAsking (promote (setCurrent none s)) = [0, 1]
      ∧ (endJob s).bell.waiting.map (·.origin) = [.office, .office, .input 0, .input 1] := by decide +kernel

theorem test_witness_ContactsAndRelaysFollow_lowLevel :
    let c : InputConfig := ⟨.lowLevel, 40, .ringNow, 0x8001, 1, 5, false⟩
    let s := setInputAt 7 { coldInput with config := c } (ringing [someJob, someJob, someJob])
    let k := withInput { c with sense := .falling } base
    (inputAt s 7).taken = false ∧ (inputAt s 7).config = c ∧ s.bell.current.isSome = true ∧ bellWaits s
      ∧ s.bell.waiting.length < 4 ∧ k.bell.current = none ∧ k.bell.waiting = []
      ∧ (∀ i, i < 8 → i ≠ 7 → (inputAt k i).live = false)
      ∧ (∀ z, z < 16 → inZones (0x8001 : ZoneMask) z = true → sounders k z = []) := by decide +kernel

theorem test_witness_InwardTapIsAnswered :
    let s := polled .gateIn base
    s.office.powered = true ∧ awaitsPoll s 1 0x20 3 ∧ (stationAt s 3).kind = .gateIn ∧ (stationAt s 3).unit = 2
      ∧ decodeTap tapBytes = some (0x1111, 4) ∧ writersHeld s = false ∧ (gateAt s 2).referral = none
      ∧ (gateAt s 2).memory = none ∧ RollOrdered s ∧ findToken s 0x1111 = some (12, plainPupil)
      ∧ (gateAt s 2).mode = .free ∧ s.gate.movements.length < 1024 ∧ s.office.reports.length < 63
      ∧ findToken (polled .gateIn State.reset) 0x1111 = none := by decide

theorem test_witness_InwardTapIsAnswered_others :
    awaitsPoll (polled .gateIn (settling 0)) 1 0x20 3 ∧ writersHeld (polled .gateIn (settling 0)) = true
      ∧ awaitsPoll (polled .gateIn (holding heldTap base)) 1 0x20 3
      ∧ (gateAt (polled .gateIn (holding heldTap base)) 2).referral = some heldTap
      ∧ (let s := polled .gateIn (setGateAt 2 { coldGate with memory := some ⟨0x1111, .opened, 31286, 5⟩ } base)
         (gateAt s 2).memory = some ⟨0x1111, .opened, 31286, 5⟩ ∧ s.office.params.dupWindow = 5)
      ∧ (gateAt (polled .gateIn (setGateAt 2 { coldGate with mode := .shut } base)) 2).mode = .shut
      ∧ (gateAt (polled .gateIn (setGateAt 2 { coldGate with mode := .referral } base)) 2).mode = .referral := by decide

/-- Gate 2 in service by an IN reader of its own, with an OUT reader polled. -/
def leaving (e : RollEntry) : State :=
  polled .gateOut (setStationAt 4 { address := 0x21, mask := 0xFF, segment := 1, kind := .gateIn, unit := 2
                                    enabled := true, presence := .present, misses := 0 } (withPupil e))

/-- A state whose report queue is full. -/
def fullReports (s : State) : State :=
  { s with office := { s.office with
      reports := List.replicate 64 someReport } }

theorem test_witness_InwardTapIsAnswered_full :
    let s := fullReports (polled .gateIn (setGateAt 2 { coldGate with mode := .referral } base))
    64 ≤ s.office.reports.length ∧ (gateAt s 2).mode = .referral ∧ awaitsPoll s 1 0x20 3
      ∧ s.gate.movements.length < 1024 ∧ (stationAt s 3).presence = .present := by decide +kernel

/-- A TAP without its layout, at each kind of reader. -/
theorem test_witness_InwardTapIsAnswered_malformed :
    decodeTap [0x00, 0x00, 0x11, 0x11] = none ∧ decodeTap (tapBytes ++ [0]) = none
      ∧ awaitsPoll (polled .gateIn base) 1 0x20 3 ∧ awaitsPoll (polled .gateOut base) 1 0x20 3
      ∧ (stationAt (polled .gateOut base) 3).kind = .gateOut ∧ writersHeld (polled .gateOut base) = false
      ∧ 1024 ≤ (fullMovements (polled .gateIn base)).gate.movements.length
      ∧ awaitsPoll (fullMovements (polled .gateIn base)) 1 0x20 3 := by decide +kernel

/-- An arrival after the close of the session (R77): the mark, the minutes and the due flag. -/
theorem test_arrival_recorded :
    let s := polled .gateIn { activeDay .past with sched := { (activeDay .past).sched with second := 33091 } }
    (judgeArrival s 2 33091).band = .lateAfterClose
      ∧ leads (.tap 1 0x20 tapBytes) s
      (fun t => decide ((entryAt t 12).map (fun e => (e.day.marks.am, e.day.minutesLate, e.day.flags.dueLate.am))
            = some (⟨.lateAfterClose, some .gate⟩, 31, true))) := by
  decide +kernel

theorem test_witness_OutwardTapIsAnswered :
    let s := leaving plainPupil
    let k := leaving { plainPupil with noSelfExit := true }
    s.office.powered = true ∧ RollOrdered s ∧ awaitsPoll s 1 0x20 3 ∧ (stationAt s 3).kind = .gateOut
      ∧ (stationAt s 3).unit = 2 ∧ writersHeld s = false ∧ (gateAt s 2).referral = none ∧ (gateAt s 2).memory = none
      ∧ outOfService s 2 = false ∧ (gateAt s 2).mode ≠ .shut ∧ findToken s 0x1111 = some (12, plainPupil)
      ∧ plainPupil.noSelfExit = false ∧ findToken k 0x1111 = some (12, { plainPupil with noSelfExit := true })
      ∧ outOfService k 2 = false ∧ k.office.reports.length < 63 := by decide

theorem test_witness_OutwardTapIsAnswered_others :
    let shown (g : Gate) := setGateAt 2 g (leaving plainPupil)
    let k := leaving { plainPupil with noSelfExit := true }
    (gateAt (shown { coldGate with referral := some heldTap }) 2).referral = some heldTap
      ∧ outOfService (polled .gateOut base) 2 = true ∧ awaitsPoll (polled .gateOut base) 1 0x20 3
      ∧ (gateAt (polled .gateOut base) 2).referral = none
      ∧ (gateAt (shown { coldGate with memory := some ⟨0x1111, .opened, 31286, 5⟩ }) 2).memory
          = some ⟨0x1111, .opened, 31286, 5⟩
      ∧ State.reset.office.params.dupWindow = 5
      ∧ outOfService (shown { coldGate with mode := .shut }) 2 = false
      ∧ (gateAt (shown { coldGate with mode := .shut }) 2).mode = .shut
      ∧ findToken (shown coldGate) 0x2222 = none ∧ decodeTap [0x00, 0x00, 0x22, 0x22, 0x04] = some (0x2222, 4)
      ∧ 64 ≤ (fullReports k).office.reports.length ∧ outOfService (fullReports k) 2 = false
      ∧ findToken (fullReports k) 0x1111 = some (12, { plainPupil with noSelfExit := true }) := by decide +kernel

/-- A REGISTER of one entry in the AM window of group 23, and in lesson window 10 in room 7. -/
def formBytes : List Byte := [5, 0, 0, 23, 1, 0x9C, 0xB5, 0]

/-- A REGISTER of one entry in lesson window 10. -/
def lessonBytes : List Byte := [5, 1, 10, 7, 1, 0x9C, 0xB5, 2]

theorem test_witness_RegisterIsAcknowledged :
    let s := polled .terminal openAm
    let k := polled .terminal { base with reg := { base.reg with lessons := [(10, .opened)] } }
    awaitsPoll s 1 0x20 3 ∧ (stationAt s 3).kind = .terminal ∧ writersHeld s = false
      ∧ decodeRegister formBytes = some ⟨5, .form .am 23, [(40117, .present)]⟩ ∧ formState s .am = .opened
      ∧ findPupil s 40117 = some (12, plainPupil) ∧ (plainPupil.day.marks.get .am).code = .untaken
      ∧ RollOrdered s ∧ plainPupil.form = 23 ∧ decodeRegister [] = none
      ∧ formState (polled .terminal base) .am = .notOpened
      ∧ decodeRegister lessonBytes = some ⟨5, .lesson 10 7, [(40117, .absent)]⟩ ∧ lessonAt k 10 = .opened
      ∧ awaitsPoll k 1 0x20 3 ∧ findPupil k 40117 = some (12, plainPupil)
      ∧ writersHeld (polled .terminal (settling 0)) = true := by decide +kernel

/-- A REGISTER of three entries, one of them of a pupil not in the roll, in the AM window of group 23. -/
def mixedBytes : List Byte := [5, 0, 0, 23, 3, 0x9C, 0xB5, 1, 0x9C, 0xB6, 0, 0x9C, 0xB5, 2]

/-- The AM windows OPEN, with group 23's one pupil expected and still to be marked. -/
def countedAm : State :=
  polled .terminal { base with reg := { base.reg with
    form := ⟨⟨.opened, [(23, ⟨1, 1, false, false⟩)]⟩, ⟨.notOpened, []⟩⟩ } }

theorem test_witness_RegisterIsAcknowledged_entries :
    let s := { countedAm with line := { countedAm.line with upSending := some (.report someReport) } }
    awaitsPoll s 1 0x20 3 ∧ writersHeld s = false ∧ RollOrdered s ∧ formState s .am = .opened
      ∧ decodeRegister mixedBytes = some ⟨5, .form .am 23, [(40117, .late), (40118, .present), (40117, .absent)]⟩
      ∧ findPupil s 40118 = none ∧ expectedIn plainPupil .am = true
      ∧ expectedIn { plainPupil with day := { clearedDay with
          marks := ⟨⟨.notRequired, some .office⟩, ⟨.untaken, none⟩⟩ } } .am = false
      ∧ plainPupil.day.registerMarked.get .am = false ∧ (formAt s .am 23).unmarked = 1
      ∧ s.line.upSending.isSome = true ∧ s.office.reports.length < 63 := by decide +kernel

theorem test_witness_RegisterIsAcknowledged_counted : RegistersCounted countedAm := by
  refine ⟨fun x h => ?_, fun h => absurd h (by decide)⟩
  cases x
  · decide +kernel
  · exact absurd h (by decide)

/-- That frame: the done flag, and one REGISTER_DONE (R97). -/
theorem test_register_completes :
    leads (.register 1 0x20 mixedBytes)
        { countedAm with line := { countedAm.line with upSending := some (.report someReport) } }
      (fun t => decide (formAt t .am 23 = ⟨1, 0, true, true⟩ ∧ t.office.reportNumber = 1
        ∧ (segmentAt t 1).sending = some ⟨0x20, .registerAck 5 .ok 2 1 (some 0) [(40118, .notFound)]⟩)) := by
  decide +kernel

theorem test_witness_PollAnswersCreditPresence :
    let s := polled .sounder base
    s.office.powered = true ∧ (segmentAt s 1).sending = none ∧ (segmentAt s 1).exchange = some ⟨0x20, .poll⟩
      ∧ classify s 1 0x20 = some 3 ∧ (stationAt s 3).presence = .present ∧ (stationAt s 3).misses = 0
      ∧ (stationAt s 3).kind = .sounder := by decide

theorem test_witness_BellExchangesReport :
    let s := awaiting (.bell 1) (withStation .sounder (ringing []))
    let r : ZoneRing := { toHand := [], handed := 2, reported := 1, acked := 1 }
    let w := awaiting (.bell 1) (withStation .sounder { base with bell := { base.bell with
      current := some { ringingJob with ringing := some { r with handed := 3 } } } })
    s.office.powered = true ∧ awaitsBell s 1 0x20 1 3 ∧ s.bell.current = some ringingJob
      ∧ ringingJob.ringing = some r ∧ r.reported + 1 = r.handed ∧ (stationAt s 3).kind = .sounder
      ∧ s.bell.waiting = [] ∧ (∀ i, i < 8 → (inputAt s i).live = false)
      ∧ awaitsBell w 1 0x20 1 3 ∧ w.bell.current = some { ringingJob with ringing := some { r with handed := 3 } }
      ∧ r.reported + 1 < 3 := by decide

/-- The report clauses of BellExchangesReport. -/
theorem test_witness_BellExchangesReport_reports :
    let s := { awaiting (.bell 1) (withStation .sounder (ringing [])) with
      line := { (awaiting (.bell 1) (withStation .sounder (ringing []))).line with
        upSending := some (.report someReport) } }
    s.line.upSending.isSome = true ∧ s.office.reports.length < 64 ∧ (stationAt s 3).misses = 0
      ∧ backAlerts { stationAt s 3 with presence := .absent } = 1
      ∧ lostAlerts { stationAt s 3 with misses := 2 } = 1 := by decide

theorem test_witness_BellExchangesReport_lastZone :
    ∀ z, ringingJob.zone < z → z < 16 → inZones ringingJob.job.zones z = false := by
  intro z h1 h2
  exact absurd (show 15 < z from h1) (by omega)

theorem test_witness_UntakenFramesAreCounted :
    base.office.powered = true ∧ (segmentAt base 3).sending = none ∧ classify base 3 0x80 = none
      ∧ (segmentAt base 3).exchange = none ∧ (errorsAt base (.field 3)).stranger ≤ 255
      ∧ (errorsAt base .uplink).parity ≤ 255 ∧ (errorsAt base .gateway).alerted = false
      ∧ classify (withStation .sounder base) 1 0x20 = some 3
      ∧ (segmentAt (withStation .sounder base) 1).exchange = none := by decide

theorem test_witness_UntakenFramesAreCounted_exchange :
    let s := awaiting .poll base
    let k := awaiting (.bell 1) { base with bell := { base.bell with current := some { ringingJob with
      ringing := some { toHand := [], handed := 3, reported := 1, acked := 1 } } } }
    (segmentAt s 1).sending = none ∧ classify s 1 0x20 = none ∧ (segmentAt s 1).exchange = some ⟨0x20, .poll⟩
      ∧ (segmentAt k 1).exchange = some ⟨0x20, .bell 1⟩ ∧ classify k 1 0x20 = none ∧ 1 + 1 < 3 := by decide

/-- Segment 1 as it sends a frame. -/
def sends (f : FieldFrame) (g : Segment) : State := setSegmentAt 1 { g with sending := some f } base

/-- An answer to the reader at 0x20. -/
def answerFrame : FieldFrame := ⟨0x20, .gateAnswer 4 .opened none none 0⟩

theorem test_witness_SegmentsSendAndAdmit :
    (segmentAt (sends ⟨0x20, .poll⟩ coldSegment) 1).sending = some ⟨0x20, .poll⟩
      ∧ (segmentAt (sends ⟨0x20, .bell 1 5 1⟩ coldSegment) 1).sending = some ⟨0x20, .bell 1 5 1⟩
      ∧ (segmentAt (sends answerFrame coldSegment) 1).sending = some answerFrame ∧ 2 ≤ outputClass answerFrame
      ∧ (segmentAt (sends answerFrame { coldSegment with queue := [answerFrame, ⟨0x21, .bell 1 5 1⟩] }) 1).queue
          = [answerFrame] ++ ⟨0x21, .bell 1 5 1⟩ :: []
      ∧ outputClass ⟨0x21, .bell 1 5 1⟩ < outputClass answerFrame
      ∧ (segmentAt (sends answerFrame { coldSegment with outside := [answerFrame] }) 1).outside = answerFrame :: []
      ∧ (segmentAt base 1).outside = [] ∧ (segmentAt base 1).sending = none := by decide

/-- A segment that is to poll the last address of its list, past one that is passed over, and wraps. -/
theorem test_witness_SegmentsSendAndAdmit_polls :
    let g := { coldSegment with poll := [0x20, 0x21], cursor := 0, cycle := 7 }
    let s := setStationAt 3 { address := 0x20, mask := 0xFF, segment := 1, kind := .sounder, unit := 2, enabled := true
                              presence := .absent, misses := 3 } (sends answerFrame g)
    let k := setSegmentAt 1 { g with exchange := some ⟨0x80, .poll⟩ } s
    (segmentAt s 1).sending = some answerFrame ∧ (segmentAt s 1).queue = [] ∧ g.poll[0 + 0]? = some 0x20
      ∧ g.poll[(0 + 1) % 2]? = some 0x21 ∧ classify s 1 0x20 = some 3 ∧ (stationAt s 3).presence = .absent
      ∧ (7 + (0 + 0) / 2) % 8 ≠ 0 ∧ classify s 1 0x21 = none
      ∧ (segmentAt k 1).sending = none ∧ (segmentAt k 1).exchange = some ⟨0x80, .poll⟩ ∧ classify k 1 0x80 = none := by
  decide

/-- That poll: the absent address is passed over, and the cycle count wraps. -/
theorem test_poll_skipsAbsent :
    let g := { coldSegment with poll := [0x20, 0x21], cursor := 0, cycle := 7 }
    let s := setStationAt 3 { address := 0x20, mask := 0xFF, segment := 1, kind := .sounder, unit := 2, enabled := true
                              presence := .absent, misses := 3 } (sends answerFrame g)
    leads (.fieldFrameSent 1) s
      (fun t => decide (segmentAt t 1 = { g with sending := some ⟨0x21, .poll⟩, cursor := 0, cycle := 0 })) := by
  decide +kernel

theorem test_witness_SegmentsSendAndAdmit_bell :
    let f : FieldFrame := ⟨0x20, .bell 1 5 1⟩
    let s := { sends answerFrame { coldSegment with outside := [f] } with
      bell := { base.bell with current := some { ringingJob with
        ringing := some { toHand := [(1, 0x20)], handed := 0, reported := 0, acked := 0 } } } }
    (segmentAt s 1).outside = f :: [] ∧ (segmentAt s 1).queue.length < 16 ∧ outputClass f = 1
      ∧ (segmentAt s 1).sending.isSome = true ∧ (∀ h ∈ (segmentAt s 1).queue, outputClass h = 1 → h.dest ≠ f.dest) := by
  decide

theorem test_witness_GatewayPortServes :
    base.line.gwHeld = none ∧ base.msg.windowOpen = false ∧ base.line.gwSending = none
      ∧ { base.line with gwHeld := some ⟨none, none, none, none⟩ }.gwHeld = some ⟨none, none, none, none⟩
      ∧ (handGateway (.parentReply (plainReply .busy none none)) base).line.gwSending
          = some (.parentReply (plainReply .busy none none)) := by decide

/-- A record whose not-before has not come, one whose time has come, and one with the gateway, under a credit limit. -/
def offering (limit : Nat) : State :=
  let late := { queuedNotice with number := 259, reason := .concern, session := none, notBefore := 31292 }
  { base with msg := { base.msg with
      notices := [late, { queuedNotice with notBefore := 31291 }, offeredNotice]
      windowOpen := true, creditLimit := limit } }

/-- Of OfferIsMade and, for a READY of 2, of GatewayPortServes. -/
theorem test_witness_OfferIsMade :
    let late := { queuedNotice with number := 259, reason := .concern, session := none, notBefore := 31292 }
    (offering 2).office.powered = true ∧ (offering 2).line.gwHeld = none
      ∧ oneOffer (offering 2) 2 [late] [offeredNotice] { queuedNotice with notBefore := 31291 }
          ⟨0xA1, true, true, .voice⟩
      ∧ oneOffer (offering 0) (min 8 (2 : Byte).toNat) [late] [offeredNotice] { queuedNotice with notBefore := 31291 }
          ⟨0xA1, true, true, .voice⟩
      ∧ noOffer (offering 2) (min 8 (1 : Byte).toNat) ∧ noOffer base 8 := by decide

/-- That READY: the record whose time has come is offered, and the others stand (R134, R135). -/
theorem test_ready_offers :
    leads (.ready 0x02 [2]) (offering 0)
      (fun t => decide (t.msg.creditLimit = 2 ∧ t.msg.notices.map (·.state) = [.queued, .offered, .offered]
        ∧ t.line.gwSending.isSome = true)) := by
  decide +kernel

theorem test_witness_OutcomesApply :
    let s := withNotices [offeredNotice]
    let last := { offeredNotice with position := 1 }
    s.office.powered = true ∧ s.line.gwHeld = none ∧ s.msg.windowOpen = false ∧ s.msg.walk = .idle
      ∧ s.msg.notices = [] ++ offeredNotice :: [] ∧ offeredNotice ∉ ([] : List Notice)
      ∧ offeredNotice.state = .offered ∧ offeredNotice.number = (1 : Byte).toNat * 256 + (2 : Byte).toNat
      ∧ offeredNotice.attempts = (1 : Byte).toNat ∧ nextNotify (contactsOf s 812) offeredNotice.position = some 1
      ∧ offeredNotice.lastOffered.isSome = true ∧ nextNotify (contactsOf s 812) last.position = none
      ∧ offeredNotice.timer = 0
      ∧ (∀ x ∈ (withNotices [queuedNotice]).msg.notices, x.number = 258 → x.state = .queued ∨ x.attempts ≠ 1) := by
  decide

theorem test_witness_OutcomesApply_pending :
    let n := { offeredNotice with state := .withdrawnPending, pupils := [(40117, false), (40118, true)] }
    let s := withNotices [n]
    s.msg.notices = [] ++ n :: [] ∧ n.state = .withdrawnPending ∧ RollOrdered s
      ∧ n.number = (1 : Byte).toNat * 256 + (2 : Byte).toNat ∧ n.attempts = (1 : Byte).toNat
      ∧ n.lastOffered.isSome = true ∧ n.timer = 0 := by decide

/-- A WITHDRAWN_PENDING record that is not answered leaves, and its listed pupil's done flag is cleared. -/
theorem test_withdrawnPending_leaves :
    let n := { offeredNotice with state := .withdrawnPending, pupils := [(40117, false), (40118, true)] }
    leads (.outcomeTimeout 258)
        { withPupil absentPupil with msg := { base.msg with notices := [n] } }
      (fun t => decide (t.msg.notices = [] ∧ (entryAt t 12).map (·.day.flags.doneAbsence.am) = some false)) := by
  decide +kernel

/-- A PARENT_REPORT of the first contact: today and one day, AM, illness. -/
def reportBytes : List Byte := [0, 0, 0, 0xA1, 0x9C, 0xB5, 0, 0, 1, 0]

theorem test_witness_ParentReportsAreReplied :
    let p : ParentReport := ⟨0xA1, 40117, .illness, 0, 1, .am⟩
    base.office.powered = true ∧ base.line.gwHeld = none ∧ base.line.gwSending = none
      ∧ base.msg.windowOpen = false ∧ writersHeld base = false ∧ base.sched.clock = .set
      ∧ decodeParentReport reportBytes = some p ∧ unmatchedCause base p = none
      ∧ findPupil base 40117 = some (12, plainPupil) ∧ decodeParentReport [] = none
      ∧ unmatchedCause State.reset p = some .noPupil ∧ State.reset.sched.clock = .unset
      ∧ excuseRoom 12 [] (insertedExcuses ⟨12, 50, 50, .am, .illness, .parent⟩ []) := by decide

theorem test_witness_ParentReportsAreReplied_others :
    let late := { base with sched := { base.sched with day := 365 } }
    let p : ParentReport := ⟨0xA1, 40117, .illness, 1, 1, .am⟩
    decodeParentReport [0, 0, 0, 0xA1, 0x9C, 0xB5, 0, 1, 1, 0] = some p ∧ unmatchedCause late p = none
      ∧ 365 < late.sched.day + min 14 p.offset ∧ findPupil late 40117 = some (12, plainPupil)
      ∧ (let k := { base with roll := { base.roll with excuses := fullExcuses } }
         ¬excuseRoom 12 k.roll.excuses (insertedExcuses ⟨12, 51, 51, .am, .illness, .parent⟩ k.roll.excuses)
           ∧ unmatchedCause k p = none ∧ base.sched.day + min 14 p.offset = 51)
      ∧ plainPupil.recordDay = base.sched.day := by decide +kernel

/-- R117: a report for today excuses today's mark at once. -/
theorem test_report_excusesToday :
    leads (.parentReport 0x02 reportBytes) base
      (fun t => decide (markAt t 12 .am = ⟨.excused, some .excuse⟩ ∧ markAt t 12 .pm = ⟨.untaken, none⟩)) := by
  decide +kernel

/-- A reply of the tests. -/
def someReply : Reply := { tag := 7, request := some 12, status := .ok, data := .none }

/-- A state whose uplink sends a frame. -/
def uplinkSends (f : UplinkFrame) (reply : Option Reply) (reports : List Report) (held : Option UplinkIn) : State :=
  { base with
    line := { base.line with upSending := some f, upHeld := held }
    office := { base.office with reply := reply, reports := reports
                                 agent := if reply.isSome then .replying else .idle } }

theorem test_witness_MergeTableDecides_alert :
    let e := { plainPupil with day := { clearedDay with marks := ⟨⟨.late, some .gate⟩, ⟨.untaken, none⟩⟩ } }
    let s := { withPupil e with line := { base.line with upSending := some (.report someReport) } }
    entryAt s 12 = some e ∧ (e.day.marks.get .am).code = .late ∧ (e.day.marks.get .am).source ≠ some .register
      ∧ s.line.upSending.isSome = true ∧ s.office.reports.length < 64 := by decide

theorem test_witness_UplinkTakesAndSends :
    (uplinkSends (.report someReport) none [someReport] none).office.reports = someReport :: []
      ∧ (uplinkSends (.report someReport) (some someReply) [] none).office.reply = some someReply
      ∧ (uplinkSends (.reply someReply) (some someReply) [] none).line.upSending = some (.reply someReply)
      ∧ (uplinkSends (.reply someReply) (some someReply) [] (some ⟨hd, .request .readClock⟩)).line.upHeld
          = some ⟨hd, .request .readClock⟩
      ∧ (uplinkSends (.reply someReply) (some someReply) [] none).office.agent ≠ .idle
      ∧ base.office.agent = .idle ∧ 34 ≤ (0x22 : Byte).toNat := by decide

theorem test_witness_PowerFailsAndReturns :
    let off := { base with office := { base.office with powered := false } }
    base.office.powered = true ∧ off.office.powered = false ∧ off.office.retentionValid = true
      ∧ { off.office with retentionValid := false }.retentionValid = false := by decide

/-- Two days missed (R172). -/
def lateReturn : State :=
  { base with office := { base.office with powered := false }, sched := { base.sched with day := 52 } }

/-- The cases of catch-up of RestartAndClearAll and PowerFailsAndReturns: triggers that start a settlement, those that
are held behind one, the end at once with nothing to run, and with one event passed over. -/
theorem test_witness_restartsAndCatchesUp :
    let held := { settling 12 with sched := { (settling 12).sched with day := 51 } }
    let s := { activeDay (.next 2) with sched := { (activeDay (.next 2)).sched with second := 33000 } }
    daysMissed lateReturn = [51, 52] ∧ lateReturn.roll.rollState = .normal ∧ lateReturn.roll.heldTriggers = []
      ∧ lateReturn.reg.walks = [] ∧ daysMissed held = [51] ∧ held.roll.rollState ≠ .normal
      ∧ daysMissed (settling 12) = [] ∧ (settling 12).sched.outstanding ≠ 0
      ∧ daysMissed base = [] ∧ base.sched.outstanding = 0 ∧ base.sched.state ≠ .active
      ∧ daysMissed s = [] ∧ s.sched.outstanding = 0 ∧ s.sched.state = .active ∧ s.sched.lastSecond < s.sched.second
      ∧ s.roll.rollState = .normal ∧ s.office.reportNumber ≤ 65535 ∧ s.gate.movements.length ≤ 1024 := by decide

theorem test_witness_restartsAndCatchesUp_events :
    let s := { activeDay (.next 2) with sched := { (activeDay (.next 2)).sched with second := 33000 } }
    oneEvent s 2 ⟨33000, .sessionClose .am, 0, 0, 1, false⟩ s.sched.lastSecond s.sched.second
      ∧ noEvent (activeDay .past) 33000 :=
  ⟨⟨rfl, rfl, rfl, rfl, by decide, by decide, fun _ h => nomatch h⟩, rfl, fun _ _ h => nomatch h⟩

/-- R172: the first day missed starts its settlement, and the second is held. -/
theorem test_restart_catchesUp :
    leads .powerUp lateReturn
      (fun t => decide (t.roll.rollState = .rollover 51 ∧ t.roll.heldTriggers = [52] ∧ t.sched.outstanding = 2
        ∧ t.office.catchUp = true)) := by
  decide +kernel

end Sys2Proof.Tests
end

section
/-! PROOFS. What the blocks' operations leave as it was. A view of the state blanks what an operation of its kind may
write; that the operation leaves the rest is one equation between views, and such equations compose by rewriting. -/

namespace Sys2Proof.Machine

open Sys2Proof

variable (s : State)

/-! ### The views -/

/-- The Office Agent without the report queue and its counters (R162, R163). -/
def quietOffice (o : OfficeAgent) : OfficeAgent := { o with reports := [], reportNumber := 0, lost := 0 }

/-- What a report leaves as it was. -/
def exceptReports (s : State) : State :=
  { s with line := { s.line with upSending := none }, office := quietOffice s.office }

/-- What the Line Unit's operations leave as it was. -/
def exceptLine (s : State) : State := { s with line := State.reset.line, office := quietOffice s.office }

/-- What the Bell Sequencer's operations leave as it was. -/
def exceptBell (s : State) : State := { exceptLine s with bell := State.reset.bell, choices := 0 }

/-- What the operations on gates, referrals and movements leave as it was. -/
def exceptGates (s : State) : State :=
  { exceptLine s with gate := { State.reset.gate with onSiteCount := s.gate.onSiteCount } }

theorem exceptLine_of_reports {s t : State} (h : exceptReports t = exceptReports s) : exceptLine t = exceptLine s :=
  show exceptLine (exceptReports t) = exceptLine (exceptReports s) from congrArg exceptLine h

theorem exceptBell_of_line {s t : State} (h : exceptLine t = exceptLine s) : exceptBell t = exceptBell s :=
  show exceptBell (exceptLine t) = exceptBell (exceptLine s) from congrArg exceptBell h

theorem exceptGates_of_line {s t : State} (h : exceptLine t = exceptLine s) : exceptGates t = exceptGates s :=
  show exceptGates (exceptLine t) = exceptGates (exceptLine s) from congrArg exceptGates h

/-! ### Reports -/

@[simp] theorem exceptReports_offerReport (b : ReportBody) : exceptReports (offerReport b s) = exceptReports s := by
  rw [offerReport_eq]; rfl

@[simp] theorem exceptReports_alert (a : Alert) : exceptReports (alert a s) = exceptReports s :=
  exceptReports_offerReport s _

@[simp] theorem exceptReports_uplinkChoose : exceptReports (uplinkChoose s) = exceptReports s := by
  rw [uplinkChoose_eq]; rfl

/-! ### The Line Unit -/

@[simp] theorem exceptLine_modLine (f : LineUnit → LineUnit) : exceptLine (s.modLine f) = exceptLine s := rfl

@[simp] theorem exceptLine_offerReport (b : ReportBody) : exceptLine (offerReport b s) = exceptLine s :=
  exceptLine_of_reports (exceptReports_offerReport s b)

@[simp] theorem exceptLine_alert (a : Alert) : exceptLine (alert a s) = exceptLine s :=
  exceptLine_of_reports (exceptReports_alert s a)

@[simp] theorem exceptLine_uplinkChoose : exceptLine (uplinkChoose s) = exceptLine s :=
  exceptLine_of_reports (exceptReports_uplinkChoose s)

@[simp] theorem exceptLine_setSegmentAt (seg : Nat) (g : Segment) :
    exceptLine (setSegmentAt seg g s) = exceptLine s := rfl

@[simp] theorem exceptLine_setStationAt (n : Nat) (e : Station) : exceptLine (setStationAt n e s) = exceptLine s := rfl

@[simp] theorem exceptLine_setErrorsAt (p : Port) (x : ErrorRecord) :
    exceptLine (setErrorsAt p x s) = exceptLine s := rfl

@[simp] theorem exceptLine_segmentChoose (seg : Nat) : exceptLine (segmentChoose seg s) = exceptLine s := by
  unfold segmentChoose; dsimp only; split <;> simp

@[simp] theorem exceptLine_handFrame (seg : Nat) (f : FieldFrame) : exceptLine (handFrame seg f s) = exceptLine s := by
  unfold handFrame; dsimp only; split <;> simp

@[simp] theorem exceptLine_handGateway (f : GatewayFrame) : exceptLine (handGateway f s) = exceptLine s := by
  rw [handGateway_eq]; rfl

@[simp] theorem exceptLine_countInvalid (p : Port) (f : FrameFault) (h : FrameHeader) :
    exceptLine (countInvalid p f h s) = exceptLine s := by
  unfold countInvalid; dsimp only; split <;> simp

@[simp] theorem exceptLine_takeInvalid (p : Port) (f : FrameFault) (h : FrameHeader) :
    exceptLine (takeInvalid p f h s) = exceptLine s := by
  unfold takeInvalid; split <;> simp

@[simp] theorem exceptLine_creditExchange (seg : Nat) (a : Byte) (reply : Bool) :
    exceptLine (creditExchange seg a reply s) = exceptLine s := by
  unfold creditExchange
  split
  · rfl
  · dsimp only
    split <;> simp [absentAlert, backAlert]

@[simp] theorem exceptLine_closeExchange (seg : Nat) : exceptLine (closeExchange seg s) = exceptLine s := by
  simp [closeExchange]

@[simp] theorem exceptLine_takeFrameSent (seg : Nat) : exceptLine (takeFrameSent seg s) = exceptLine s := by
  unfold takeFrameSent; dsimp only; split <;> simp

@[simp] theorem exceptLine_takeGatewaySent : exceptLine (takeGatewaySent s) = exceptLine s := by
  unfold takeGatewaySent
  split
  · rfl
  · split <;> simp

@[simp] theorem exceptLine_answerReader (seg : Nat) (a : Byte) (sequence : Nat) (x : Answer) (pupil : Option Nat)
    (j : Option Judged) : exceptLine (answerReader seg a sequence x pupil j s) = exceptLine s := by
  simp [answerReader]

@[simp] theorem exceptLine_answerTap (t : TapIn) (a : Answer) (j : Option Judged) :
    exceptLine (answerTap t a j s) = exceptLine s := by
  simp [answerTap]

@[simp] theorem exceptLine_answerHeld (r : Referral) (a : Answer) : exceptLine (answerHeld r a s) = exceptLine s := by
  simp [answerHeld]

@[simp] theorem exceptLine_answerBusy (seg : Nat) (a kind : Byte) (sequence : Nat) :
    exceptLine (answerBusy seg a kind sequence s) = exceptLine s := by
  simp [answerBusy]

theorem exceptLine_chooseAll (l : List Nat) : exceptLine (chooseAll l s) = exceptLine s := by
  induction l generalizing s with
  | nil => rfl
  | cons n ns ih => simp [chooseAll, ih]

/-! ### The Bell Sequencer -/

@[simp] theorem exceptBell_modBell (f : BellUnit → BellUnit) : exceptBell (s.modBell f) = exceptBell s := rfl

@[simp] theorem exceptBell_countChoice : exceptBell s.countChoice = exceptBell s := rfl

@[simp] theorem exceptBell_alert (a : Alert) : exceptBell (alert a s) = exceptBell s :=
  exceptBell_of_line (exceptLine_alert s a)

@[simp] theorem exceptBell_handFrame (seg : Nat) (f : FieldFrame) : exceptBell (handFrame seg f s) = exceptBell s :=
  exceptBell_of_line (exceptLine_handFrame s seg f)

@[simp] theorem exceptBell_setSegmentAt (seg : Nat) (g : Segment) :
    exceptBell (setSegmentAt seg g s) = exceptBell s := rfl

@[simp] theorem exceptBell_segmentChoose (seg : Nat) : exceptBell (segmentChoose seg s) = exceptBell s :=
  exceptBell_of_line (exceptLine_segmentChoose s seg)

@[simp] theorem exceptBell_creditExchange (seg : Nat) (a : Byte) (reply : Bool) :
    exceptBell (creditExchange seg a reply s) = exceptBell s :=
  exceptBell_of_line (exceptLine_creditExchange s seg a reply)

@[simp] theorem exceptBell_closeExchange (seg : Nat) : exceptBell (closeExchange seg s) = exceptBell s :=
  exceptBell_of_line (exceptLine_closeExchange s seg)

@[simp] theorem exceptBell_countInvalid (p : Port) (f : FrameFault) (h : FrameHeader) :
    exceptBell (countInvalid p f h s) = exceptBell s :=
  exceptBell_of_line (exceptLine_countInvalid s p f h)

@[simp] theorem exceptBell_setCurrent (c : Option CurrentJob) : exceptBell (setCurrent c s) = exceptBell s := rfl

@[simp] theorem exceptBell_setZoneAt (z : Nat) (x : ZoneRecord) : exceptBell (setZoneAt z x s) = exceptBell s := rfl

@[simp] theorem exceptBell_setInputAt (n : Nat) (x : ContactInput) : exceptBell (setInputAt n x s) = exceptBell s := rfl

@[simp] theorem exceptBell_writeZone (z : Nat) (o : ZoneOutcome) (origin : Origin) (sent acked : Nat) :
    exceptBell (writeZone z o origin sent acked s) = exceptBell s := rfl

@[simp] theorem exceptBell_refreshRelays : exceptBell (refreshRelays s) = exceptBell s := rfl

@[simp] theorem exceptBell_openRelays : exceptBell (openRelays s) = exceptBell s := rfl

@[simp] theorem exceptBell_beginSounding (z duration : Nat) : exceptBell (beginSounding z duration s) = exceptBell s :=
  rfl

@[simp] theorem exceptBell_tickSounding : exceptBell (tickSounding s) = exceptBell s := rfl

@[simp] theorem exceptBell_bellRestart : exceptBell (bellRestart s) = exceptBell s := rfl

@[simp] theorem exceptBell_joinJob (j : BellJob) : exceptBell (joinJob j s) = exceptBell s := by
  unfold joinJob
  split
  · rfl
  · rfl
  · split <;> simp

@[simp] theorem exceptBell_promote : exceptBell (promote s) = exceptBell s := by
  unfold promote; split <;> rfl

@[simp] theorem exceptBell_joinInputJobs (l : List Nat) : exceptBell (joinInputJobs l s) = exceptBell s := by
  induction l generalizing s with
  | nil => rfl
  | cons n ns ih => simp [joinInputJobs, ih]

@[simp] theorem exceptBell_endJob : exceptBell (endJob s) = exceptBell s := by simp [endJob]

@[simp] theorem exceptBell_visitZone (c : CurrentJob) : exceptBell (visitZone c s) = exceptBell s := by
  unfold visitZone
  split
  · rfl
  · split <;> rfl

/-- A move of the sequencer writes the bell, a segment's queue and the report queue only. -/
theorem exceptBell_bellStep {s t : State} (h : bellStep s = some t) : exceptBell t = exceptBell s := by
  unfold bellStep at h
  split at h
  · split at h
    · cases h
    · cases h; simp
  · split at h
    · split at h <;> cases h <;> simp
    · split at h
      · split at h <;> cases h
        simp
      · split at h
        · cases h
        · split at h <;> cases h <;> simp

@[simp] theorem exceptBell_bellMoves (fuel : Nat) : exceptBell (bellMoves fuel s) = exceptBell s := by
  induction fuel generalizing s with
  | zero => rfl
  | succ n ih =>
    unfold bellMoves
    split
    · rfl
    · rw [ih, exceptBell_bellStep ‹_›]

@[simp] theorem exceptBell_bellRun : exceptBell (bellRun s) = exceptBell s := exceptBell_bellMoves s 512

@[simp] theorem exceptBell_takeJob (j : BellJob) : exceptBell (takeJob j s) = exceptBell s := by simp [takeJob]

@[simp] theorem exceptBell_bellReport (seg : Nat) (a : Byte) (n : Nat) (acked : Bool) :
    exceptBell (bellReport seg a n acked s) = exceptBell s := by
  unfold bellReport
  split
  · rfl
  · split
    · rfl
    · dsimp only
      split <;> simp

@[simp] theorem exceptBell_bellAdmitted : exceptBell (bellAdmitted s) = exceptBell s := by
  unfold bellAdmitted; split <;> simp

@[simp] theorem exceptBell_takeInputChange (n : Nat) (level : Level) (held : Nat) :
    exceptBell (takeInputChange n level held s) = exceptBell s := by
  unfold takeInputChange
  dsimp only
  split
  · unfold changeLevel; dsimp only; split <;> simp
  · rfl

@[simp] theorem exceptBell_takeFirstLevel (n : Nat) (level : Level) :
    exceptBell (takeFirstLevel n level s) = exceptBell s := by
  unfold takeFirstLevel
  dsimp only
  split
  · rfl
  · split <;> simp

@[simp] theorem exceptBell_takeSoundingExpiry (z : Nat) : exceptBell (takeSoundingExpiry z s) = exceptBell s := by
  unfold takeSoundingExpiry; split <;> rfl

@[simp] theorem exceptBell_loadInputs (l : List (Nat × InputConfig)) : exceptBell (loadInputs l s) = exceptBell s := by
  induction l generalizing s with
  | nil => rfl
  | cons x xs ih => simp [loadInputs, ih]

@[simp] theorem exceptBell_missExchange (seg : Nat) (x : Exchange) (credited : Bool) :
    exceptBell (missExchange seg x credited s) = exceptBell s := by
  unfold missExchange reportMissed
  dsimp only
  cases x.kind <;> cases credited <;> simp

@[simp] theorem exceptBell_takeExchangeMiss (seg : Nat) : exceptBell (takeExchangeMiss seg s) = exceptBell s := by
  unfold takeExchangeMiss; split <;> simp

@[simp] theorem exceptBell_takeAdmit (seg : Nat) : exceptBell (takeAdmit seg s) = exceptBell s := by
  unfold takeAdmit
  dsimp only
  split
  · rfl
  · split
    · split <;> simp
    · rfl

@[simp] theorem exceptBell_strangerEnds (seg : Nat) (src : Byte) : exceptBell (strangerEnds seg src s) = exceptBell s := by
  unfold strangerEnds
  split
  · rfl
  · split <;> simp

@[simp] theorem exceptBell_strangerFrame (seg : Nat) (src kind : Byte) (bs : List Byte) :
    exceptBell (strangerFrame seg src kind bs s) = exceptBell s := by
  unfold strangerFrame
  dsimp only
  split
  · split <;> simp
  · simp

/-! ### Gates, referrals and movements -/

@[simp] theorem exceptGates_setGateAt (g : Nat) (x : Gate) : exceptGates (setGateAt g x s) = exceptGates s := rfl

theorem exceptGates_modGate {f : GateUnit → GateUnit} (hf : ∀ u, (f u).onSiteCount = u.onSiteCount) :
    exceptGates (s.modGate f) = exceptGates s := by
  simp [exceptGates, exceptLine, State.modGate, hf]

@[simp] theorem exceptGates_offerReport (b : ReportBody) : exceptGates (offerReport b s) = exceptGates s :=
  exceptGates_of_line (exceptLine_offerReport s b)

@[simp] theorem exceptGates_alert (a : Alert) : exceptGates (alert a s) = exceptGates s :=
  exceptGates_of_line (exceptLine_alert s a)

@[simp] theorem exceptGates_answerTap (t : TapIn) (a : Answer) (j : Option Judged) :
    exceptGates (answerTap t a j s) = exceptGates s :=
  exceptGates_of_line (exceptLine_answerTap s t a j)

@[simp] theorem exceptGates_answerHeld (r : Referral) (a : Answer) : exceptGates (answerHeld r a s) = exceptGates s :=
  exceptGates_of_line (exceptLine_answerHeld s r a)

@[simp] theorem exceptGates_setGateMode (g : Nat) (mode : GateMode) :
    exceptGates (setGateMode g mode s) = exceptGates s := by
  unfold setGateMode; split <;> rfl

theorem exceptGates_setModes (mask : GateMask) (mode : GateMode) (l : List Nat) :
    exceptGates (setModes mask mode l s) = exceptGates s := by
  induction l generalizing s with
  | nil => rfl
  | cons g gs ih => rw [setModes, ih]; split <;> simp

@[simp] theorem exceptGates_applyGateMode (mask : GateMask) (mode : GateMode) :
    exceptGates (applyGateMode mask mode s) = exceptGates s := exceptGates_setModes s mask mode _

@[simp] theorem exceptGates_listMovement (m : Movement) : exceptGates (listMovement m s) = exceptGates s := by
  unfold listMovement
  split
  · rfl
  · split
    · rfl
    · rw [exceptGates_alert]; rfl

@[simp] theorem exceptGates_recordMovement (m : Movement) (slot : Nat) (x : Option Session) :
    exceptGates (recordMovement m slot x s) = exceptGates s := by
  simp [recordMovement]

@[simp] theorem exceptGates_remember (g : Nat) (token : Handle) (a : Answer) :
    exceptGates (remember g token a s) = exceptGates s := rfl

@[simp] theorem exceptGates_decided (t : TapIn) (a : Answer) (j : Option Judged) :
    exceptGates (decided t a j s) = exceptGates s := by
  simp [decided]

@[simp] theorem exceptGates_makeReferral (t : TapIn) (slot pupil : Nat) (why : ReferralReason) (x : Option Session)
    (j : Option Judged) : exceptGates (makeReferral t slot pupil why x j s) = exceptGates s := by
  unfold makeReferral
  dsimp only
  split
  · rw [exceptGates_decided, exceptGates_setGateAt]
    exact exceptGates_alert s _
  · simp

@[simp] theorem exceptGates_clearReferral (g : Nat) : exceptGates (clearReferral g s) = exceptGates s := rfl

@[simp] theorem exceptGates_recordExpired (g : Nat) (r : Referral) :
    exceptGates (recordExpired g r s) = exceptGates s := by
  simp [recordExpired]

@[simp] theorem exceptGates_expireReferral (g : Nat) (r : Referral) :
    exceptGates (expireReferral g r s) = exceptGates s := by
  simp [expireReferral]

@[simp] theorem exceptGates_takeReferralExpiry (g : Nat) : exceptGates (takeReferralExpiry g s) = exceptGates s := by
  unfold takeReferralExpiry
  split
  · rfl
  · split <;> simp

@[simp] theorem exceptGates_refuseHeld (g : Nat) (r : Referral) : exceptGates (refuseHeld g r s).1 = exceptGates s := by
  simp [refuseHeld]

@[simp] theorem exceptGates_cancelAtDayEnd (g : Nat) : exceptGates (cancelAtDayEnd g s) = exceptGates s := by
  unfold cancelAtDayEnd; split <;> simp

@[simp] theorem exceptGates_cancelAtRestart (g : Nat) : exceptGates (cancelAtRestart g s) = exceptGates s := by
  unfold cancelAtRestart; split <;> simp

@[simp] theorem exceptGates_forgetTap (g : Nat) : exceptGates (forgetTap g s) = exceptGates s := rfl

@[simp] theorem exceptGates_tickGate (g : Nat) : exceptGates (tickGate g s) = exceptGates s := rfl

/-- An update of each gate of a list in turn leaves what each update leaves. -/
theorem exceptGates_eachGate {f : Nat → State → State} (hf : ∀ g s, exceptGates (f g s) = exceptGates s)
    (l : List Nat) : exceptGates (eachGate f l s) = exceptGates s := by
  induction l generalizing s with
  | nil => rfl
  | cons g gs ih => rw [eachGate, ih, hf]

@[simp] theorem exceptGates_gateDayEnd : exceptGates (gateDayEnd s) = exceptGates s := by
  rw [gateDayEnd, exceptGates_eachGate _ (fun g s => exceptGates_forgetTap s g), exceptGates_modGate,
    exceptGates_eachGate _ (fun g s => exceptGates_cancelAtDayEnd s g)]
  exact fun _ => rfl

@[simp] theorem exceptGates_gateRestart : exceptGates (gateRestart s) = exceptGates s := by
  rw [gateRestart, exceptGates_eachGate _ (fun g s => exceptGates_forgetTap s g),
    exceptGates_eachGate _ (fun g s => exceptGates_cancelAtRestart s g)]

end Sys2Proof.Machine
end

section
/-! PROOFS. Rolls that agree up to a view of their entries, and the Message Unit's operations: they write notice
records, reports, gateway frames and done flags, and no other item of a pupil's record. -/

namespace Sys2Proof.Machine

open Sys2Proof

/-! ### Rolls that agree up to a view of their entries -/

/-- Two rolls agree up to a view `v` of their entries: slot by slot, and, in canonical form, as lists. -/
structure RollAgrees {α : Type} (v : RollEntry → α) (a b : Table RollEntry) : Prop where
  find : ∀ n, (tabFind b n).map v = (tabFind a n).map v
  mem : ∀ x ∈ b, ∃ y ∈ a, y.1 = x.1 ∧ v y.2 = v x.2
  list : tabSorted a → (b.map fun x => (x.1, v x.2)) = a.map fun x => (x.1, v x.2)

section

variable {α β : Type} {v : RollEntry → α} {a b c : Table RollEntry}

theorem RollAgrees.refl (v : RollEntry → α) (a : Table RollEntry) : RollAgrees v a a :=
  ⟨fun _ => rfl, fun x hx => ⟨x, hx, rfl, rfl⟩, fun _ => rfl⟩

/-- The slots of a roll that agrees with a canonical one are the same. -/
theorem RollAgrees.slots (h : RollAgrees v a b) (sorted : tabSorted a) : b.map Prod.fst = a.map Prod.fst := by
  simpa [Function.comp_def] using congrArg (List.map Prod.fst) (h.list sorted)

theorem RollAgrees.sorted (h : RollAgrees v a b) (sorted : tabSorted a) : tabSorted b := by
  rw [tabSorted, h.slots sorted]; exact sorted

theorem RollAgrees.trans (h : RollAgrees v a b) (k : RollAgrees v b c) : RollAgrees v a c where
  find n := (k.find n).trans (h.find n)
  mem x hx := by
    obtain ⟨y, hy, hslot, hyx⟩ := k.mem x hx
    obtain ⟨z, hz, hslot', hzy⟩ := h.mem y hy
    exact ⟨z, hz, hslot'.trans hslot, hzy.trans hyx⟩
  list sorted := (k.list (h.sorted sorted)).trans (h.list sorted)

/-- Rolls that agree up to a view agree up to every coarser one. -/
theorem RollAgrees.coarser {w : RollEntry → β} (h : RollAgrees v a b) (g : α → β) (hg : ∀ e, w e = g (v e)) :
    RollAgrees w a b where
  find n := by
    have hw : w = g ∘ v := funext hg
    have := congrArg (Option.map g) (h.find n)
    simpa [hw] using this
  mem x hx := by
    obtain ⟨y, hy, hslot, hyx⟩ := h.mem x hx
    exact ⟨y, hy, hslot, by rw [hg, hg, hyx]⟩
  list sorted := by
    have := congrArg (List.map fun x : Nat × α => (x.1, g x.2)) (h.list sorted)
    simpa [Function.comp_def, hg] using this

/-- What a view decides of each entry is counted alike in rolls that agree. -/
theorem RollAgrees.countP (h : RollAgrees v a b) (sorted : tabSorted a) (p : α → Bool) :
    (b.countP fun x => p (v x.2)) = a.countP fun x => p (v x.2) := by
  have := congrArg (List.countP fun x : Nat × α => p x.2) (h.list sorted)
  simpa [List.countP_map, Function.comp_def] using this

theorem RollAgrees.lookup (h : RollAgrees v a b) {n : Nat} {e : RollEntry} (he : tabFind a n = some e) :
    ∃ e', tabFind b n = some e' ∧ v e' = v e := by
  have := h.find n
  rw [he] at this
  simpa using this

theorem tabFind_map (f : RollEntry → RollEntry) (n : Nat) :
    tabFind (a.map fun p => (p.1, f p.2)) n = (tabFind a n).map f := by
  induction a with
  | nil => rfl
  | cons p t ih =>
    simp only [List.map_cons, tabFind, ih]
    split <;> rfl

/-- A roll whose entries are each updated agrees with what it was, up to what the update leaves. -/
theorem RollAgrees.map {f : RollEntry → RollEntry} (hf : ∀ e, v (f e) = v e) :
    RollAgrees v a (a.map fun p => (p.1, f p.2)) where
  find n := by simp [tabFind_map, Function.comp_def, hf]
  mem x hx := by
    obtain ⟨y, hy, rfl⟩ := List.mem_map.mp hx
    exact ⟨y, hy, rfl, (hf _).symm⟩
  list _ := by simp [Function.comp_def, hf]

/-- In a canonical table an insertion in a filled place keeps the list of places. -/
theorem map_tabInsert_of_find (w : Nat × RollEntry → β) {slot : Nat} {e x : RollEntry} (sorted : tabSorted a)
    (he : tabFind a slot = some e) (hw : w (slot, x) = w (slot, e)) : (tabInsert slot x a).map w = a.map w := by
  induction a with
  | nil => cases he
  | cons p t ih =>
    obtain ⟨k, y⟩ := p
    simp only [tabSorted, List.map_cons, List.pairwise_cons] at sorted
    simp only [tabFind] at he
    simp only [tabInsert]
    split at he
    · subst_vars; cases he; simp [hw]
    · have hlt : k < slot := sorted.1 slot (List.mem_map_of_mem (f := Prod.fst) (mem_of_tabFind he))
      rw [if_neg (by omega), if_neg ‹_›]
      simp [ih sorted.2 he]

/-- An insertion in a filled place, up to what it leaves of the entry. -/
theorem RollAgrees.insert {slot : Nat} {e x : RollEntry} (he : tabFind a slot = some e) (hx : v x = v e) :
    RollAgrees v a (tabInsert slot x a) where
  find n := by
    rw [tabFind_tabInsert]
    split
    · subst_vars; simp [he, hx]
    · rfl
  mem y hy := by
    rcases mem_tabInsert hy with rfl | hy
    · exact ⟨(slot, e), mem_of_tabFind he, rfl, hx.symm⟩
    · exact ⟨y, hy, rfl, rfl⟩
  list sorted := map_tabInsert_of_find (fun x => (x.1, v x.2)) sorted he (by rw [hx])

/-- Emptying a slot of rolls that agree leaves them so. -/
theorem RollAgrees.erase (h : RollAgrees v a b) (sorted : tabSorted a) (slot : Nat) :
    RollAgrees v (tabErase slot a) (tabErase slot b) where
  find n := by
    rw [tabFind_tabErase, tabFind_tabErase]
    split
    · rfl
    · exact h.find n
  mem x hx := by
    obtain ⟨hxb, hne⟩ := List.mem_filter.mp hx
    obtain ⟨y, hy, hslot, hyx⟩ := h.mem x hxb
    exact ⟨y, List.mem_filter.mpr ⟨hy, by rw [hslot]; exact hne⟩, hslot, hyx⟩
  list _ := by
    have := congrArg (List.filter fun x : Nat × α => x.1 != slot) (h.list sorted)
    simpa [tabErase, List.filter_map, Function.comp_def] using this

theorem modEntry_agrees (slot : Nat) {f : RollEntry → RollEntry} (hf : ∀ e, v (f e) = v e) (s : State) :
    RollAgrees v s.roll.roll (modEntry slot f s).roll.roll := by
  unfold modEntry
  split
  · exact .refl v _
  · exact .insert ‹_› (hf _)

/-- An entry update leaves the rest of the Roll Store. -/
theorem modEntry_rest (slot : Nat) (f : RollEntry → RollEntry) (s : State) :
    modEntry slot f s = { s with roll := { s.roll with roll := (modEntry slot f s).roll.roll } } := by
  unfold modEntry; split <;> rfl

end

/-! ### What steps keep of the term figures and the on-site count -/

/-- A change of state that keeps the term figures in range, and the on-site count true of the roll. -/
structure RollSafe (s t : State) : Prop where
  terms : TermsInRange s → TermsInRange t
  count : OnSiteCounted s → OnSiteCounted t

theorem RollSafe.refl (s : State) : RollSafe s s := ⟨id, id⟩

theorem RollSafe.trans {s t u : State} (h : RollSafe s t) (k : RollSafe t u) : RollSafe s u :=
  ⟨fun p => k.terms (h.terms p), fun p => k.count (h.count p)⟩

/-- What of an entry the term figures and the on-site count depend on. -/
def figures (e : RollEntry) : OnSite × TermRecord := (e.day.onSite, e.term)

/-- A change that leaves the figures of every entry, and the on-site count. -/
theorem RollSafe.of_figures {s t : State} (h : RollAgrees figures s.roll.roll t.roll.roll)
    (hc : t.gate.onSiteCount = s.gate.onSiteCount) : RollSafe s t where
  terms ht x hx := by
    obtain ⟨y, hy, -, hyx⟩ := h.mem x hx
    have : y.2.term = x.2.term := congrArg Prod.snd hyx
    exact this ▸ ht y hy
  count := by
    rintro ⟨⟨sorted, bound⟩, count⟩
    refine ⟨⟨h.sorted sorted, fun x hx => ?_⟩, ?_⟩
    · have hm : x.1 ∈ s.roll.roll.map Prod.fst := h.slots sorted ▸ List.mem_map_of_mem hx
      obtain ⟨y, hy, hyx⟩ := List.mem_map.mp hm
      exact hyx ▸ bound y hy
    · rw [hc, count]
      exact (h.countP sorted fun v => v.1 == .onSite).symm

/-- A change that leaves the roll and the on-site count. -/
theorem RollSafe.of_same {s t : State} (hr : t.roll.roll = s.roll.roll)
    (hc : t.gate.onSiteCount = s.gate.onSiteCount) : RollSafe s t :=
  .of_figures (hr ▸ .refl _ _) hc

theorem RollSafe.of_bell {s t : State} (h : exceptBell t = exceptBell s) : RollSafe s t :=
  .of_same (congrArg (·.roll.roll) h) (congrArg (·.gate.onSiteCount) h)

theorem RollSafe.of_line {s t : State} (h : exceptLine t = exceptLine s) : RollSafe s t :=
  .of_bell (exceptBell_of_line h)

theorem RollSafe.of_gates {s t : State} (h : exceptGates t = exceptGates s) : RollSafe s t :=
  .of_same (congrArg (·.roll.roll) h) (congrArg (·.gate.onSiteCount) h)

/-! ### The Message Unit -/

/-- An entry without its done flags (R4). -/
def undone (e : RollEntry) : RollEntry :=
  { e with day := { e.day with flags := { e.day.flags with
      doneAbsence := ⟨false, false⟩, doneLate := ⟨false, false⟩, doneInternal := false, doneConcern := false } } }

/-- An entry without its notice flags. -/
def flagless (e : RollEntry) : RollEntry := { e with day := { e.day with flags := clearedFlags } }

/-- What the Message Unit's operations leave as it was, the roll's entries apart. -/
def exceptNotices (s : State) : State :=
  { s with
    roll := { s.roll with roll := [] }
    msg := State.reset.msg
    line := { s.line with upSending := none, gwSending := none, gwWaiting := [] }
    office := quietOffice s.office }

/-- A change that notices make: records, walk, gateway frames and reports, and of the roll no more than the view
leaves out. -/
structure NoticeWork {α : Type} (v : RollEntry → α) (s t : State) : Prop where
  rest : exceptNotices t = exceptNotices s
  roll : RollAgrees v s.roll.roll t.roll.roll

section

variable {α : Type} {v : RollEntry → α} {s t u : State}

theorem NoticeWork.refl (v : RollEntry → α) (s : State) : NoticeWork v s s := ⟨rfl, .refl v _⟩

theorem NoticeWork.trans (h : NoticeWork v s t) (k : NoticeWork v t u) : NoticeWork v s u :=
  ⟨k.rest.trans h.rest, h.roll.trans k.roll⟩

theorem NoticeWork.of_same (h : exceptNotices t = exceptNotices s) (hr : t.roll.roll = s.roll.roll) :
    NoticeWork v s t := ⟨h, hr ▸ .refl v _⟩

theorem NoticeWork.of_reports (h : exceptReports t = exceptReports s) : NoticeWork v s t :=
  .of_same (show exceptNotices (exceptReports t) = exceptNotices (exceptReports s) from congrArg exceptNotices h)
    (congrArg (·.roll.roll) h)

theorem NoticeWork.sched (h : NoticeWork v s t) : t.sched = s.sched := congrArg (·.sched) h.rest

theorem NoticeWork.bell (h : NoticeWork v s t) : t.bell = s.bell := congrArg (·.bell) h.rest

theorem NoticeWork.gate (h : NoticeWork v s t) : t.gate = s.gate := congrArg (·.gate) h.rest

theorem NoticeWork.reg (h : NoticeWork v s t) : t.reg = s.reg := congrArg (·.reg) h.rest

theorem NoticeWork.segments (h : NoticeWork v s t) : t.line.segments = s.line.segments :=
  congrArg (·.line.segments) h.rest

theorem NoticeWork.rollRest (h : NoticeWork v s t) : { t.roll with roll := s.roll.roll } = s.roll :=
  congrArg (fun x : State => { x.roll with roll := s.roll.roll }) h.rest

theorem NoticeWork.quiet (h : NoticeWork v s t) : quietOffice t.office = quietOffice s.office :=
  congrArg (·.office) h.rest

/-- Two Office Agents that agree but for the report queue say the same of power, parameters, retention and catch-up. -/
theorem sameControl_of_quiet (h : quietOffice t.office = quietOffice s.office) : sameControl s t :=
  ⟨congrArg (·.params) h, congrArg (·.retentionValid) h, congrArg (·.backupLow) h, congrArg (·.powered) h,
    congrArg (·.catchUp) h⟩

theorem NoticeWork.control (h : NoticeWork v s t) : sameControl s t := sameControl_of_quiet h.quiet

theorem NoticeWork.coarser {β : Type} {w : RollEntry → β} (h : NoticeWork v s t) (g : α → β)
    (hg : ∀ e, w e = g (v e)) : NoticeWork w s t := ⟨h.rest, h.roll.coarser g hg⟩

/-- Notices leave every entry but for its notice flags. -/
theorem NoticeWork.flagless (h : NoticeWork undone s t) : NoticeWork flagless s t :=
  h.coarser Machine.flagless fun _ => rfl

theorem NoticeWork.safe (h : NoticeWork Machine.flagless s t) : RollSafe s t :=
  .of_figures (h.roll.coarser figures fun _ => rfl) (congrArg (·.onSiteCount) h.gate)

end

variable (s : State)

theorem modMsg_work (f : MessageUnit → MessageUnit) : NoticeWork undone s (s.modMsg f) := .of_same rfl rfl

theorem alert_work (a : Alert) : NoticeWork undone s (alert a s) := .of_reports (exceptReports_alert s a)

theorem offerReport_work (b : ReportBody) : NoticeWork undone s (offerReport b s) :=
  .of_reports (exceptReports_offerReport s b)

theorem walkRequest_work : NoticeWork undone s (walkRequest s) := by
  unfold walkRequest
  split
  · exact .refl _ s
  · split <;> exact modMsg_work s _

theorem releaseDeferred_work : NoticeWork undone s (releaseDeferred s) := by
  unfold releaseDeferred
  split
  · exact (modMsg_work s _).trans (walkRequest_work _)
  · exact .refl _ s

theorem resumeWalk_work : NoticeWork undone s (resumeWalk s) := by
  unfold resumeWalk
  split
  · exact modMsg_work s _
  · exact .refl _ s
  · exact .refl _ s

theorem modNotice_work (n : Notice) (f : Notice → Notice) : NoticeWork undone s (modNotice n f s) := modMsg_work s _

/-- An entry update that a view does not see, and that leaves all but the roll. -/
theorem modEntry_work {α : Type} {v : RollEntry → α} (slot : Nat) {f : RollEntry → RollEntry}
    (hf : ∀ e, v (f e) = v e) : NoticeWork v s (modEntry slot f s) :=
  ⟨by rw [modEntry_rest]; rfl, modEntry_agrees slot hf s⟩

theorem undone_setDoneFlag (r : DueReason) (b : Bool) (e : RollEntry) :
    undone { e with day := { e.day with flags := setDoneFlag r b e.day.flags } } = undone e := by
  cases r <;> rfl

theorem setDone_work (slot : Nat) (r : DueReason) (b : Bool) : NoticeWork undone s (setDone slot r b s) :=
  modEntry_work s slot (undone_setDoneFlag r b)

theorem clearListed_work (r : DueReason) (ps : List (Nat × Bool)) : NoticeWork undone s (clearListed r ps s) := by
  induction ps generalizing s with
  | nil => exact .refl _ s
  | cons p ps ih =>
    unfold clearListed
    split
    · refine .trans ?_ (ih _)
      split
      · exact .refl _ s
      · exact setDone_work s _ _ _
    · exact ih s

theorem departureEffect_work (n : Notice) (res : NoticeResult) : NoticeWork undone s (departureEffect n res s) := by
  unfold departureEffect
  split
  · exact .refl _ s
  · exact .refl _ s
  · exact alert_work s _
  · split
    · exact .refl _ s
    · split
      · exact (clearListed_work s _ _).trans (walkRequest_work _)
      · exact .refl _ s

theorem leaveQueue_work (n : Notice) (res : NoticeResult) : NoticeWork undone s (leaveQueue n res s) :=
  (modMsg_work s _).trans <| (offerReport_work _ _).trans <| (departureEffect_work _ n res).trans <|
    (resumeWalk_work _).trans (releaseDeferred_work _)

theorem leavePupil_work (n : Notice) (pupil : Nat) : NoticeWork undone s (leavePupil n pupil s) := by
  unfold leavePupil
  extract_lets rest m m' t
  refine (modNotice_work s n fun _ => m').trans ?_
  split
  · exact leaveQueue_work _ _ _
  · exact releaseDeferred_work _

theorem withdrawFrom_work (n : Notice) (pupil : Nat) : NoticeWork undone s (withdrawFrom n pupil s) := by
  unfold withdrawFrom
  split
  · exact leavePupil_work s n pupil
  · exact modNotice_work s n _
  · exact modNotice_work s n _

theorem withdrawEach_work (pupil : Nat) (l : List Notice) : NoticeWork undone s (withdrawEach pupil l s) := by
  induction l generalizing s with
  | nil => exact .refl _ s
  | cons n ns ih => exact (withdrawFrom_work s n pupil).trans (ih _)

theorem withdraw_work (slot : Nat) (r : DueReason) : NoticeWork undone s (withdraw slot r s) :=
  (withdrawEach_work s _ _).trans (setDone_work _ _ _ _)

theorem markChanged_work (slot : Nat) (x : Session) (old new : MarkCode) :
    NoticeWork undone s (markChanged slot x old new s) := by
  unfold markChanged
  extract_lets t u
  have absence : NoticeWork undone s t := by
    unfold t
    split
    · exact withdraw_work s _ _
    · exact .refl _ s
  have late : NoticeWork undone t u := by
    unfold u
    split
    · exact withdraw_work t _ _
    · exact .refl _ t
  split
  · exact (absence.trans late).trans (walkRequest_work u)
  · exact absence.trans late

theorem setDue_work (slot : Nat) (r : DueReason) : NoticeWork flagless s (setDue slot r s) := by
  unfold setDue
  split
  · exact .refl _ s
  · split
    · exact .refl _ s
    · refine .trans (modEntry_work s slot ?_) (walkRequest_work _).flagless
      exact fun _ => rfl

theorem handGateway_work (f : GatewayFrame) : NoticeWork undone s (handGateway f s) := by
  rw [handGateway_eq]; exact .of_same rfl rfl

theorem offerNotice_work (n : Notice) : NoticeWork undone s (offerNotice n s) := by
  unfold offerNotice
  split
  · exact .refl _ s
  · exact (handGateway_work s _).trans (modNotice_work _ n _)

theorem makeOffers_work (fuel : Nat) : NoticeWork undone s (makeOffers fuel s) := by
  induction fuel generalizing s with
  | zero => exact .refl _ s
  | succ k ih =>
    unfold makeOffers
    split
    · exact .refl _ s
    · exact (offerNotice_work s _).trans (ih _)

theorem tryOffers_work : NoticeWork undone s (tryOffers s) := makeOffers_work s _

theorem escalate_work (n : Notice) : NoticeWork undone s (escalate n s) := by
  unfold escalate
  split
  · exact (modNotice_work s n _).trans (releaseDeferred_work _)
  · exact leaveQueue_work s n _

theorem badContactAlert_work (n : Notice) : NoticeWork undone s (badContactAlert n s) := by
  unfold badContactAlert
  split
  · exact alert_work s _
  · exact .refl _ s

theorem applyOutcome_work (n : Notice) (r : OutcomeResult) : NoticeWork undone s (applyOutcome n r s) := by
  unfold applyOutcome
  split
  · exact .refl _ s
  · exact leaveQueue_work s n _
  · exact escalate_work s n
  · exact (escalate_work s n).trans (badContactAlert_work _ n)
  · exact leaveQueue_work s n _
  · exact (leaveQueue_work s n _).trans (badContactAlert_work _ n)

theorem takeOutcome_work (number attempt : Nat) (r : OutcomeResult) :
    NoticeWork undone s (takeOutcome number attempt r s) := by
  unfold takeOutcome
  split
  · exact .refl _ s
  · exact (applyOutcome_work s _ r).trans (tryOffers_work _)

theorem outcomeTimedOut_work (n : Notice) : NoticeWork undone s (outcomeTimedOut n s) := by
  unfold outcomeTimedOut
  split
  · exact .refl _ s
  · exact escalate_work s n
  · exact leaveQueue_work s n _

theorem takeTimeout_work (number : Nat) : NoticeWork undone s (takeTimeout number s) := by
  unfold takeTimeout
  split
  · exact .refl _ s
  · exact (outcomeTimedOut_work s _).trans (tryOffers_work _)

theorem takeTimeouts_work (l : List Notice) : NoticeWork undone s (takeTimeouts l s) := by
  induction l generalizing s with
  | nil => exact .refl _ s
  | cons n ns ih => exact (takeTimeout_work s _).trans (ih _)

theorem dealWith_work (slot : Nat) (e : RollEntry) (r : DueReason) : NoticeWork undone s (dealWith slot e r s) := by
  unfold dealWith
  split
  · exact (alert_work s _).trans (setDone_work _ _ _ _)
  · split
    · split
      · exact (modNotice_work s _ _).trans (setDone_work _ _ _ _)
      · exact modMsg_work s _
    · split
      · exact (modMsg_work s _).trans (setDone_work _ _ _ _)
      · exact modMsg_work s _

theorem considerReason_work (slot : Nat) (r : DueReason) : NoticeWork undone s (considerReason slot r s) := by
  unfold considerReason
  split
  · exact .refl _ s
  · split
    · exact dealWith_work s slot _ r
    · exact .refl _ s

theorem considerReasons_work (slot : Nat) (l : List DueReason) :
    NoticeWork undone s (considerReasons slot l s) := by
  induction l generalizing s with
  | nil => exact .refl _ s
  | cons r rs ih =>
    unfold considerReasons
    split
    · exact .refl _ s
    · exact (considerReason_work s slot r).trans (ih _)

theorem visitSlot_work (slot : Nat) : NoticeWork undone s (visitSlot slot s) := by
  unfold visitSlot
  split
  · exact .refl _ s
  · split
    · exact .refl _ s
    · exact considerReasons_work s slot _

theorem passEnd_work : NoticeWork undone s (passEnd s) := by
  unfold passEnd
  dsimp only
  have offers := (modMsg_work s fun m => { m with walk := .idle, cursor := 0, rewalk := false }).trans
    (tryOffers_work _)
  split
  · exact offers.trans (modMsg_work _ _)
  · exact offers

theorem noticeVisit_work : NoticeWork undone s (noticeVisit s) := by
  unfold noticeVisit
  split
  · exact .refl _ s
  · split
    · exact passEnd_work s
    · refine (visitSlot_work s s.msg.cursor).trans ?_
      dsimp only
      split
      · exact tryOffers_work _
      · split
        · exact passEnd_work _
        · exact modMsg_work _ _

theorem openNoticeWindow_work : NoticeWork undone s (openNoticeWindow s) :=
  (modMsg_work s _).trans (walkRequest_work _)

theorem closeNoticeWindow_work : NoticeWork undone s (closeNoticeWindow s) := by
  unfold closeNoticeWindow
  split
  · exact modMsg_work s _
  · exact .refl _ s

theorem dropNotices_work (l : List Notice) : NoticeWork undone s (dropNotices l s) := by
  induction l generalizing s with
  | nil => exact .refl _ s
  | cons n ns ih => exact (leaveQueue_work s n _).trans (ih _)

theorem messageDayEnd_work : NoticeWork undone s (messageDayEnd s) := (dropNotices_work s _).trans (modMsg_work _ _)

theorem removePending_work (l : List Notice) : NoticeWork undone s (removePending l s) := by
  induction l generalizing s with
  | nil => exact .refl _ s
  | cons n ns ih =>
    refine .trans ?_ (ih _)
    split
    · exact leaveQueue_work s n _
    · exact .refl _ s

theorem messageRestart_work : NoticeWork undone s (messageRestart s) := by
  unfold messageRestart
  extract_lets t u
  exact ((modMsg_work s _).trans (removePending_work t _)).trans (modMsg_work u _)

theorem leaveNotices_work (pupil : Nat) (l : List Notice) : NoticeWork undone s (leaveNotices pupil l s) := by
  induction l generalizing s with
  | nil => exact .refl _ s
  | cons n ns ih =>
    refine .trans ?_ (ih _)
    split
    · exact leavePupil_work s n pupil
    · exact .refl _ s

theorem reseatNotices_work (family : Nat) (position : Option Nat) (l : List Notice) :
    NoticeWork undone s (reseatNotices family position l s) := by
  induction l generalizing s with
  | nil => exact .refl _ s
  | cons n ns ih =>
    refine .trans ?_ (ih _)
    split
    · split
      · exact modNotice_work s n _
      · exact leaveQueue_work s n _
    · exact .refl _ s

theorem takeReady_work (bs : List Byte) : NoticeWork undone s (takeReady bs s) := by
  unfold takeReady
  split
  · exact .refl _ s
  · exact (modMsg_work s _).trans (tryOffers_work _)

theorem takeOutcomeFrame_work (bs : List Byte) : NoticeWork undone s (takeOutcomeFrame bs s) := by
  unfold takeOutcomeFrame
  split
  · exact .refl _ s
  · exact takeOutcome_work s _ _ _

theorem takeNotBefore_work (number : Nat) : NoticeWork undone s (takeNotBefore number s) := by
  unfold takeNotBefore
  split
  · exact .refl _ s
  · exact tryOffers_work s

end Sys2Proof.Machine
end

section
/-! PROOFS. Every step keeps the term figures in range (R13) and the on-site count true of the roll (R86): each operation
is `RollSafe`, by what it leaves, by one entry it replaces, or as a chain of such operations. -/

namespace Sys2Proof.Machine

open Sys2Proof

/-! ### Counting the entries of a canonical roll -/

section

variable {a : Table RollEntry} {slot : Nat}

/-- Whether a slot's entry is one of those a test counts. -/
def counted (p : RollEntry → Bool) (x : Option RollEntry) : Nat := if x.any p then 1 else 0

theorem tabErase_of_gt (h : ∀ x ∈ a, slot < x.1) : tabErase slot a = a := by
  refine List.filter_eq_self.mpr fun x hx => ?_
  have := h x hx
  simp only [bne_iff_ne]
  omega

theorem countP_tabErase (sorted : tabSorted a) (p : RollEntry → Bool) :
    ((tabErase slot a).countP fun x => p x.2) + counted p (tabFind a slot) = a.countP fun x => p x.2 := by
  induction a with
  | nil => simp [tabErase, tabFind, counted]
  | cons q t ih =>
    obtain ⟨k, y⟩ := q
    simp only [tabSorted, List.map_cons, List.pairwise_cons] at sorted
    have above : ∀ x ∈ t, k < x.1 := fun x hx => sorted.1 x.1 (List.mem_map_of_mem hx)
    have cons : tabErase slot ((k, y) :: t) = if k = slot then tabErase slot t else (k, y) :: tabErase slot t := by
      by_cases hk : k = slot <;> simp [tabErase, hk]
    rw [cons]
    by_cases hk : k = slot
    · subst hk
      simp [tabErase_of_gt above, tabFind, counted, List.countP_cons]
    · have := ih sorted.2
      simp only [tabFind, if_neg (Ne.symm hk), if_neg hk, List.countP_cons] at this ⊢
      omega

theorem countP_tabInsert (sorted : tabSorted a) (p : RollEntry → Bool) (x : RollEntry) :
    ((tabInsert slot x a).countP fun y => p y.2) + counted p (tabFind a slot)
      = (a.countP fun y => p y.2) + counted p (some x) := by
  induction a with
  | nil => simp [tabInsert, tabFind, counted]
  | cons q t ih =>
    obtain ⟨k, y⟩ := q
    simp only [tabSorted, List.map_cons, List.pairwise_cons] at sorted
    have above : ∀ z ∈ t, k < z.1 := fun z hz => sorted.1 z.1 (List.mem_map_of_mem hz)
    simp only [tabInsert, tabFind]
    split
    · rename_i hlt
      rw [if_neg (by omega), tabFind_none_of_lt t slot fun z hz => by have := above z hz; omega]
      simp [counted, List.countP_cons]
    · split
      · simp [counted, List.countP_cons]
        omega
      · have := ih sorted.2
        simp only [List.countP_cons]
        omega

end

/-! ### One entry written -/

/-- Whether an entry is of a pupil on site. -/
def onSiteEntry (e : RollEntry) : Bool := e.day.onSite == .onSite

/-- A state with another roll and on-site count. -/
def withSites (a : Table RollEntry) (n : Nat) (s : State) : State :=
  { s with roll := { s.roll with roll := a }, gate := { s.gate with onSiteCount := n } }

/-- One slot's entry is written, up to the figures, with the on-site count brought up to date. -/
theorem RollSafe.write {s t : State} {slot : Nat} {e : RollEntry} (hslot : slot < 3072)
    (agrees : RollAgrees figures (tabInsert slot e s.roll.roll) t.roll.roll)
    (term : TermsInRange s → termInRange e.term)
    (count : counted onSiteEntry (entryAt s slot) ≤ s.gate.onSiteCount →
      t.gate.onSiteCount + counted onSiteEntry (entryAt s slot)
        = s.gate.onSiteCount + counted onSiteEntry (some e)) : RollSafe s t where
  terms ht x hx := by
    obtain ⟨y, hy, -, hyx⟩ := agrees.mem x hx
    have same : y.2.term = x.2.term := congrArg Prod.snd hyx
    rw [← same]
    rcases mem_tabInsert hy with rfl | hy
    · exact term ht
    · exact ht y hy
  count := by
    rintro ⟨⟨sorted, bound⟩, hcount⟩
    have inserted := countP_tabInsert (slot := slot) sorted onSiteEntry e
    have erased := countP_tabErase (slot := slot) sorted onSiteEntry
    have kept : OnSiteCounted (withSites (tabInsert slot e s.roll.roll) t.gate.onSiteCount s) := by
      refine ⟨⟨tabSorted_tabInsert slot e sorted, fun x hx => ?_⟩, ?_⟩
      · rcases mem_tabInsert hx with rfl | hx
        · exact hslot
        · exact bound x hx
      · have hc : s.gate.onSiteCount = s.roll.roll.countP fun x => onSiteEntry x.2 := hcount
        have := count (by rw [hc]; simp only [entryAt]; omega)
        change t.gate.onSiteCount = (tabInsert slot e s.roll.roll).countP fun x => onSiteEntry x.2
        simp only [entryAt] at this
        omega
    have same : RollSafe (withSites _ t.gate.onSiteCount s) t := .of_figures agrees rfl
    exact same.count kept

/-- The same for the entry of a filled slot of a roll in order. -/
theorem RollSafe.rewrite {s t : State} {slot : Nat} {e e' : RollEntry} (he : entryAt s slot = some e)
    (agrees : RollAgrees figures (tabInsert slot e' s.roll.roll) t.roll.roll)
    (term : termInRange e.term → termInRange e'.term)
    (count : counted onSiteEntry (some e) ≤ s.gate.onSiteCount →
      t.gate.onSiteCount + counted onSiteEntry (some e) = s.gate.onSiteCount + counted onSiteEntry (some e')) :
    RollSafe s t where
  terms := by
    have key : TermsInRange s → ∀ x ∈ tabInsert slot e' s.roll.roll, termInRange x.2.term := fun ht x hx => by
      rcases mem_tabInsert hx with rfl | hx
      · exact term (ht (slot, e) (mem_of_tabFind he))
      · exact ht x hx
    intro ht x hx
    obtain ⟨y, hy, -, hyx⟩ := agrees.mem x hx
    have same : y.2.term = x.2.term := congrArg Prod.snd hyx
    exact same ▸ key ht y hy
  count hc := by
    have hslot : slot < 3072 := hc.1.2 (slot, e) (mem_of_tabFind he)
    exact (RollSafe.write hslot agrees (fun ht => term (ht (slot, e) (mem_of_tabFind he)))
      (by rw [he]; exact count)).count hc

theorem modEntry_safe (slot : Nat) {f : RollEntry → RollEntry} (hf : ∀ e, figures (f e) = figures e) (s : State) :
    RollSafe s (modEntry slot f s) :=
  .of_figures (modEntry_agrees slot hf s) (by simp)

/-! ### On-site states -/

theorem adjustOnSite_eq (old new : OnSite) (s : State) :
    adjustOnSite old new s = s.modGate fun g =>
      { g with onSiteCount := g.onSiteCount + (if old ≠ .onSite ∧ new = .onSite then 1 else 0)
                                - if old = .onSite ∧ new ≠ .onSite then 1 else 0 } := by
  cases old <;> cases new <;> rfl

@[simp] theorem adjustOnSite_roll (old new : OnSite) (s : State) : (adjustOnSite old new s).roll = s.roll := by
  rw [adjustOnSite_eq]; rfl

theorem counted_onSiteEntry (e : RollEntry) :
    counted onSiteEntry (some e) = if e.day.onSite = .onSite then 1 else 0 := by
  simp [counted, onSiteEntry]

/-- The on-site count follows a pupil's change of state (R86). -/
theorem adjustOnSite_count (old new : OnSite) (s : State) (h : (if old = .onSite then 1 else 0) ≤ s.gate.onSiteCount) :
    (adjustOnSite old new s).gate.onSiteCount + (if old = .onSite then 1 else 0)
      = s.gate.onSiteCount + if new = .onSite then 1 else 0 := by
  rw [adjustOnSite_eq]
  cases old <;> cases new <;> simp at h ⊢
  all_goals omega

theorem setOnSite_safe (slot : Nat) (st : OnSite) (s : State) : RollSafe s (setOnSite slot st s) := by
  unfold setOnSite
  split
  · exact .refl s
  · rename_i e he
    refine .rewrite (e' := { e with day := { e.day with onSite := st } }) he ?_ id fun h => ?_
    · simp only [adjustOnSite_roll, modEntry, he]
      exact .refl _ _
    · rw [counted_onSiteEntry] at h
      simpa [counted_onSiteEntry] using adjustOnSite_count e.day.onSite st (modEntry slot _ s) (by simpa using h)

theorem arriveOffSite_safe (slot : Nat) (s : State) : RollSafe s (arriveOffSite slot s) := by
  unfold arriveOffSite
  split
  · exact .refl s
  · split
    · exact setOnSite_safe slot _ s
    · exact .refl s

/-! ### Marks and excuses -/

variable (s : State)

theorem markChanged_safe (slot : Nat) (x : Session) (old new : MarkCode) :
    RollSafe s (markChanged slot x old new s) := (markChanged_work s slot x old new).flagless.safe

theorem writeMark_safe (slot : Nat) (x : Session) (old new : Mark) : RollSafe s (writeMark slot x old new s) := by
  unfold writeMark
  extract_lets t u
  have mark : RollSafe s t := modEntry_safe slot (by exact fun _ => rfl) s
  have site : RollSafe t u := by
    unfold u
    split
    · exact arriveOffSite_safe slot t
    · exact .refl t
  split
  · exact mark.trans site
  · exact (mark.trans site).trans (markChanged_safe u slot x _ _)

theorem alert_safe (a : Alert) : RollSafe s (alert a s) := .of_line (exceptLine_alert s a)

theorem requestMark_safe (slot : Nat) (x : Session) (k : MarkRequest) : RollSafe s (requestMark slot x k s) := by
  unfold requestMark
  split
  · exact .refl s
  · dsimp only
    split
    · exact writeMark_safe s slot x _ _
    · split
      · exact alert_safe s _
      · exact .refl s

theorem requestExcuses_safe (slot : Nat) (l : List Session) : RollSafe s (requestExcuses slot l s) := by
  induction l generalizing s with
  | nil => exact .refl s
  | cons x xs ih => exact (requestMark_safe s slot x _).trans (ih _)

theorem applyToday_safe (slot d1 d2 : Nat) (n : Sessions) : RollSafe s (applyToday slot d1 d2 n s) := by
  unfold applyToday
  split
  · exact requestExcuses_safe s slot _
  · exact .refl s

theorem setExcuses_safe (l : List Excuse) : RollSafe s (setExcuses l s) := .of_same rfl rfl

theorem insertReport_safe (r : ParentReport) (slot : Nat) : RollSafe s (insertReport r slot s).1 := by
  unfold insertReport
  extract_lets d1 x l applied t
  split
  · exact .refl s
  · split
    · exact alert_safe s _
    · exact (setExcuses_safe s l).trans (applyToday_safe _ _ _ _ _)

theorem judgeReport_safe (bs : List Byte) : RollSafe s (judgeReport bs s).1 := by
  unfold judgeReport
  split
  · exact .refl s
  · split
    · exact .refl s
    · split
      · exact alert_safe s _
      · split
        · exact .refl s
        · exact insertReport_safe s _ _

theorem tryOffers_safe : RollSafe s (tryOffers s) := (tryOffers_work s).flagless.safe

theorem walkRequest_safe : RollSafe s (walkRequest s) := (walkRequest_work s).flagless.safe

theorem takeParentReport_safe (bs : List Byte) : RollSafe s (takeParentReport bs s) :=
  (judgeReport_safe s bs).trans <| (RollSafe.of_line (exceptLine_handGateway _ _)).trans (tryOffers_safe _)

theorem settleRequests_safe (slot day : Nat) (l : List Excuse) : RollSafe s (settleRequests slot day l s) := by
  induction l generalizing s with
  | nil => exact .refl s
  | cons e es ih =>
    refine .trans ?_ (ih _)
    split
    · exact requestExcuses_safe s slot _
    · exact .refl s

/-! ### Gates -/

theorem addMinutes_safe (slot minutes : Nat) : RollSafe s (addMinutes slot minutes s) :=
  modEntry_safe slot (by exact fun _ => rfl) s

theorem makeArrivalRequest_safe (slot minutes : Nat) (r : Option (Session × MarkRequest)) :
    RollSafe s (makeArrivalRequest slot minutes r s) := by
  unfold makeArrivalRequest
  split
  · exact .refl s
  · exact (requestMark_safe s slot _ _).trans (addMinutes_safe _ slot minutes)

theorem judgeLateDue_safe (slot : Nat) (r : Option (Session × MarkRequest)) : RollSafe s (judgeLateDue slot r s) := by
  unfold judgeLateDue
  split
  · exact .refl s
  · split
    · exact (setDue_work s slot _).safe
    · exact .refl s

theorem recordMovement_safe (m : Movement) (slot : Nat) (x : Option Session) :
    RollSafe s (recordMovement m slot x s) := .of_gates (exceptGates_recordMovement s m slot x)

theorem applyArrival_safe (slot g : Nat) (j : Judged) (t now : Nat) (referral : Option Nat) (excused : Bool) :
    RollSafe s (applyArrival slot g j t now referral excused s).1 := by
  unfold applyArrival
  extract_lets k s1 r s2 s3 s4
  have arrived : RollSafe s s1 :=
    (modEntry_safe slot (by exact fun _ => rfl) s : RollSafe s (setArrival slot t g s)).trans (setOnSite_safe slot _ _)
  have requested : RollSafe s1 s2 := makeArrivalRequest_safe s1 slot j.minutes r
  have due : RollSafe s2 s3 := by
    unfold s3
    split
    · exact .refl s2
    · exact judgeLateDue_safe s2 slot r
  have moved : RollSafe s s4 := (arrived.trans requested).trans <| due.trans (recordMovement_safe s3 _ slot _)
  split
  · exact (moved.trans (requestMark_safe _ slot _ _)).trans (judgeLateDue_safe _ slot r)
  · exact moved.trans (judgeLateDue_safe _ slot r)
  · exact moved

theorem applySignOut_safe (slot g now : Nat) (referral : Option Nat) :
    RollSafe s (applySignOut slot g now referral s) :=
  (setOnSite_safe slot .signedOut s).trans (recordMovement_safe _ _ slot _)

theorem decided_safe (t : TapIn) (a : Answer) (j : Option Judged) : RollSafe s (decided t a j s) :=
  .of_gates (exceptGates_decided s t a j)

theorem makeReferral_safe (t : TapIn) (slot pupil : Nat) (why : ReferralReason) (x : Option Session)
    (j : Option Judged) : RollSafe s (makeReferral t slot pupil why x j s) :=
  .of_gates (exceptGates_makeReferral s t slot pupil why x j)

theorem knownTap_safe (t : TapIn) (slot : Nat) (e : RollEntry) : RollSafe s (knownTap t slot e s) := by
  unfold knownTap
  dsimp only
  split
  · split
    · exact makeReferral_safe s _ _ _ _ _ _
    · exact (applySignOut_safe s slot _ _ _).trans (decided_safe _ _ _ _)
  · split
    · exact makeReferral_safe s _ _ _ _ _ _
    · exact (applyArrival_safe s slot _ _ _ _ _ _).trans (decided_safe _ _ _ _)

theorem answerTap_safe (t : TapIn) (a : Answer) (j : Option Judged) : RollSafe s (answerTap t a j s) :=
  .of_line (exceptLine_answerTap s t a j)

theorem freshTap_safe (t : TapIn) : RollSafe s (freshTap t s) := by
  unfold freshTap
  split
  · exact answerTap_safe s _ _ _
  · split
    · exact (alert_safe s _).trans (decided_safe _ _ _ _)
    · split
      · exact decided_safe s _ _ _
      · exact knownTap_safe s t _ _

theorem takeTap_safe (g : Nat) (d : Direction) (seg : Nat) (a : Byte) (bs : List Byte) :
    RollSafe s (takeTap g d seg a bs s) := by
  unfold takeTap
  split
  · exact .of_line (exceptLine_answerReader s _ _ _ _ _ _)
  · unfold decideTap
    split
    · exact answerTap_safe s _ _ _
    · split
      · exact answerTap_safe s _ _ _
      · exact freshTap_safe s _

theorem letIn_safe (g : Nat) (r : Referral) (excused : Bool) : RollSafe s (letIn g r excused s).1 := by
  unfold letIn
  split
  · exact (modEntry_safe r.slot (by exact fun _ => rfl) s).trans (applyArrival_safe _ _ _ _ _ _ _ _)
  · have out := applySignOut_safe s r.slot g s.sched.second (some r.number)
    dsimp only
    split
    · exact out.trans (requestMark_safe _ _ _ _)
    · exact out
    · exact out

theorem decideReferral_safe (g : Nat) (r : Referral) (d : Decision) : RollSafe s (decideReferral g r d s).1 := by
  cases d with
  | letIn => exact letIn_safe s g r false
  | letInExcused => exact letIn_safe s g r true
  | refuse => exact .of_gates (exceptGates_refuseHeld s g r)

theorem reqAnswerReferral_safe (g number : Nat) (d : Decision) : RollSafe s (reqAnswerReferral g number d s).1 := by
  unfold reqAnswerReferral
  split
  · exact .refl s
  · split
    · exact .refl s
    · split
      · exact .refl s
      · rename_i r _
        split
        · exact .refl s
        · have cleared : RollSafe s (clearReferral g s) := .of_gates (exceptGates_clearReferral s g)
          have answered (t : State) : RollSafe t (answerHeld r (decisionAnswer d) t) :=
            .of_line (exceptLine_answerHeld t r _)
          have remembered (t : State) : RollSafe t (remember g r.token (decisionAnswer d) t) :=
            .of_gates (exceptGates_remember t g _ _)
          refine (cleared.trans (decideReferral_safe _ g r d)).trans ?_
          generalize decideReferral g r d (clearReferral g s) = x
          exact (answered x.1).trans <| (remembered _).trans (tryOffers_safe _)

/-! ### Registers -/

/-- What the operations on windows and walks leave as it was. -/
def exceptRegister (s : State) : State := { exceptReports s with reg := State.reset.reg }

theorem RollSafe.of_register {s t : State} (h : exceptRegister t = exceptRegister s) : RollSafe s t :=
  .of_same (congrArg (·.roll.roll) h) (congrArg (·.gate.onSiteCount) h)

@[simp] theorem exceptRegister_modReg (f : RegisterUnit → RegisterUnit) :
    exceptRegister (s.modReg f) = exceptRegister s := rfl

@[simp] theorem exceptRegister_offerReport (b : ReportBody) : exceptRegister (offerReport b s) = exceptRegister s := by
  have := congrArg exceptRegister (exceptReports_offerReport s b)
  exact this

@[simp] theorem exceptRegister_alert (a : Alert) : exceptRegister (alert a s) = exceptRegister s :=
  exceptRegister_offerReport s _

@[simp] theorem exceptRegister_addWalk (k : WalkKind) : exceptRegister (addWalk k s) = exceptRegister s := rfl

@[simp] theorem exceptRegister_setFormAt (x : Session) (g : Nat) (w : FormWindow) :
    exceptRegister (setFormAt x g w s) = exceptRegister s := rfl

@[simp] theorem exceptRegister_setLessonAt (k : Nat) (w : WindowState) :
    exceptRegister (setLessonAt k w s) = exceptRegister s := rfl

@[simp] theorem exceptRegister_setRoomAt (k slot room : Nat) :
    exceptRegister (setRoomAt k slot room s) = exceptRegister s := rfl

@[simp] theorem exceptRegister_notTakenAlerts (x : Session) (l : List Nat) :
    exceptRegister (notTakenAlerts x l s) = exceptRegister s := by
  induction l generalizing s with
  | nil => rfl
  | cons g gs ih =>
    rw [notTakenAlerts, ih]
    split <;> simp

@[simp] theorem exceptRegister_closeSession (x : Session) : exceptRegister (closeSession x s) = exceptRegister s := by
  unfold closeSession
  split
  · dsimp only
    rw [exceptRegister_addWalk, exceptRegister_notTakenAlerts, exceptRegister_modReg]
  · rfl
  · rfl

@[simp] theorem exceptRegister_startPeriod (k : Nat) : exceptRegister (startPeriod k s) = exceptRegister s := by
  unfold startPeriod; split <;> simp

@[simp] theorem exceptRegister_endPeriod (k : Nat) : exceptRegister (endPeriod k s) = exceptRegister s := by
  unfold endPeriod; split <;> simp

@[simp] theorem exceptRegister_registerRestart : exceptRegister (registerRestart s) = exceptRegister s := rfl

@[simp] theorem exceptRegister_registerDayEnd : exceptRegister (registerDayEnd s) = exceptRegister s := rfl

theorem openSession_safe (x : Session) : RollSafe s (openSession x s) := by
  unfold openSession
  split
  · refine .of_figures (.map fun e => ?_) rfl
    unfold clearRegistered
    split <;> rfl
  · exact .refl s
  · exact .refl s

theorem markRegistered_safe (slot : Nat) (x : Session) (group : Nat) : RollSafe s (markRegistered slot x group s) := by
  unfold markRegistered
  split
  · exact .refl s
  · split
    · exact .refl s
    · extract_lets t w
      have marked : RollSafe s t := modEntry_safe slot (by exact fun _ => rfl) s
      split
      · exact marked.trans (.of_register (by simp))
      · exact marked.trans (.of_register (by simp))

theorem formEntry_safe (x : Session) (group : Nat) (en : Nat × EntryMark) : RollSafe s (formEntry x group en s).1 := by
  unfold formEntry
  split
  · exact .refl s
  · split
    · exact .refl s
    · split
      · exact .refl s
      · split
        · exact .refl s
        · have taken (t : State) : RollSafe t (setTaken x group t) := .of_register rfl
          exact (requestMark_safe s _ x _).trans <| (taken _).trans (markRegistered_safe _ _ x group)

theorem lessonEntry_safe (k room : Nat) (en : Nat × EntryMark) : RollSafe s (lessonEntry k room en s).1 := by
  unfold lessonEntry
  split
  · exact .refl s
  · split
    · exact .refl s
    · extract_lets t u
      have written : RollSafe s u :=
        (modEntry_safe _ (by exact fun _ => rfl) s : RollSafe s t).trans (.of_register (exceptRegister_setRoomAt t k _ room))
      dsimp only
      split
      · exact written
      · exact written.trans (arriveOffSite_safe _ u)

theorem applyEntries_safe (t : RegisterTarget) (l : List (Nat × EntryMark)) : RollSafe s (applyEntries t l s).1 := by
  induction l generalizing s with
  | nil => exact .refl s
  | cons en ens ih =>
    have first : RollSafe s (applyEntry t en s).1 := by
      cases t with
      | form x g => exact formEntry_safe s x g en
      | lesson k room => exact lessonEntry_safe s k room en
    unfold applyEntries
    dsimp only
    split <;> exact first.trans (ih _)

theorem takeRegister_safe (bs : List Byte) : RollSafe s (takeRegister bs s).1 := by
  unfold takeRegister
  split
  · exact .refl s
  · unfold applyRegister
    split
    · exact .refl s
    · exact .refl s
    · exact applyEntries_safe s _ _

theorem closeVisit_safe (slot : Nat) (x : Session) (reference : Option Nat) :
    RollSafe s (closeVisit slot x reference s) := by
  unfold closeVisit
  split
  · exact .refl s
  · split
    · exact .refl s
    · split
      · split
        · exact (requestMark_safe s slot x _).trans (alert_safe _ _)
        · exact requestMark_safe s slot x _
      · exact requestMark_safe s slot x _

theorem periodVisit_safe (slot k : Nat) : RollSafe s (periodVisit slot k s) := by
  unfold periodVisit
  split
  · exact .refl s
  · split
    · dsimp only
      split
      · exact alert_safe s _
      · exact (alert_safe s _).trans (setDue_work _ slot _).safe
    · exact .refl s

theorem advanceWalk_safe : RollSafe s (advanceWalk s) := by
  unfold advanceWalk
  split
  · exact .refl s
  · split
    · exact (RollSafe.of_register (exceptRegister_modReg s _)).trans (walkRequest_safe _)
    · exact .of_register (exceptRegister_modReg s _)

theorem walkStep_safe (close : Bool) : RollSafe s (walkStep close s) := by
  unfold walkStep
  split
  · exact .refl s
  · rename_i w _ _
    split
    · refine .trans ?_ (advanceWalk_safe _)
      unfold walkVisit
      split
      · exact closeVisit_safe s _ _ _
      · exact periodVisit_safe s _ _
    · exact .refl s

/-! ### Field frames -/

theorem deliverTap_safe (seg : Nat) (a : Byte) (e : Station) (bs : List Byte) :
    RollSafe s (deliverTap seg a e bs s) := by
  unfold deliverTap
  split
  · exact .refl s
  · split
    · exact .of_line (exceptLine_answerBusy s _ _ _ _)
    · exact takeTap_safe s _ _ _ _ _

theorem deliverRegister_safe (seg : Nat) (a : Byte) (e : Station) (bs : List Byte) :
    RollSafe s (deliverRegister seg a e bs s) := by
  unfold deliverRegister
  split
  · exact .refl s
  · split
    · exact .of_line (exceptLine_answerBusy s _ _ _ _)
    · exact (takeRegister_safe s bs).trans (.of_line (exceptLine_handFrame _ _ _))

theorem replyToPoll_safe (seg : Nat) (a : Byte) (e : Station) (kind : Byte) (bs : List Byte) :
    RollSafe s (replyToPoll seg a e kind bs s) := by
  unfold replyToPoll
  extract_lets t u
  have present : RollSafe s t := .of_line (exceptLine_creditExchange s seg a true)
  have delivered : RollSafe t u := by
    unfold u
    split
    · exact deliverTap_safe t seg a e bs
    · split
      · exact deliverRegister_safe t seg a e bs
      · exact .refl t
  exact (present.trans delivered).trans (.of_line (exceptLine_closeExchange u seg))

theorem fieldFrame_safe (seg : Nat) (src kind : Byte) (bs : List Byte) : RollSafe s (fieldFrame seg src kind bs s) := by
  unfold fieldFrame
  split
  · exact .refl s
  · split
    · exact .of_bell (exceptBell_strangerFrame s _ _ _ _)
    · unfold classifiedFrame
      split
      · exact .refl s
      · split
        · exact .refl s
        · split
          · exact replyToPoll_safe s _ _ _ _ _
          · unfold replyToBell
            split <;> exact .of_bell (by simp)

/-! ### The schedule -/

theorem eventSide_safe (a : EventAct) : RollSafe s (eventSide a s) := by
  cases a with
  | bell => exact .refl s
  | sessionOpen x => exact openSession_safe s x
  | sessionStart x => exact .refl s
  | sessionClose x => exact .of_register (exceptRegister_closeSession s x)
  | periodStart k => exact .of_register (exceptRegister_startPeriod s k)
  | periodEnd k => exact .of_register (exceptRegister_endPeriod s k)
  | gateMode m g => exact .of_gates (exceptGates_applyGateMode s m g)
  | noticeWindowOpen => exact (openNoticeWindow_work s).flagless.safe
  | noticeWindowClose => exact (closeNoticeWindow_work s).flagless.safe

theorem takeJob_safe (j : BellJob) : RollSafe s (takeJob j s) := .of_bell (exceptBell_takeJob s j)

theorem takeEvent_safe (sounding : Bool) (e : Event) : RollSafe s (takeEvent sounding e s) := by
  unfold takeEvent
  split
  · exact eventSide_safe s _
  · split
    · have choice : RollSafe s s.countChoice := .of_bell (exceptBell_countChoice s)
      dsimp only
      split
      · exact choice.trans <| (takeJob_safe _ _).trans (eventSide_safe _ _)
      · exact choice.trans <| (eventSide_safe _ _).trans (takeJob_safe _ _)
    · exact (eventSide_safe s _).trans (takeJob_safe _ _)

theorem modSched_safe (f : ScheduleUnit → ScheduleUnit) : RollSafe s (s.modSched f) := .of_same rfl rfl

theorem closeSessions_safe (t : Nat) (l : List Session) : RollSafe s (closeSessions t l s) := by
  induction l generalizing s with
  | nil => exact .refl s
  | cons x xs ih =>
    refine .trans ?_ (ih _)
    split
    · exact .of_register (exceptRegister_closeSession s x)
    · exact .refl s

theorem closePeriods_safe (t : Nat) (l : List Nat) : RollSafe s (closePeriods t l s) := by
  induction l generalizing s with
  | nil => exact .refl s
  | cons k ks ih =>
    refine .trans ?_ (ih _)
    split
    · exact .of_register (exceptRegister_endPeriod s k)
    · exact .refl s

theorem swapTo_safe (p t : Nat) : RollSafe s (swapTo p t s) :=
  (modSched_safe s _).trans <| (closeSessions_safe _ t _).trans (closePeriods_safe _ t _)

theorem swapStaged_safe (t : Nat) : RollSafe s (swapStaged t s) := by
  unfold swapStaged
  split
  · exact .refl s
  · exact swapTo_safe s _ t

theorem swapAtEdge_safe : RollSafe s (swapAtEdge s) := by
  unfold swapAtEdge
  split
  · exact swapStaged_safe s _
  · exact .refl s

theorem takeNextEvent_safe (sounding : Bool) (i : Nat) (e : Event) : RollSafe s (takeNextEvent sounding i e s) := by
  unfold takeNextEvent
  have taken := (takeEvent_safe s sounding e).trans (modSched_safe _ fun u =>
    { u with cursor := cursorAfter (activeEvents s) i })
  dsimp only
  split
  · exact taken.trans (swapStaged_safe _ _)
  · exact taken

theorem runEvents_safe (sounding : Bool) (t1 : Option Nat) (t2 fuel : Nat) :
    RollSafe s (runEvents sounding t1 t2 fuel s) := by
  induction fuel generalizing s with
  | zero => exact .refl s
  | succ k ih =>
    unfold runEvents
    split
    · exact .refl s
    · dsimp only
      split
      · exact .refl s
      · cases t1 with
        | none => exact (takeNextEvent_safe s _ _ _).trans (ih _)
        | some t =>
          dsimp only
          split
          · exact (takeNextEvent_safe s _ _ _).trans (ih _)
          · exact (modSched_safe s _).trans (ih _)

theorem setProcessed_safe (t : Nat) : RollSafe s (setProcessed t s) := modSched_safe s _

theorem silentRun_safe (t1 : Option Nat) (t2 : Nat) : RollSafe s (silentRun t1 t2 s) :=
  (runEvents_safe s _ _ _ _).trans <| (swapAtEdge_safe _).trans (setProcessed_safe _ _)

theorem tickEvents_safe : RollSafe s (tickEvents s) :=
  (runEvents_safe s _ _ _ _).trans <| (swapAtEdge_safe _).trans (setProcessed_safe _ _)

theorem dayEndNotice_safe : RollSafe s (dayEndNotice s) :=
  (RollSafe.of_gates (exceptGates_gateDayEnd s)).trans <|
    (RollSafe.of_register (exceptRegister_registerDayEnd _)).trans (messageDayEnd_work _).flagless.safe

theorem startSettlement_safe (day : Nat) : RollSafe s (startSettlement day s) :=
  (RollSafe.of_same rfl rfl : RollSafe s (s.modRoll _)).trans (dayEndNotice_safe _)

theorem passTrigger_safe (day : Nat) : RollSafe s (passTrigger day s) := by
  unfold passTrigger
  split
  · exact startSettlement_safe s day
  · exact .of_same rfl rfl

theorem rolloverTrigger_safe (day : Nat) : RollSafe s (rolloverTrigger day s) :=
  (modSched_safe s _).trans (passTrigger_safe _ day)

theorem takeSettlementStart_safe : RollSafe s (takeSettlementStart s) := by
  unfold takeSettlementStart
  split
  · exact .refl s
  · split
    · exact (RollSafe.of_same rfl rfl : RollSafe s (s.modRoll _)).trans (startSettlement_safe _ _)
    · exact .refl s

theorem beginDay_safe : RollSafe s (beginDay s) := by
  unfold beginDay
  split
  · exact (modSched_safe s _).trans (silentRun_safe _ _ _)
  · exact (modSched_safe s _).trans (modSched_safe _ _)

theorem setUnsetClock_safe (day second : Nat) : RollSafe s (setUnsetClock day second s) := by
  refine .trans ?_ (beginDay_safe _)
  exact .of_figures (.map (f := fun e => { e with recordDay := day }) fun _ => rfl) rfl

theorem setClock_safe (day second : Nat) : RollSafe s (setClock day second s) := by
  unfold setClock
  split
  · exact setUnsetClock_safe s day second
  · split
    · exact (modSched_safe s _).trans (rolloverTrigger_safe _ day)
    · split
      · unfold setForward
        dsimp only
        split
        · exact (modSched_safe s _).trans (silentRun_safe _ _ _)
        · exact modSched_safe s _
      · split
        · unfold setBackward
          dsimp only
          split
          · exact (modSched_safe s _).trans <| (modSched_safe _ _).trans <|
              (setProcessed_safe _ second).trans (swapAtEdge_safe _)
          · exact modSched_safe s _
        · exact .refl s

/-! ### Settlement -/

/-- One session mark counted keeps the figures in range. -/
theorem countMark_inRange (code : MarkCode) {t : TermRecord} (h : termInRange t) : termInRange (countMark code t) := by
  obtain ⟨hap, hp, hu, hl, hm⟩ := h
  have attended : termInRange (countAttended code t) := by
    unfold countAttended
    split
    · rename_i hc
      have : t.p < 1023 := by simpa using (Bool.and_eq_true_iff.mp hc).2
      refine ⟨?_, by simp only; omega, hu, hl, hm⟩
      dsimp only
      split <;> omega
    · exact ⟨hap, hp, hu, hl, hm⟩
  obtain ⟨hap, hp, hu, hl, hm⟩ := attended
  unfold countMark countUnexplained
  split
  · exact ⟨hap, hp, by simp only [satAdd]; omega, hl, hm⟩
  · exact ⟨hap, hp, hu, hl, hm⟩

/-- A day's settlement keeps the figures in range (R16, R17). -/
theorem settledCounts_inRange {e : RollEntry} (h : termInRange e.term) : termInRange (settledCounts e) := by
  obtain ⟨hap, hp, hu, -, -⟩ := countMark_inRange e.day.marks.pm.code (countMark_inRange e.day.marks.am.code h)
  exact ⟨hap, hp, hu, by simp only [settledCounts, countLateness, satAdd]; omega,
    by simp only [settledCounts, countLateness, satAdd]; omega⟩

theorem notifyCleared_work (slot : Nat) (x : Session) (old : MarkCode) :
    NoticeWork undone s (notifyCleared slot x old s) := by
  unfold notifyCleared
  split
  · exact .refl _ s
  · exact markChanged_work s slot x old _

theorem settleExcuses_safe (slot day : Nat) : RollSafe s (settleExcuses slot day s) :=
  (setExcuses_safe s _).trans (settleRequests_safe _ _ _ _)

theorem settleEntry_safe (slot day : Nat) {e : RollEntry} (he : entryAt s slot = some e) :
    RollSafe s (settleEntry slot day e s) := by
  unfold settleEntry
  extract_lets raised s1 s2 s3 s4 s5
  have hs1 : s1.roll.roll = tabInsert slot (settledEntry s.office.params e) s.roll.roll := by
    simp only [s1, modEntry, he, modRoll_roll]
  have notified : NoticeWork flagless s1 s2 :=
    ((notifyCleared_work s1 slot .am _).trans (notifyCleared_work _ slot .pm _)).flagless
  have settled : RollSafe s s3 := by
    refine .rewrite (e' := settledEntry s.office.params e) he ?_ settledCounts_inRange fun h => ?_
    · rw [← hs1, adjustOnSite_roll]
      exact notified.roll.coarser figures fun _ => rfl
    · have gate : s2.gate = s.gate := notified.gate.trans (by simp [s1])
      rw [counted_onSiteEntry] at h
      have := adjustOnSite_count e.day.onSite .offSite s2 (by rw [gate]; exact h)
      simpa [counted_onSiteEntry, gate, settledEntry, clearedDay, s3] using this
  have due : RollSafe s3 s4 := by
    unfold s4
    split
    · exact (setDue_work s3 slot _).safe
    · exact .refl s3
  exact settled.trans <| due.trans <| (settleExcuses_safe s4 slot day).trans
    (modEntry_safe slot (by exact fun _ => rfl) s5)

theorem completeSettlement_safe : RollSafe s (completeSettlement s) := by
  unfold completeSettlement
  extract_lets t
  have normal : RollSafe s t := .of_same rfl rfl
  split
  · exact normal.trans <| (beginDay_safe t).trans (.of_same rfl rfl)
  · exact normal

theorem takeSettleSlot_safe : RollSafe s (takeSettleSlot s) := by
  unfold takeSettleSlot
  split
  · exact .refl s
  · rename_i day _
    extract_lets t
    have settled : RollSafe s t := by
      unfold t settleCursor
      split
      · exact .refl s
      · split
        · exact .refl s
        · split
          · exact .refl s
          · exact settleEntry_safe s _ _ ‹_›
    split
    · have done : RollSafe t (t.modRoll fun u => { u with cursor := Config.rollSlots }) := .of_same rfl rfl
      exact settled.trans <| done.trans <| (completeSettlement_safe _).trans (tryOffers_safe _)
    · exact settled.trans (.of_same rfl rfl)

/-! ### Ticks, restart and power -/

theorem takeTick_safe : RollSafe s (takeTick s) := by
  have expiries : RollSafe s (takeExpiries s) :=
    (RollSafe.of_gates (exceptGates_eachGate s (fun g s => exceptGates_takeReferralExpiry s g) _)).trans
      (takeTimeouts_work _ _).flagless.safe
  have timers (t : State) : RollSafe t (tickTimers t) :=
    (RollSafe.of_gates (exceptGates_eachGate t (fun g s => exceptGates_tickGate s g) _)).trans <|
      (modMsg_work _ _).flagless.safe.trans (.of_bell (exceptBell_tickSounding _))
  have clock (t : State) : RollSafe t (tickClock t) := by
    unfold tickClock
    split
    · exact .refl t
    · dsimp only
      refine .trans ?_ (tickEvents_safe _)
      split
      · exact (modSched_safe t _).trans (rolloverTrigger_safe _ _)
      · exact modSched_safe t _
  exact expiries.trans <| (timers _).trans <| (clock _).trans <|
    (RollSafe.of_bell (exceptBell_bellRun _)).trans (tryOffers_safe _)

/-- A roll with no pupil. -/
theorem RollSafe.of_empty {s t : State} (hr : t.roll.roll = []) (hc : t.gate.onSiteCount = 0) : RollSafe s t where
  terms _ x hx := by rw [hr] at hx; cases hx
  count _ := by simp [OnSiteCounted, RollOrdered, tabSorted, hr, hc]

theorem restartFirst_safe : RollSafe s (restartFirst s) := .of_same rfl rfl

theorem restartSecond_safe : RollSafe s (restartSecond s) := by
  have gates (t : State) : RollSafe t (gateRestart t) := .of_gates (exceptGates_gateRestart t)
  have messages (t : State) : RollSafe t (messageRestart t) := (messageRestart_work t).flagless.safe
  have both (t : State) : RollSafe t (restartGateMessage t) := by
    unfold restartGateMessage
    split
    · have choice : RollSafe t t.countChoice := .of_bell (exceptBell_countChoice t)
      dsimp only
      split
      · exact choice.trans <| (messages _).trans (gates _)
      · exact choice.trans <| (gates _).trans (messages _)
    · exact (gates t).trans (messages _)
  exact (RollSafe.of_bell (exceptBell_bellRestart s)).trans <| (both _).trans <|
    (RollSafe.of_register (exceptRegister_registerRestart _)).trans (modSched_safe _ _)

theorem passTriggers_safe (l : List Nat) : RollSafe s (passTriggers l s) := by
  induction l generalizing s with
  | nil => exact .refl s
  | cons d ds ih => exact (rolloverTrigger_safe s d).trans (ih _)

theorem modOffice_safe (f : OfficeAgent → OfficeAgent) : RollSafe s (s.modOffice f) := .of_same rfl rfl

theorem resumeSettlement_safe : RollSafe s (resumeSettlement s) := by
  unfold resumeSettlement
  split
  · exact dayEndNotice_safe s
  · exact .refl s

theorem catchUpEvents_safe : RollSafe s (catchUpEvents s) := by
  unfold catchUpEvents
  split
  · exact silentRun_safe s _ _
  · exact setProcessed_safe s _

theorem beginCatchUp_safe : RollSafe s (beginCatchUp s) := by
  unfold beginCatchUp
  extract_lets days t u
  have triggers : RollSafe s u :=
    (modOffice_safe s _ : RollSafe s t).trans <| (resumeSettlement_safe t).trans (passTriggers_safe _ days)
  split
  · exact triggers.trans <| (catchUpEvents_safe u).trans (modOffice_safe _ _)
  · exact triggers

theorem chooseAll_safe (l : List Nat) : RollSafe s (chooseAll l s) := .of_line (exceptLine_chooseAll s l)

theorem takePowerFail_safe : RollSafe s (takePowerFail s) := by
  unfold takePowerFail
  split
  · exact (RollSafe.of_line (exceptLine_modLine s _)).trans <|
      (RollSafe.of_bell (exceptBell_openRelays _)).trans (modOffice_safe _ _)
  · exact .refl s

theorem takePowerUp_safe : RollSafe s (takePowerUp s) := by
  unfold takePowerUp
  split
  · exact .refl s
  · split
    · exact (modOffice_safe s _).trans <| (restartFirst_safe _).trans <| (restartSecond_safe _).trans <|
        (beginCatchUp_safe _).trans (chooseAll_safe _ _)
    · exact .of_empty rfl rfl

/-! ### Requests -/

/-- What a canonical roll keeps when a slot is emptied and the on-site count follows (R23). -/
theorem RollSafe.erase {s t : State} {slot : Nat} {e : RollEntry} (he : entryAt s slot = some e)
    (agrees : RollAgrees figures (tabErase slot s.roll.roll) t.roll.roll)
    (count : counted onSiteEntry (some e) ≤ s.gate.onSiteCount →
      t.gate.onSiteCount + counted onSiteEntry (some e) = s.gate.onSiteCount) : RollSafe s t where
  terms ht x hx := by
    obtain ⟨y, hy, -, hyx⟩ := agrees.mem x hx
    have same : y.2.term = x.2.term := congrArg Prod.snd hyx
    exact same ▸ ht y (List.mem_filter.mp hy).1
  count := by
    rintro ⟨⟨sorted, bound⟩, hcount⟩
    have erased := countP_tabErase (slot := slot) sorted onSiteEntry
    rw [show tabFind s.roll.roll slot = some e from he] at erased
    have hc : s.gate.onSiteCount = s.roll.roll.countP fun x => onSiteEntry x.2 := hcount
    have kept : OnSiteCounted (withSites (tabErase slot s.roll.roll) t.gate.onSiteCount s) := by
      refine ⟨⟨tabSorted_tabErase slot sorted, fun x hx => bound x (List.mem_filter.mp hx).1⟩, ?_⟩
      have := count (by omega)
      change t.gate.onSiteCount = (tabErase slot s.roll.roll).countP fun x => onSiteEntry x.2
      omega
    have same : RollSafe (withSites _ t.gate.onSiteCount s) t := .of_figures agrees rfl
    exact same.count kept

/-- A slot named by a search of the roll is filled, when the roll is in order. -/
theorem entryAt_of_find {s : State} (sorted : tabSorted s.roll.roll) {p : Nat × RollEntry → Bool} {slot : Nat}
    {e : RollEntry} (h : s.roll.roll.find? p = some (slot, e)) : entryAt s slot = some e :=
  tabFind_of_mem sorted (List.mem_of_find?_eq_some h)

/-- The lowest empty slot is a slot of the roll, and empty (R1). -/
theorem firstEmptySlot_spec {s : State} {slot : Nat} (h : firstEmptySlot s = some slot) :
    slot < 3072 ∧ entryAt s slot = none := by
  have mem := List.mem_of_find?_eq_some h
  have empty := List.find?_some h
  exact ⟨by simpa [Config.rollSlots] using mem, by simpa using empty⟩

theorem served_safe {s t : State} (d : ReplyData) (h : RollSafe s t) : RollSafe s (served d t).1 := h

theorem reqLoadRoll_safe (a : LoadRollArgs) : RollSafe s (reqLoadRoll a s).1 := by
  unfold reqLoadRoll
  split
  · exact .refl s
  · split
    · exact .refl s
    · split
      · exact .refl s
      · split
        · split
          · exact .refl s
          · exact modEntry_safe _ (by exact fun _ => rfl) s
        · split
          · exact .refl s
          · rename_i slot hslot
            split
            · exact .refl s
            · obtain ⟨bound, empty⟩ := firstEmptySlot_spec hslot
              refine .write (e := newEntry a s.sched.day) bound (.refl _ _) (fun _ => ?_) fun _ => ?_
              · simp [termInRange, newEntry, newTerm]
              · simp [served, empty, counted, onSiteEntry, newEntry, clearedDay]

/-- A pupil's slot emptied (R23): whatever the pupil's notices do, the on-site count stays true. -/
theorem dropSlot_safe {slot : Nat} {e : RollEntry} (n : Nat) (hf : findPupil s n = some (slot, e)) :
    RollSafe s (dropSlot slot e s) where
  terms ht x hx := by
    have notified := ((leaveNotices_work (adjustOnSite e.day.onSite .offSite s) e.pupil
      (adjustOnSite e.day.onSite .offSite s).msg.notices).roll.coarser RollEntry.term fun _ => rfl)
    obtain ⟨y, hy, -, hyx⟩ := notified.mem x (List.mem_filter.mp hx).1
    exact hyx ▸ ht y (by simpa using hy)
  count hc := by
    have he := entryAt_of_find hc.1.1 hf
    refine (RollSafe.erase he ?_ fun h => ?_).count hc
    · have notified := (leaveNotices_work (adjustOnSite e.day.onSite .offSite s) e.pupil
        (adjustOnSite e.day.onSite .offSite s).msg.notices).roll.coarser figures fun _ => rfl
      rw [adjustOnSite_roll] at notified
      exact notified.erase hc.1.1 slot
    · have gate := (leaveNotices_work (adjustOnSite e.day.onSite .offSite s) e.pupil
        (adjustOnSite e.day.onSite .offSite s).msg.notices).gate
      rw [counted_onSiteEntry] at h ⊢
      have := adjustOnSite_count e.day.onSite .offSite s h
      simpa [dropSlot, gate] using this

theorem reqDropRoll_safe (n : Nat) : RollSafe s (reqDropRoll n s).1 := by
  unfold reqDropRoll
  split
  · exact .refl s
  · split
    · exact .refl s
    · split
      · exact .refl s
      · split
        · exact .refl s
        · exact (dropSlot_safe s n ‹_›).trans (tryOffers_safe _)

theorem reqLoadFamily_safe (f : Nat) (held : Bool) (cs : List Contact) :
    RollSafe s (reqLoadFamily f held cs s).1 := by
  unfold reqLoadFamily
  split
  · exact .refl s
  · split
    · exact .refl s
    · split
      · exact .refl s
      · split
        · exact .refl s
        · extract_lets t
          have loaded : RollSafe s t := .of_same rfl rfl
          exact loaded.trans <| (reseatNotices_work t _ _ _).flagless.safe.trans (tryOffers_safe _)

theorem reqSetMark_safe (n : Nat) (x : Session) (code : MarkCode) : RollSafe s (reqSetMark n x code s).1 := by
  unfold reqSetMark
  split
  · exact .refl s
  · split
    · exact .refl s
    · split
      · exact .refl s
      · dsimp only
        split
        · exact .refl s
        · exact (requestMark_safe s _ x _).trans (tryOffers_safe _)

theorem adjustedTerm_inRange {a : AdjustArgs} {old : TermRecord} (h : ¬(adjustedTerm a old).p < (adjustedTerm a old).a) :
    termInRange (adjustedTerm a old) := by
  refine ⟨by omega, ?_⟩
  simp only [adjustedTerm]
  omega

theorem reqAdjustCounts_safe (a : AdjustArgs) : RollSafe s (reqAdjustCounts a s).1 := by
  unfold reqAdjustCounts
  split
  · exact .refl s
  · split
    · exact .refl s
    · rename_i slot e hf
      dsimp only
      split
      · exact .refl s
      · rename_i hle
        show RollSafe s (modEntry slot (fun e' => { e' with term := adjustedTerm a e.term }) s)
        cases he : entryAt s slot with
        | none => simpa [modEntry, he] using RollSafe.refl s
        | some e' =>
          refine .rewrite (e' := { e' with term := adjustedTerm a e.term }) he ?_
            (fun _ => adjustedTerm_inRange hle) fun _ => ?_
          · simp only [modEntry, he]
            exact .refl _ _
          · simp [counted_onSiteEntry]

theorem reqAddExcuse_safe (a : AddExcuseArgs) : RollSafe s (reqAddExcuse a s).1 := by
  unfold reqAddExcuse
  split
  · exact .refl s
  · split
    · exact .refl s
    · split
      · exact .refl s
      · split
        · exact .refl s
        · dsimp only
          split
          · exact .refl s
          · split
            · exact .refl s
            · exact (setExcuses_safe s _).trans <| (applyToday_safe _ _ _ _ _).trans (tryOffers_safe _)

theorem reqRemoveExcuse_safe (n first last : Nat) : RollSafe s (reqRemoveExcuse n first last s).1 := by
  unfold reqRemoveExcuse
  split
  · exact .refl s
  · split
    · exact .refl s
    · split
      · exact .refl s
      · dsimp only
        split
        · exact .refl s
        · exact setExcuses_safe s _

theorem reqSendNotice_safe (f t : Nat) (ps : List Nat) : RollSafe s (reqSendNotice f t ps s).1 := by
  unfold reqSendNotice
  iterate 4 split; · exact .refl s
  split
  · exact .refl s
  · split
    · exact .refl s
    · split
      · exact .refl s
      · exact (RollSafe.of_same rfl rfl : RollSafe s (appendNotice _ s)).trans (tryOffers_safe _)

theorem reqSetClock_safe (day second : Nat) : RollSafe s (reqSetClock day second s).1 := by
  unfold reqSetClock
  split
  · exact .refl s
  · split
    · exact .refl s
    · exact (setClock_safe s day second).trans (tryOffers_safe _)

theorem reqStagePlan_safe (p : Nat) : RollSafe s (reqStagePlan p s).1 := by
  unfold reqStagePlan
  split
  · exact .refl s
  · split
    · exact .refl s
    · split
      · exact .refl s
      · exact .refl s
      · unfold stageActive
        split
        · exact served_safe _ (modSched_safe s _)
        · exact served_safe _ <| (modSched_safe s _).trans <| (swapAtEdge_safe _).trans (tryOffers_safe _)
      · exact served_safe _ <| (modSched_safe s _).trans <| (swapTo_safe _ _ _).trans (tryOffers_safe _)

theorem reqLoadPlan_safe (p start : Nat) (es : List Event) (final : Bool) :
    RollSafe s (reqLoadPlan p start es final s).1 := by
  unfold reqLoadPlan acceptPart
  split
  · exact .refl s
  · split
    · exact .refl s
    · split
      · exact .refl s
      · split
        · exact served_safe _ (modSched_safe s _)
        · split
          · exact served_safe _ (modSched_safe s _)
          · exact .refl s

theorem reqRestart_safe : RollSafe s (reqRestart s).1 := by
  unfold reqRestart
  extract_lets s1 lost s2 triggers s3 s4 s5
  exact served_safe _ <| (restartFirst_safe s).trans <| (restartSecond_safe s1).trans <|
    (beginCatchUp_safe s2).trans <| (modOffice_safe s3 _).trans (chooseAll_safe s4 _)

/-- Every request keeps the term figures and the on-site count. -/
theorem serve_safe (r : Request) : RollSafe s (serve r s).1 := by
  cases r with
  | loadRoll a => exact reqLoadRoll_safe s a
  | dropRoll n => exact reqDropRoll_safe s n
  | loadFamily f held cs => exact reqLoadFamily_safe s f held cs
  | setMark n x code => exact reqSetMark_safe s n x code
  | adjustCounts a => exact reqAdjustCounts_safe s a
  | stagePlan p => exact reqStagePlan_safe s p
  | setClock day second => exact reqSetClock_safe s day second
  | loadPlan p start es final => exact reqLoadPlan_safe s p start es final
  | answerReferral g n d => exact reqAnswerReferral_safe s g n d
  | addExcuse a => exact reqAddExcuse_safe s a
  | removeExcuse n first last => exact reqRemoveExcuse_safe s n first last
  | sendNotice f t ps => exact reqSendNotice_safe s f t ps
  | restart => exact reqRestart_safe s
  | clearAll => exact .of_empty rfl rfl
  | setGateMode m g => exact .of_gates (exceptGates_applyGateMode s m g)
  | readClock => exact .refl s
  | readGates => exact .refl s
  | readParams => exact .refl s
  | readPortsPorts clear => exact .of_same rfl rfl
  | ring z tone d o =>
    simp only [serve, reqRing]
    split
    · exact .refl s
    · split
      · exact .refl s
      · exact takeJob_safe s _
  | loadInputs es =>
    simp only [serve, reqLoadInputs]
    split
    · exact .refl s
    · split
      · exact .refl s
      · exact .of_bell (exceptBell_loadInputs s es)
  | loadPollList g as =>
    simp only [serve, reqLoadPollList]
    split
    · exact .refl s
    · split
      · exact .refl s
      · exact .of_line (by rw [served, exceptLine_segmentChoose, exceptLine_setSegmentAt])
  | readRoll sel =>
    simp only [serve, reqReadRoll]
    split
    · exact .refl s
    · split <;> exact .refl s
  | readFamily f =>
    simp only [serve, reqReadFamily]
    split
    · exact .refl s
    · split <;> exact .refl s
  | loadCalendar first es => simp only [serve, reqLoadCalendar]; split <;> exact .of_same rfl rfl
  | readPlanPlan p start => simp only [serve, reqReadPlan]; split <;> exact .refl s
  | readPlanCalendar first count => simp only [serve, reqReadCalendar]; split <;> exact .refl s
  | setRelay n o z => simp only [serve, reqSetRelay]; split_ifs <;> exact .of_same rfl rfl
  | readMovements start count => simp only [serve, reqReadMovements]; split <;> exact .refl s
  | readWindows x first count => simp only [serve, reqReadWindows]; split <;> exact .refl s
  | readExcuses sel start count =>
    simp only [serve, reqReadExcuses]
    split
    · exact .refl s
    · split <;> exact .refl s
  | readNotices sel start count => simp only [serve, reqReadNotices]; split <;> exact .refl s
  | loadTemplates es =>
    simp only [serve, reqLoadTemplates]
    split
    · exact .refl s
    · split <;> exact .of_same rfl rfl
  | loadStation a => simp only [serve, reqLoadStation]; split <;> exact .of_same rfl rfl
  | readPortsStations first count => simp only [serve, reqReadStations]; split <;> exact .refl s
  | readPortsPollList g => simp only [serve, reqReadPollList]; split <;> exact .refl s
  | setParams items =>
    simp only [serve, reqSetParams]
    split
    · exact .refl s
    · split <;> exact .of_same rfl rfl

theorem judgeFrame_safe (f : UplinkIn) : RollSafe s (judgeFrame f s).1 := by
  unfold judgeFrame
  split
  · split
    · exact serve_safe s _
    · exact .refl s
  · unfold judgeRaw
    split
    · exact .refl s
    · split
      · exact .refl s
      · split
        · exact .refl s
        · exact serve_safe s _

/-- Placing a reply leaves every block but the Office Agent and the line. -/
theorem placeReply_safe (free : Bool) (reply : Reply) : RollSafe s (placeReply free reply s) := by
  unfold placeReply
  extract_lets t
  have buffered : RollSafe s t := modOffice_safe s _
  have chosen : RollSafe s (uplinkChoose t) := buffered.trans (.of_line (exceptLine_uplinkChoose t))
  split
  · split <;> exact .of_same rfl rfl
  · exact buffered
  · exact chosen
  · exact chosen

theorem takeUplink_safe (f : UplinkIn) : RollSafe s (takeUplink f s) :=
  (modOffice_safe s _).trans <| (judgeFrame_safe _ f).trans (placeReply_safe _ _ _)

theorem uplinkArrive_safe (f : UplinkIn) : RollSafe s (uplinkArrive f s) := by
  unfold uplinkArrive
  split
  · exact takeUplink_safe s f
  · split
    · exact .of_same rfl rfl
    · exact .of_line (exceptLine_countInvalid s _ _ _)

theorem takeUplinkSent_safe : RollSafe s (takeUplinkSent s) := by
  unfold takeUplinkSent
  split
  · exact .refl s
  · exact (RollSafe.of_line (exceptLine_modLine s _)).trans (.of_line (exceptLine_uplinkChoose _))
  · refine .trans (t := uplinkChoose ((s.modLine fun u => { u with upSending := none }).modOffice
      fun o => { o with agent := .idle, reply := none })) ?_ ?_
    · exact ((RollSafe.of_line (exceptLine_modLine s _)).trans (modOffice_safe _ _)).trans
        (.of_line (exceptLine_uplinkChoose _))
    · unfold takeHeld
      split
      · exact .refl _
      · exact (RollSafe.of_line (exceptLine_modLine _ _)).trans (takeUplink_safe _ _)

/-! ### Commands -/

theorem gatewayFrame_safe (src kind : Byte) (bs : List Byte) {f : State → State} (hf : RollSafe s (f s)) :
    RollSafe s (gatewayFrame src kind bs f s) := by
  unfold gatewayFrame
  split
  · exact .of_line (exceptLine_countInvalid s _ _ _)
  · exact hf

theorem whenPowered_safe {f : State → State} (hf : RollSafe s (f s)) :
    ∃ t, whenPowered f s = .next t ∧ RollSafe s t := by
  refine ⟨_, rfl, ?_⟩
  split
  · exact hf
  · exact .refl s

/-- Every command completes and keeps the term figures and the on-site count. -/
theorem exec_safe (c : Instr) : ∃ t, exec c s = .next t ∧ RollSafe s t := by
  have powered {f : State → State} (hf : RollSafe s (f s)) := whenPowered_safe s hf
  have request (h : UpHeader) (r : Request) : ∃ t, whenPowered (requestArrives h r) s = .next t ∧ RollSafe s t :=
    powered (uplinkArrive_safe s _)
  cases c with
  | secondsTick =>
    refine ⟨_, rfl, ?_⟩
    split
    · exact takeTick_safe s
    · exact modSched_safe s _
  | settlementStart => exact powered (takeSettlementStart_safe s)
  | settleSlot => exact powered (takeSettleSlot_safe s)
  | closeWalkVisit => exact powered (walkStep_safe s true)
  | periodEndWalkVisit => exact powered (walkStep_safe s false)
  | noticeWalkVisit => exact powered (noticeVisit_work s).flagless.safe
  | tap seg src bs => exact powered (fieldFrame_safe s seg src _ bs)
  | referralExpiry g => exact powered (.of_gates (exceptGates_takeReferralExpiry s g))
  | register seg src bs => exact powered (fieldFrame_safe s seg src _ bs)
  | nothing seg src => exact powered (fieldFrame_safe s seg src _ [])
  | bellAck seg src => exact powered (fieldFrame_safe s seg src _ [])
  | wrongKindReply seg src kind bs => exact powered (fieldFrame_safe s seg src kind bs)
  | outOfTurnFrame seg src kind bs => exact powered (fieldFrame_safe s seg src kind bs)
  | strangerFrame seg src kind bs => exact powered (fieldFrame_safe s seg src kind bs)
  | invalidFrame p f h => exact powered (.of_line (exceptLine_takeInvalid s p f h))
  | exchangeMiss seg => exact powered (.of_bell (exceptBell_takeExchangeMiss s seg))
  | fieldFrameSent seg => exact powered (.of_line (exceptLine_takeFrameSent s seg))
  | outputQueueAdmit seg => exact powered (.of_bell (exceptBell_takeAdmit s seg))
  | soundingCountExpiry z => exact powered (.of_bell (exceptBell_takeSoundingExpiry s z))
  | inputChange n level held => exact powered (.of_bell (exceptBell_takeInputChange s n level held))
  | firstLevelTaken n level => exact powered (.of_bell (exceptBell_takeFirstLevel s n level))
  | ready src bs => exact powered (gatewayFrame_safe s _ _ _ (takeReady_work s bs).flagless.safe)
  | notBeforeReached n => exact powered (takeNotBefore_work s n).flagless.safe
  | outcome src bs => exact powered (gatewayFrame_safe s _ _ _ (takeOutcomeFrame_work s bs).flagless.safe)
  | outcomeTimeout n => exact powered (takeTimeout_work s n).flagless.safe
  | parentReport src bs => exact powered (gatewayFrame_safe s _ _ _ (takeParentReport_safe s bs))
  | gatewayOtherFrame src kind bs => exact powered (gatewayFrame_safe s _ _ _ (.refl s))
  | gatewayFrameSent => exact powered (.of_line (exceptLine_takeGatewaySent s))
  | uplinkFrameSent => exact powered (takeUplinkSent_safe s)
  | unknownRequest h kind bs => exact powered (uplinkArrive_safe s _)
  | powerFail => exact ⟨_, rfl, takePowerFail_safe s⟩
  | powerUp => exact ⟨_, rfl, takePowerUp_safe s⟩
  | backupLow below => exact ⟨_, rfl, modOffice_safe s _⟩
  | _ => exact request _ _

/-- A step keeps the term figures and the on-site count: the queue of waiting commands is no part of either. -/
theorem step_safe {s t : State} (h : step s = .next t) : RollSafe s t := by
  unfold step at h
  split at h
  · cases h; exact .refl s
  · rename_i c rest _
    obtain ⟨u, hu, safe⟩ := exec_safe (s.withPending rest) c
    rw [hu] at h
    cases h
    exact (RollSafe.of_same rfl rfl : RollSafe s (s.withPending rest)).trans safe

/-- Settles O10: every operation is `RollSafe`. -/
theorem stepKeepsTermFigures : Obligations.StepKeepsTermFigures := fun _ _ inRange h => (step_safe h).terms inRange

/-- Settles O11: every operation is `RollSafe`. -/
theorem stepKeepsOnSiteCount : Obligations.StepKeepsOnSiteCount := fun _ _ counted h => (step_safe h).count counted

end Sys2Proof.Machine
end

section
/-! PROOFS. The requests of the roll that offer no report, and those that only read: each is carried out on the state of
a working agent, and answered. -/

namespace Sys2Proof.Machine

open Sys2Proof

/-! ### Requests of an idle agent -/

section

variable {h : UpHeader} {r : Request} {s : State}

/-- A request carried out without a report leaves its effect and its reply. -/
theorem exec_quiet (take : takesRequests s) (ok : countsOk r = true) {s' : State} {st : Status} {d : ReplyData}
    (hs : serve r (working s) = (working s', st, d)) (line : s'.line.upSending = s.line.upSending) :
    exec (commandOf h r) s = .next (withReply h r st d s') := by
  rw [exec_commandOf, whenPowered, if_pos take.1, requestArrives_quiet h r s s' st d take.2 ok hs line]

theorem exec_refused (take : takesRequests s) (ok : countsOk r = true) {st : Status}
    (hs : serve r (working s) = refuse st (working s)) :
    exec (commandOf h r) s = .next (withReply h r st .none s) := exec_quiet take ok hs rfl

/-- A request that only reads leaves nothing but its reply. -/
theorem exec_read (take : takesRequests s) (ok : countsOk r = true) {d : ReplyData}
    (hs : serve r (working s) = served d (working s)) :
    exec (commandOf h r) s = .next (withReply h r .ok d s) := exec_quiet take ok hs rfl

/-- A request whose counts lie outside its layout is answered BAD_ARG. -/
theorem exec_layout (take : takesRequests s) (bad : countsOk r = false) :
    exec (commandOf h r) s = .next (withReply h r .badArg .none s) := by
  rw [exec_commandOf, whenPowered, if_pos take.1, requestArrives_layout h r s take.2 bad,
    placeReply_quiet _ _ _ (by simp [working])]
  simp [withReply, working, State.modOffice]

end

/-- Settles O6: each of the nine requests judges first whether writers are held off. -/
theorem rollWritersAreHeldOff : Obligations.RollWritersAreHeldOff := by
  intro h r s take held ok writer
  have busy : writersHeld (working s) = true := held
  refine exec_refused take ok ?_
  rcases writer with ⟨a, rfl⟩ | ⟨p, rfl⟩ | ⟨f, b, cs, rfl⟩ | ⟨p, x, c, rfl⟩ | ⟨a, rfl⟩ | ⟨g, n, d, rfl⟩ | ⟨a, rfl⟩
    | ⟨p, i, j, rfl⟩ | ⟨f, k, ps, rfl⟩
  · simp [serve, reqLoadRoll, busy]
  · simp [serve, reqDropRoll, busy]
  · simp [serve, reqLoadFamily, busy]
  · simp [serve, reqSetMark, busy]
  · simp [serve, reqAdjustCounts, busy]
  · simp [serve, reqAnswerReferral, busy]
  · simp [serve, reqAddExcuse, busy]
  · simp [serve, reqRemoveExcuse, busy]
  · simp [serve, reqSendNotice, busy]

/-! ### ADJUST_COUNTS -/

theorem modEntry_of_entryAt {s : State} {slot : Nat} {e : RollEntry} (he : entryAt s slot = some e)
    (f : RollEntry → RollEntry) :
    modEntry slot f s = s.modRoll fun u => { u with roll := tabInsert slot (f e) u.roll } := by
  simp only [modEntry, he]

theorem withReply_entryAt (h : UpHeader) (r : Request) (st : Status) (d : ReplyData) (s : State) (n : Nat) :
    entryAt (withReply h r st d s) n = entryAt s n := rfl

theorem entryAt_insert (slot n : Nat) (e : RollEntry) (s : State) :
    entryAt (s.modRoll fun u => { u with roll := tabInsert slot e u.roll }) n
      = if n = slot then some e else entryAt s n := tabFind_tabInsert slot n e s.roll.roll

/-- Settles O29: the one entry written is the pupil's, and the figures are refused by A above P alone. -/
theorem adjustCountsReplaces : Obligations.AdjustCountsReplaces := by
  intro h a slot e s take ordered free found term
  have busy : writersHeld (working s) = false := free
  have found' : findPupil (working s) a.pupil = some (slot, e) := found
  have he : entryAt s slot = some e := entryAt_of_find ordered.1 found
  have hterm : adjustedTerm a e.term = term := by
    simp only [term, adjustedTerm, TermRecord.mk.injEq, true_and]
    cases a.concern <;> rfl
  refine ⟨fun hle => ?_, fun hlt => ?_⟩
  · refine ⟨_, exec_quiet (r := .adjustCounts a)
      (s' := s.modRoll fun u => { u with roll := tabInsert slot { e with term := term } u.roll }) take rfl ?_ rfl,
      ?_, fun n hn => ?_, rfl⟩
    · have written := modEntry_of_entryAt (s := working s) he fun e => { e with term := term }
      simp only [serve, reqAdjustCounts, busy, found', hterm, Nat.not_lt.mpr hle, written, served]
      rfl
    · rw [withReply_entryAt, entryAt_insert, if_pos rfl]
    · rw [withReply_entryAt, entryAt_insert, if_neg hn]
  · refine exec_refused (r := .adjustCounts a) take rfl ?_
    simp [serve, reqAdjustCounts, busy, found', hterm, hlt]

/-! ### LOAD_ROLL -/

/-- What LOAD_ROLL takes for the identity fields of a pupil (R21). -/
abbrev rollLegal (a : LoadRollArgs) : Prop :=
  1 ≤ a.pupil ∧ a.pupil ≤ 65000 ∧ 1 ≤ a.tokens.length ∧ a.tokens.length ≤ 2 ∧ 0 ∉ a.tokens
    ∧ a.tokens.Nodup ∧ a.form ≤ 127 ∧ 7 ≤ a.year ∧ a.year ≤ 13 ∧ a.family ≤ 2047

theorem badLoadRoll_iff (a : LoadRollArgs) : badLoadRoll a = false ↔ rollLegal a := by
  have pupil : pupilInRange a.pupil = true ↔ 1 ≤ a.pupil ∧ a.pupil ≤ 65000 := by
    show (a.pupil != 0 && decide (a.pupil ≤ 65000)) = true ↔ _
    simp only [Bool.and_eq_true, bne_iff_ne, decide_eq_true_eq]
    omega
  have tokens : a.tokens.isEmpty = false ↔ 1 ≤ a.tokens.length := by
    cases a.tokens <;> simp
  simp only [badLoadRoll, Bool.or_eq_false_iff, Bool.not_eq_false', pupil, tokens, decide_eq_false_iff_not,
    decide_eq_true_eq, List.contains_eq_mem, Nat.not_lt]
  tauto

theorem tokenTaken_iff (s : State) (a : LoadRollArgs) :
    tokenTaken s a = false ↔ ∀ x ∈ s.roll.roll, x.2.pupil ≠ a.pupil → ∀ k ∈ x.2.tokens, k ∉ a.tokens := by
  simp [tokenTaken]

theorem anyFormOpen_iff (s : State) : anyFormOpen s = false ↔ ∀ x, formState s x ≠ .opened := by
  simp only [anyFormOpen, formOpen, Bool.or_eq_false_iff, beq_eq_false_iff_ne]
  exact ⟨fun ⟨am, pm⟩ x => by cases x <;> assumption, fun h => ⟨h .am, h .pm⟩⟩

theorem heldOff_iff (s : State) :
    (writersHeld s || walkRunning s) = false ↔ writersHeld s = false ∧ s.reg.walks = [] := by
  simp [walkRunning]

/-- What LOAD_ROLL leaves when it writes one slot of the roll. -/
theorem loadRoll_writes {h : UpHeader} {a : LoadRollArgs} {s : State} {slot : Nat} {e : RollEntry} {created : Bool}
    (take : takesRequests s) (ok : countsOk (.loadRoll a) = true)
    (hs : reqLoadRoll a (working s) = served (.loadedRoll slot created)
      ((working s).modRoll fun u => { u with roll := tabInsert slot e u.roll })) :
    ∃ t, exec (.loadRoll h a) s = .next t ∧ entryAt t slot = some e ∧ (∀ n, n ≠ slot → entryAt t n = entryAt s n)
      ∧ { t with roll := { t.roll with roll := s.roll.roll } }
          = withReply h (.loadRoll a) .ok (.loadedRoll slot created) s := by
  refine ⟨_, exec_quiet (r := .loadRoll a) (s' := s.modRoll fun u => { u with roll := tabInsert slot e u.roll })
    take ok hs rfl, ?_, fun n hn => ?_, rfl⟩
  · rw [withReply_entryAt, entryAt_insert, if_pos rfl]
  · rw [withReply_entryAt, entryAt_insert, if_neg hn]

/-- Settles O25: the order of judgement of R21 is that of the request's branches. -/
theorem loadRollLoads : Obligations.LoadRollLoads := by
  intro h a s take ordered r free legal unique closed loads refused
  have counts (hl : legal) : countsOk r = true := by
    obtain ⟨-, -, one, two, -⟩ := hl
    simp [r, countsOk, one, two]
  have hfree (hf : free) : (writersHeld (working s) || walkRunning (working s)) = false := (heldOff_iff s).mpr hf
  have hlegal (hl : legal) : badLoadRoll a = false := (badLoadRoll_iff a).mpr hl
  have hunique (hu : unique) : tokenTaken (working s) a = false := (tokenTaken_iff s a).mpr hu
  have hopen (hc : ¬closed) : anyFormOpen (working s) = true :=
    Bool.not_eq_false _ ▸ fun hf => hc ((anyFormOpen_iff s).mp hf)
  have hclosed (hc : closed) : anyFormOpen (working s) = false := (anyFormOpen_iff s).mpr hc
  have found {x} (hf : findPupil s a.pupil = x) : findPupil (working s) a.pupil = x := hf
  have empty {x} (hf : firstEmptySlot s = x) : firstEmptySlot (working s) = x := hf
  refine ⟨fun slot hf hl hu hc hp hs => ?_, fun slot e hf hl hu hp hc => ?_, fun hf one two => ?_, fun hf hl => ?_,
    fun hf hl hu => ?_, fun hf hl hu hp hs => ?_, fun slot hf hl hu hc hp hs => ?_, fun slot e hf hl hu hc hp hne => ?_⟩
  · refine loadRoll_writes take (counts hl) ?_
    simp only [reqLoadRoll, hfree hf, hlegal hl, hunique hu, hclosed hc, found hp, empty hs, Bool.false_eq_true,
      if_false]
    rfl
  · have he : entryAt (working s) slot = some e := entryAt_of_find ordered.1 hp
    refine loadRoll_writes take (counts hl) ?_
    have stays : ¬(e.form ≠ a.form ∧ anyFormOpen (working s) = true) := by
      rintro ⟨hne, ho⟩
      rcases hc with hc | hc
      · exact hne hc
      · rw [hclosed hc] at ho; cases ho
    simp only [reqLoadRoll, hfree hf, hlegal hl, hunique hu, found hp, if_neg stays, modEntry_of_entryAt he,
      Bool.false_eq_true, if_false]
    rfl
  · refine exec_refused (r := r) take (by simp [r, countsOk, one, two]) ?_
    have : (writersHeld (working s) || walkRunning (working s)) = true :=
      Bool.not_eq_false _ ▸ fun hb => hf ((heldOff_iff s).mp hb)
    simp only [r, serve, reqLoadRoll, this, if_true]
  · have bad : badLoadRoll a = true := Bool.not_eq_false _ ▸ fun hb => hl ((badLoadRoll_iff a).mp hb)
    cases ok : countsOk r with
    | false => exact exec_layout (r := r) take ok
    | true =>
      refine exec_refused (r := r) take ok ?_
      simp only [r, serve, reqLoadRoll, hfree hf, bad, Bool.false_eq_true, if_false, if_true]
  · have taken : tokenTaken (working s) a = true :=
      Bool.not_eq_false _ ▸ fun hb => hu ((tokenTaken_iff s a).mp hb)
    refine exec_refused (r := r) take (counts hl) ?_
    simp only [r, serve, reqLoadRoll, hfree hf, hlegal hl, taken, Bool.false_eq_true, if_false, if_true]
  · refine exec_refused (r := r) take (counts hl) ?_
    simp only [r, serve, reqLoadRoll, hfree hf, hlegal hl, hunique hu, found hp, empty hs, Bool.false_eq_true,
      if_false]
  · refine exec_refused (r := r) take (counts hl) ?_
    simp only [r, serve, reqLoadRoll, hfree hf, hlegal hl, hunique hu, hopen hc, found hp, empty hs,
      Bool.false_eq_true, if_false, if_true]
  · refine exec_refused (r := r) take (counts hl) ?_
    have other : e.form ≠ a.form ∧ anyFormOpen (working s) = true := ⟨hne, hopen hc⟩
    simp only [r, serve, reqLoadRoll, hfree hf, hlegal hl, hunique hu, found hp, if_pos other, Bool.false_eq_true,
      if_false]

/-! ### Requests that read -/

/-- The attendance figure is the whole part of 1000 A/P (R14). -/
theorem attendance_bounds (t : TermRecord) (hp : 0 < t.p) (ha : t.a ≤ t.p) :
    attendance t ≤ 1000 ∧ attendance t * t.p ≤ 1000 * t.a ∧ 1000 * t.a < (attendance t + 1) * t.p := by
  rw [attendance, if_neg (by omega)]
  refine ⟨?_, Nat.div_mul_le_self _ _, ?_⟩
  · exact Nat.div_le_of_le_mul (by rw [Nat.mul_comm]; exact Nat.mul_le_mul_right _ ha)
  · rw [Nat.mul_comm (1000 * t.a / t.p + 1)]
    exact Nat.lt_mul_div_succ _ hp

/-- Settles O22: each read answers from the tables, its refusals being the request's branches. -/
theorem rollAndScheduleReadsAnswer : Obligations.RollAndScheduleReadsAnswer := by
  refine ⟨fun h s take => ?_, fun h s take => ?_⟩
  · refine ⟨fun n slot e hf => ?_, fun n hf => ?_, fun n slot e hn hf => ?_, fun n hn hf => ?_, fun n hn => ?_,
      fun n f hn hf => ?_, fun n hn hf => ?_, fun n hn => ?_,
      fun t => ⟨fun hp => by simp [attendance, hp], attendance_bounds t⟩⟩
    · have hf : selectRoll (working s) (.pupil n) = some (slot, e) := hf
      exact exec_read (r := .readRoll (.pupil n)) take rfl (by simp only [serve, reqReadRoll, hf]; rfl)
    · have hf : selectRoll (working s) (.pupil n) = none := hf
      exact exec_refused (r := .readRoll (.pupil n)) take rfl (by simp [serve, reqReadRoll, badRollSelector, hf])
    · have hf : selectRoll (working s) (.slot n) = some (slot, e) := hf
      refine exec_read (r := .readRoll (.slot n)) take rfl ?_
      simp only [serve, reqReadRoll, badRollSelector, hf, Nat.not_lt.mpr hn]
      rfl
    · have hf : selectRoll (working s) (.slot n) = none := hf
      refine exec_refused (r := .readRoll (.slot n)) take rfl ?_
      simp [serve, reqReadRoll, badRollSelector, hf, Nat.not_lt.mpr hn]
    · exact exec_refused (r := .readRoll (.slot n)) take rfl (by simp [serve, reqReadRoll, badRollSelector, hn])
    · have hf : tabFind (working s).roll.families n = some f := hf
      exact exec_read (r := .readFamily n) take rfl (by simp [serve, reqReadFamily, hf, Nat.not_lt.mpr hn])
    · have hf : tabFind (working s).roll.families n = none := hf
      exact exec_refused (r := .readFamily n) take rfl (by simp [serve, reqReadFamily, hf, Nat.not_lt.mpr hn])
    · exact exec_refused (r := .readFamily n) take rfl (by simp [serve, reqReadFamily, hn])
  · refine ⟨fun p start => ?_, fun first count => ?_, ?_⟩
    · have plan : planAt (working s) p = planAt s p := rfl
      split
      · rename_i hle
        refine exec_read (r := .readPlanPlan p start) take rfl ?_
        simp [serve, reqReadPlan, plan, Nat.not_lt.mpr hle.1, Nat.not_lt.mpr hle.2]
      · rename_i hgt
        refine exec_refused (r := .readPlanPlan p start) take rfl ?_
        have : 7 < p ∨ (planAt s p).length < start := by omega
        simp [serve, reqReadPlan, plan, this]
    · split
      · rename_i hle
        refine exec_read (r := .readPlanCalendar first count) take rfl ?_
        have : ¬(count = 0 ∨ 200 < count ∨ 366 < first + count) := by omega
        simp only [serve, reqReadCalendar, Bool.or_eq_true, decide_eq_true_eq, or_assoc, if_neg this]
        rfl
      · rename_i hgt
        refine exec_refused (r := .readPlanCalendar first count) take rfl ?_
        have : count = 0 ∨ 200 < count ∨ 366 < first + count := by omega
        simp only [serve, reqReadCalendar, Bool.or_eq_true, decide_eq_true_eq, or_assoc, if_pos this]
    · refine exec_read (r := .readClock) take rfl ?_
      have next : (nextEvent (working s)).map Prod.snd = match s.sched.cursor with
          | .next i => (activeEvents s)[i]?
          | .absent => none
          | .past => none := by
        have events : activeEvents (working s) = activeEvents s := rfl
        have cursor : (working s).sched.cursor = s.sched.cursor := rfl
        cases hc : s.sched.cursor <;> simp [nextEvent, cursor, hc, events, Function.comp_def]
      simp only [serve, reqReadClock, next]
      rfl

end Sys2Proof.Machine
end

section
/-! PROOFS. The merge table and what a mark request makes of a mark (R8 to R12), and what a settlement counts (R16,
R17). -/

namespace Sys2Proof.Machine

open Sys2Proof

/-! ### One session's value -/

@[simp] theorem AmPm_get_set {α : Type} (p : AmPm α) (x y : Session) (v : α) :
    (p.set x v).get y = if y = x then v else p.get y := by
  cases x <;> cases y <;> rfl

/-! ### What a written mark leaves -/

/-- What of an entry a change of on-site state leaves. -/
def siteless (e : RollEntry) : RollEntry := { e with day := { e.day with onSite := .offSite, flags := clearedFlags } }

theorem setOnSite_agrees (slot : Nat) (st : OnSite) (s : State) :
    RollAgrees siteless s.roll.roll (setOnSite slot st s).roll.roll := by
  unfold setOnSite
  split
  · exact .refl _ _
  · rw [adjustOnSite_roll]
    exact modEntry_agrees slot (by exact fun _ => rfl) s

theorem arriveOffSite_agrees (slot : Nat) (s : State) :
    RollAgrees siteless s.roll.roll (arriveOffSite slot s).roll.roll := by
  unfold arriveOffSite
  split
  · exact .refl _ _
  · split
    · exact setOnSite_agrees slot _ s
    · exact .refl _ _

/-- A mark of an entry, written. -/
def withMark (x : Session) (m : Mark) (e : RollEntry) : RollEntry :=
  { e with day := { e.day with marks := e.day.marks.set x m } }

/-- Writing a mark changes the mark, and of the rest of the roll no more than on-site states and notice flags. -/
theorem writeMark_agrees (slot : Nat) (x : Session) (old new : Mark) (s : State) :
    RollAgrees siteless (modEntry slot (withMark x new) s).roll.roll (writeMark slot x old new s).roll.roll := by
  unfold writeMark
  extract_lets t u
  have site : RollAgrees siteless t.roll.roll u.roll.roll := by
    unfold u
    split
    · exact arriveOffSite_agrees slot t
    · exact .refl _ _
  split
  · exact site
  · exact site.trans ((markChanged_work u slot x _ _).roll.coarser siteless fun _ => rfl)

theorem markAt_writeMark {slot : Nat} {s : State} {e : RollEntry} (he : entryAt s slot = some e) (x : Session)
    (old new : Mark) : markAt (writeMark slot x old new s) slot x = new := by
  have marked : entryAt (modEntry slot (withMark x new) s) slot = some (withMark x new e) := by
    rw [entryAt_modEntry, if_pos rfl, he, Option.map_some]
  obtain ⟨e', he', same⟩ := (writeMark_agrees slot x old new s).lookup marked
  have marks : e'.day.marks = (withMark x new e).day.marks := congrArg (·.day.marks) same
  have found : entryAt (writeMark slot x old new s) slot = some e' := he'
  simp [markAt, found, marks, withMark]

/-! ### The merge table -/

theorem requestMark_none {slot : Nat} {s : State} {e : RollEntry} (he : entryAt s slot = some e) {x : Session}
    {k : MarkRequest} (hk : mergeCode k (e.day.marks.get x) = none) :
    requestMark slot x k s = if missingOnSite k (e.day.marks.get x)
      then alert (.missingOnSite e.pupil x (e.day.marks.get x).code (e.day.marks.get x).source) s else s := by
  simp only [requestMark, he, hk]

theorem requestMark_some {slot : Nat} {s : State} {e : RollEntry} (he : entryAt s slot = some e) {x : Session}
    {k : MarkRequest} {c : MarkCode} (hk : mergeCode k (e.day.marks.get x) = some c) :
    requestMark slot x k s = writeMark slot x (e.day.marks.get x) ⟨c, some (requestSource k)⟩ s := by
  simp only [requestMark, he, hk]

/-- A mark after a request is what the merge table makes of it (R8, R9). -/
theorem markAt_requestMark {slot : Nat} {s : State} {e : RollEntry} (he : entryAt s slot = some e) (x : Session)
    (k : MarkRequest) : markAt (requestMark slot x k s) slot x =
      match mergeCode k (e.day.marks.get x) with
      | some c => ⟨c, some (requestSource k)⟩
      | none => e.day.marks.get x := by
  cases hk : mergeCode k (e.day.marks.get x) with
  | some c => rw [requestMark_some he hk, markAt_writeMark he]
  | none =>
    rw [requestMark_none he hk]
    have kept : markAt s slot x = e.day.marks.get x := by simp [markAt, he]
    split
    · simpa [markAt, entryAt, alert] using kept
    · exact kept

/-- A report offered while the uplink sends, with room in the queue, joins the queue and does nothing else (R162). -/
theorem offerReport_queued {s : State} (b : ReportBody) (busy : s.line.upSending.isSome = true)
    (room : s.office.reports.length < 64) :
    offerReport b s = { s with office := { s.office with
      reportNumber := (s.office.reportNumber + 1) % 65536
      reports := s.office.reports ++ [⟨s.office.reportNumber, s.sched.day, s.sched.second, b⟩] } } := by
  obtain ⟨f, hf⟩ := Option.isSome_iff_exists.mp busy
  have hr : reportRoom s = true := decide_eq_true room
  simp only [offerReport, hr, if_true, uplinkChoose, modOffice_line, hf]
  rfl

/-- Settles O19: the table is read off row by row, and the effect of a request is that of the code it names. -/
theorem mergeTableDecides : Obligations.MergeTableDecides := by
  refine ⟨fun x m => by simp only [mergeCode], fun k m hk hm => ?_, fun k src hk he => ?_, fun src => rfl,
    fun v m => ?_, fun c src hc => ?_, rfl, rfl, fun _ _ => ⟨rfl, rfl⟩,
    fun s slot x k e he => markAt_requestMark he x k, fun s slot x e he => ?_⟩
  · obtain ⟨c, src⟩ := m
    cases k with
    | officeSet x => exact absurd rfl (hk x)
    | _ => rcases hm with rfl | rfl <;> rfl
  · cases k with
    | officeSet x => exact absurd rfl (hk x)
    | excuse => exact absurd rfl he
    | _ => rfl
  · obtain ⟨c, src⟩ := m
    cases c <;> rfl
  · rcases hc with rfl | rfl | rfl | rfl | rfl <;> simp [mergeCode, absentOverSeen]
  · intro m hm hsrc busy room
    have unchanged : mergeCode .regAbsent m = none := by
      obtain ⟨c, src⟩ := m
      rcases hm with rfl | rfl <;> simpa [mergeCode, absentOverSeen] using hsrc
    have seen : missingOnSite .regAbsent m = true := by
      rcases hm with h | h <;> simp [missingOnSite, h, hsrc]
    rw [requestMark_none he unchanged, if_pos seen]
    exact offerReport_queued _ busy room

/-! ### What a settlement counts -/

theorem isLate_iff (c : MarkCode) : isLate c = true ↔ c = .late ∨ c = .lateAfterClose := by
  cases c <;> simp [isLate]

theorem countMark_p (c : MarkCode) (t : TermRecord) (h : t.p ≤ 1023) :
    (countMark c t).p = min 1023 (t.p + if countsInP c then 1 else 0) := by
  unfold countMark countUnexplained countAttended
  cases countsInU c <;> cases countsInP c <;> by_cases hp : t.p < 1023 <;> simp [hp] <;> omega

theorem countMark_a (c : MarkCode) (t : TermRecord) :
    (countMark c t).a = t.a + if countsInP c ∧ countsInA c ∧ t.p < 1023 then 1 else 0 := by
  unfold countMark countUnexplained countAttended
  cases countsInU c <;> cases countsInP c <;> cases countsInA c <;> by_cases hp : t.p < 1023 <;> simp [hp]

theorem countMark_u (c : MarkCode) (t : TermRecord) (h : t.u ≤ 1023) :
    (countMark c t).u = min 1023 (t.u + if countsInU c then 1 else 0) := by
  have attended : (countAttended c t).u = t.u := by unfold countAttended; split <;> rfl
  unfold countMark countUnexplained
  split <;> simp_all [satAdd]

theorem countMark_late (c : MarkCode) (t : TermRecord) :
    (countMark c t).lateCount = t.lateCount ∧ (countMark c t).lateMinutes = t.lateMinutes := by
  unfold countMark countUnexplained countAttended
  split <;> split <;> exact ⟨rfl, rfl⟩

/-- A code that counts in A counts in P (Table 4 of Chapter 1). -/
theorem countsInP_of_countsInA {c : MarkCode} (h : countsInA c = true) : countsInP c = true := by
  revert h
  cases c <;> simp [countsInA, countsInP]

/-- Settles O21: the two session marks are counted one after the other, AM first. -/
theorem settlementCounts : Obligations.SettlementCounts := by
  intro e inRange am pm late
  obtain ⟨hap, hp, hu, hl, hm⟩ := inRange
  have first := countMark_inRange am ⟨hap, hp, hu, hl, hm⟩
  obtain ⟨-, hp', hu', -, -⟩ := first
  have amP := countMark_p am e.term hp
  have pmP := countMark_p pm (countMark am e.term) hp'
  have amA := countMark_a am e.term
  have pmA := countMark_a pm (countMark am e.term)
  have amU := countMark_u am e.term hu
  have pmU := countMark_u pm (countMark am e.term) hu'
  obtain ⟨amL, amM⟩ := countMark_late am e.term
  obtain ⟨pmL, pmM⟩ := countMark_late pm (countMark am e.term)
  have inP {c : MarkCode} (h : countsInA c = true) : countsInP c = true := countsInP_of_countsInA h
  have hP : (settledCounts e).p = (countMark pm (countMark am e.term)).p := rfl
  have hA : (settledCounts e).a = (countMark pm (countMark am e.term)).a := rfl
  have hU : (settledCounts e).u = (countMark pm (countMark am e.term)).u := rfl
  have hL : (settledCounts e).lateCount = min 1023 (e.term.lateCount + if isLate am || isLate pm then 1 else 0) := by
    rw [← amL, ← pmL]; rfl
  have hM : (settledCounts e).lateMinutes = min 65535 (e.term.lateMinutes + e.day.minutesLate) := by
    rw [← amM, ← pmM]; rfl
  have lateIff : (isLate am || isLate pm) = true ↔ late am ∨ late pm := by
    rw [Bool.or_eq_true, isLate_iff, isLate_iff]
  refine ⟨settledCounts_inRange ⟨hap, hp, hu, hl, hm⟩, ?_, fun room => ?_, fun one => ?_, fun top => ?_, ?_,
    fun h => ?_, fun h k => ?_, hM⟩
  · rw [hP, pmP, amP]; omega
  · have below : (countMark am e.term).p < 1023 := by rw [amP]; split <;> omega
    have before : e.term.p < 1023 := by omega
    rw [hA, pmA, amA]
    by_cases h1 : countsInA am = true <;> by_cases h2 : countsInA pm = true <;> simp [h1, h2, inP, below, before]
  · rw [hA, pmA, amA, amP, one]
    by_cases h1 : countsInP am = true <;> by_cases h2 : countsInA pm = true <;> simp [h1, h2, inP]
  · rw [hA, pmA, amA, amP, top]; simp
  · rw [hU, pmU, amU]; omega
  · rw [hL, if_pos (lateIff.mpr h)]
  · rw [hL, if_neg fun hb => (lateIff.mp hb).elim h k, Nat.add_zero, Nat.min_eq_right hl]

end Sys2Proof.Machine
end

section
/-! PROOFS. Requests that offer reports, and the notice queue record by record: what becomes of it when each of its
records is dealt with in turn (R23, R24, R132, R133). -/

namespace Sys2Proof.Machine

open Sys2Proof

/-! ### A request that offers reports -/

/-- What taking a request and placing its reply leave as they were: all but the agent's condition, the reply, the frame
being sent, and the report that makes way for the reply (R160, R161). -/
def exceptReply (s : State) : State :=
  { s with
    line := { s.line with upSending := none }
    office := { s.office with agent := .idle, reply := none, reports := [], lost := 0 }
    choices := 0 }

theorem exceptReply_uplinkChoose (s : State) : exceptReply (uplinkChoose s) = exceptReply s := by
  rw [uplinkChoose_eq]; rfl

theorem exceptReply_placeReply (free : Bool) (reply : Reply) (s : State) :
    exceptReply (placeReply free reply s) = exceptReply s := by
  unfold placeReply
  extract_lets t
  split
  · split <;> rfl
  · rfl
  · exact exceptReply_uplinkChoose t
  · exact exceptReply_uplinkChoose t

theorem uplinkChoose_agent (s : State) : (uplinkChoose s).office.agent = s.office.agent := by
  rw [uplinkChoose_eq]

theorem uplinkChoose_reply (s : State) : (uplinkChoose s).office.reply = s.office.reply := by
  rw [uplinkChoose_eq]

theorem placeReply_answers (free : Bool) (reply : Reply) (s : State) :
    (placeReply free reply s).office.agent = .replying ∧ (placeReply free reply s).office.reply = some reply := by
  unfold placeReply
  extract_lets t
  split
  · split <;> exact ⟨rfl, rfl⟩
  · exact ⟨rfl, rfl⟩
  · exact ⟨uplinkChoose_agent t, uplinkChoose_reply t⟩
  · exact ⟨uplinkChoose_agent t, uplinkChoose_reply t⟩

/-- A request that a block carries out leaves the block's effect, and is answered. -/
theorem exec_carried {h : UpHeader} {r : Request} {s u : State} {st : Status} {d : ReplyData} (take : takesRequests s)
    (ok : countsOk r = true) (hs : serve r (working s) = (u, st, d)) :
    ∃ t, exec (commandOf h r) s = .next t ∧ answered h r st d t ∧ exceptReply t = exceptReply u := by
  rw [exec_commandOf, whenPowered, if_pos take.1, requestArrives_idle h r s take.2 ok, hs]
  exact ⟨_, rfl, placeReply_answers _ _ _, exceptReply_placeReply _ _ _⟩

section

variable {s t : State}

theorem roll_of_exceptReply (h : exceptReply t = exceptReply s) : t.roll = s.roll := congrArg (·.roll) h

theorem sched_of_exceptReply (h : exceptReply t = exceptReply s) : t.sched = s.sched := congrArg (·.sched) h

theorem bell_of_exceptReply (h : exceptReply t = exceptReply s) : t.bell = s.bell := congrArg (·.bell) h

theorem gate_of_exceptReply (h : exceptReply t = exceptReply s) : t.gate = s.gate := congrArg (·.gate) h

theorem reg_of_exceptReply (h : exceptReply t = exceptReply s) : t.reg = s.reg := congrArg (·.reg) h

theorem msg_of_exceptReply (h : exceptReply t = exceptReply s) : t.msg = s.msg := congrArg (·.msg) h

theorem reportNumber_of_exceptReply (h : exceptReply t = exceptReply s) :
    t.office.reportNumber = s.office.reportNumber := congrArg (·.office.reportNumber) h

theorem sameControl_of_exceptReply (h : exceptReply t = exceptReply s) : sameControl s t :=
  ⟨congrArg (·.office.params) h, congrArg (·.office.retentionValid) h, congrArg (·.office.backupLow) h,
    congrArg (·.office.powered) h, congrArg (·.office.catchUp) h⟩

end

theorem sameControl_trans {s t u : State} (h : sameControl s t) (k : sameControl t u) : sameControl s u :=
  ⟨k.1.trans h.1, k.2.1.trans h.2.1, k.2.2.1.trans h.2.2.1, k.2.2.2.1.trans h.2.2.2.1,
    k.2.2.2.2.trans h.2.2.2.2⟩

theorem sameControl_working (s : State) : sameControl s (working s) := ⟨rfl, rfl, rfl, rfl, rfl⟩

/-! ### The notice walk's own fields -/

/-- All but the walk's state, cursor and flags (R128). -/
def exceptWalk (s : State) : State := { s with msg := idleWalk s.msg }

theorem exceptWalk_walkRequest (s : State) : exceptWalk (walkRequest s) = exceptWalk s := by
  unfold walkRequest
  split
  · rfl
  · split <;> rfl

theorem exceptWalk_releaseDeferred (s : State) : exceptWalk (releaseDeferred s) = exceptWalk s := by
  unfold releaseDeferred
  split
  · exact exceptWalk_walkRequest _
  · rfl

theorem exceptWalk_resumeWalk (s : State) : exceptWalk (resumeWalk s) = exceptWalk s := by
  unfold resumeWalk; split <;> rfl

/-! ### A record that leaves the queue -/

@[simp] theorem offerReport_reportNumber (b : ReportBody) (s : State) :
    (offerReport b s).office.reportNumber = (s.office.reportNumber + 1) % 65536 := by
  rw [offerReport_eq]

/-- How many reports a record makes as it leaves (R133, Table 4 of Chapter 7). -/
def departureReports : NoticeResult → Nat
  | .contactFailed => 2
  | .delivered => 1
  | .withdrawn => 1
  | .dropped => 1

/-- A state without a notice record. -/
def withoutNotice (n : Notice) (s : State) : State := s.modMsg fun m => { m with notices := m.notices.erase n }

theorem setDone_rest (slot : Nat) (r : DueReason) (b : Bool) (s : State) :
    (setDone slot r b s).msg = s.msg ∧ (setDone slot r b s).office = s.office := by
  simp [setDone]

theorem clearListed_rest (r : DueReason) (ps : List (Nat × Bool)) (s : State) :
    (clearListed r ps s).msg = s.msg ∧ (clearListed r ps s).office = s.office := by
  induction ps generalizing s with
  | nil => exact ⟨rfl, rfl⟩
  | cons p ps ih =>
    unfold clearListed
    split
    · rename_i slot _ _
      obtain ⟨msg, office⟩ := ih (if p.2 then s else setDone slot r false s)
      rw [msg, office]
      split
      · exact ⟨rfl, rfl⟩
      · exact setDone_rest _ r _ s
    · exact ih s

/-- A result's effect touches no record, and makes one alert for CONTACT_FAILED (Table 4 of Chapter 7). -/
theorem departureEffect_rest (n : Notice) (res : NoticeResult) (s : State) :
    idleWalk (departureEffect n res s).msg = idleWalk s.msg
      ∧ (departureEffect n res s).office.reportNumber =
        if res = .contactFailed then (s.office.reportNumber + 1) % 65536 else s.office.reportNumber := by
  cases res with
  | delivered => exact ⟨rfl, rfl⟩
  | dropped => exact ⟨rfl, rfl⟩
  | contactFailed => simp [departureEffect, alert]
  | withdrawn =>
    unfold departureEffect
    simp only
    split
    · exact ⟨rfl, rfl⟩
    · split
      · rename_i r _ _
        have walk := exceptWalk_walkRequest (clearListed r n.pupils s)
        obtain ⟨msg, office⟩ := clearListed_rest r n.pupils s
        have hmsg := congrArg State.msg walk
        have hoffice := congrArg State.office walk
        exact ⟨hmsg.trans (congrArg idleWalk msg), (congrArg (·.reportNumber) hoffice).trans
          (congrArg (·.reportNumber) office)⟩
      · exact ⟨rfl, rfl⟩

theorem leaveQueue_exceptWalk (n : Notice) (res : NoticeResult) (s : State) :
    exceptWalk (leaveQueue n res s)
      = exceptWalk (departureEffect n res (offerReport (.noticeOutcome n res s.sched.second) (withoutNotice n s))) := by
  show exceptWalk (releaseDeferred (resumeWalk _)) = _
  rw [exceptWalk_releaseDeferred, exceptWalk_resumeWalk]
  rfl

/-- A record that leaves is taken out of the queue, and the other records, the window and the credit stand. -/
theorem leaveQueue_msg (n : Notice) (res : NoticeResult) (s : State) :
    idleWalk (leaveQueue n res s).msg = idleWalk { s.msg with notices := s.msg.notices.erase n } := by
  have := congrArg State.msg (leaveQueue_exceptWalk n res s)
  refine this.trans ((departureEffect_rest n res _).1.trans ?_)
  simp [withoutNotice]

theorem leaveQueue_notices (n : Notice) (res : NoticeResult) (s : State) :
    (leaveQueue n res s).msg.notices = s.msg.notices.erase n := congrArg (·.notices) (leaveQueue_msg n res s)

theorem leaveQueue_windowOpen (n : Notice) (res : NoticeResult) (s : State) :
    (leaveQueue n res s).msg.windowOpen = s.msg.windowOpen := congrArg (·.windowOpen) (leaveQueue_msg n res s)

theorem leaveQueue_reportNumber (n : Notice) (res : NoticeResult) (s : State) :
    (leaveQueue n res s).office.reportNumber = (s.office.reportNumber + departureReports res) % 65536 := by
  have := congrArg (·.office.reportNumber) (leaveQueue_exceptWalk n res s)
  refine this.trans ((departureEffect_rest n res _).2.trans ?_)
  cases res <;> simp [departureReports, withoutNotice]

/-- A record that does not leave WITHDRAWN with pupils listed leaves the roll as it was. -/
theorem leaveQueue_roll {n : Notice} {res : NoticeResult} (h : res ≠ .withdrawn ∨ n.pupils = []) (s : State) :
    (leaveQueue n res s).roll = s.roll := by
  have effect (u : State) : (departureEffect n res u).roll = u.roll := by
    cases res with
    | delivered => rfl
    | dropped => rfl
    | contactFailed => simp [departureEffect, alert]
    | withdrawn =>
      have none : n.pupils = [] := h.resolve_left fun h => h rfl
      unfold departureEffect
      simp only [none, List.any_nil]
      split <;> rfl
  have := congrArg State.roll (leaveQueue_exceptWalk n res s)
  exact this.trans ((effect _).trans (by simp [withoutNotice]))

/-! ### A pupil who leaves a record -/

/-- A QUEUED record without a pupil. -/
def withoutPupil (s : State) (n : Notice) (pupil : Nat) : Notice :=
  let rest := n.pupils.filter fun p => p.1 != pupil
  { n with pupils := rest, minutes := noticeMinutes s { n with pupils := rest } }

theorem withdrawnRecord_queued (s : State) (pupil : Nat) {n : Notice} (hn : n.state = .queued) :
    withdrawnRecord s pupil n
      = if (n.pupils.filter fun p => p.1 != pupil).isEmpty then none else some (withoutPupil s n pupil) := by
  rw [withdrawnRecord, if_pos hn]
  rfl

theorem leavePupil_eq (n : Notice) (pupil : Nat) (s : State) :
    leavePupil n pupil s =
      if (n.pupils.filter fun p => p.1 != pupil).isEmpty
      then leaveQueue (withoutPupil s n pupil) .withdrawn (modNotice n (fun _ => withoutPupil s n pupil) s)
      else releaseDeferred (modNotice n (fun _ => withoutPupil s n pupil) s) := rfl

theorem leavePupil_roll (n : Notice) (pupil : Nat) (s : State) : (leavePupil n pupil s).roll = s.roll := by
  rw [leavePupil_eq]
  split
  · rw [leaveQueue_roll (.inr ?_)]
    · rfl
    · exact List.isEmpty_iff.mp ‹_›
  · have := congrArg State.roll (exceptWalk_releaseDeferred (modNotice n (fun _ => withoutPupil s n pupil) s))
    exact this

/-- What of an entry the minutes late of a record are taken from. -/
def minutesView (e : RollEntry) : Nat × Nat := (e.pupil, e.day.minutesLate)

/-- The minutes of a record are those of the roll. -/
theorem noticeMinutes_of_agrees {s t : State} (sorted : tabSorted s.roll.roll)
    (h : RollAgrees minutesView s.roll.roll t.roll.roll) : noticeMinutes t = noticeMinutes s := by
  have minutes (u : State) (p : Nat) : (findPupil u p).map (fun x => x.2.day.minutesLate)
      = ((u.roll.roll.map fun x => (x.1, minutesView x.2)).find? fun x => x.2.1 == p).map fun x => x.2.2 := by
    rw [List.find?_map, Option.map_map]; rfl
  have most : mostMinutes t = mostMinutes s := by
    funext ps
    simp only [mostMinutes, minutes, h.list sorted]
  funext n
  rw [noticeMinutes, noticeMinutes, most]

theorem noticeMinutes_of_roll {s t : State} (h : t.roll.roll = s.roll.roll) : noticeMinutes t = noticeMinutes s := by
  have found : findPupil t = findPupil s := by funext p; simp only [findPupil, h]
  have most : mostMinutes t = mostMinutes s := by funext ps; simp only [mostMinutes, found]
  funext n
  rw [noticeMinutes, noticeMinutes, most]

theorem withdrawnRecord_of_minutes {s t : State} (h : noticeMinutes t = noticeMinutes s) :
    withdrawnRecord t = withdrawnRecord s := by
  funext pupil n
  simp only [withdrawnRecord, h]

/-! ### The queue, record by record -/

/-- What no two notice records share (R125). -/
def noticeKey (n : Notice) : Nat × NoticeReason × Option Session := (n.family, n.reason, n.session)

theorem replaceNotice_at {n m : Notice} {pre post : List Notice} (h : ∀ x ∈ pre, noticeKey x ≠ noticeKey n) :
    replaceNotice n m (pre ++ n :: post) = pre ++ m :: post := by
  induction pre with
  | nil => simp [replaceNotice]
  | cons x pre ih =>
    have hx : x ≠ n := fun hx => h x (by simp) (by rw [hx])
    simp [replaceNotice, hx, ih fun y hy => h y (by simp [hy])]

theorem erase_at {n : Notice} {pre post : List Notice} (h : ∀ x ∈ pre, noticeKey x ≠ noticeKey n) :
    (pre ++ n :: post).erase n = pre ++ post := by
  have absent : n ∉ pre := fun hn => h n hn rfl
  rw [List.erase_append_right _ absent, List.erase_cons_head]

/-- An operation for each record of a list in turn. -/
def eachNotice (g : Notice → State → State) : List Notice → State → State
  | [], s => s
  | n :: ns, s => eachNotice g ns (g n s)

/-- An operation makes `f` of a record that stands in the queue, with so many reports where the record leaves. -/
def Deals (f : Notice → Option Notice) (each : Nat) (n : Notice) (s t : State) : Prop :=
  (∀ pre post, s.msg.notices = pre ++ n :: post → (∀ x ∈ pre, noticeKey x ≠ noticeKey n) →
    t.msg.notices = pre ++ (f n).toList ++ post)
  ∧ t.office.reportNumber = if (f n).isNone then (s.office.reportNumber + each) % 65536 else s.office.reportNumber

/-- When each record of an orderly queue is dealt with in turn, the queue becomes the records that are left (R133). The
property `P` is what the operation needs of the state and keeps. -/
theorem eachNotice_becomes {g : Notice → State → State} {f : Notice → Option Notice} {each : Nat} {P : State → Prop}
    (key : ∀ n m, f n = some m → noticeKey m = noticeKey n) (l : List Notice)
    (deals : ∀ n ∈ l, ∀ s, P s → P (g n s) ∧ Deals f each n s (g n s)) (s : State) (hp : P s) (done : List Notice)
    (hs : s.msg.notices = done ++ l) (nodup : ((done ++ l).map noticeKey).Nodup) :
    P (eachNotice g l s) ∧ (eachNotice g l s).msg.notices = done ++ l.filterMap f
      ∧ (s.office.reportNumber ≤ 65535 → (eachNotice g l s).office.reportNumber
        = (s.office.reportNumber + each * l.countP fun n => (f n).isNone) % 65536) := by
  induction l generalizing s done with
  | nil =>
    refine ⟨hp, by simpa [eachNotice] using hs, fun h => ?_⟩
    simp only [eachNotice, List.countP_nil, Nat.mul_zero, Nat.add_zero]
    omega
  | cons n ns ih =>
    obtain ⟨hp', queue, reports⟩ := deals n (by simp) s hp
    have apart : ∀ x ∈ done, noticeKey x ≠ noticeKey n := by
      simp only [List.map_append, List.map_cons, List.nodup_append, List.mem_map] at nodup
      exact fun x hx => nodup.2.2 _ ⟨x, hx, rfl⟩ _ (by simp)
    have hs' := queue done ns hs apart
    have nodup' : ((done ++ (f n).toList ++ ns).map noticeKey).Nodup := by
      refine nodup.sublist ?_
      cases hf : f n with
      | none => simp
      | some m => simp [key n m hf]
    obtain ⟨kept, left, number⟩ := ih (fun m hm => deals m (by simp [hm])) (g n s) hp' _ hs' nodup'
    refine ⟨kept, ?_, fun h => ?_⟩
    · rw [eachNotice, left, List.filterMap_cons]
      cases f n <;> simp
    · have bound : (g n s).office.reportNumber ≤ 65535 := by rw [reports]; split <;> omega
      rw [eachNotice, number bound, reports, List.countP_cons]
      split
      · rename_i hf
        simp only [Nat.mul_add, Nat.mod_add_mod, Nat.mul_one]
        congr 1; omega
      · simp

/-- The whole queue dealt with, as the statements put it. -/
theorem eachNotice_noticesBecome {g : Notice → State → State} {f : Notice → Option Notice} {each : Nat}
    {P : State → Prop} (key : ∀ n m, f n = some m → noticeKey m = noticeKey n) (s : State)
    (deals : ∀ n ∈ s.msg.notices, ∀ s, P s → P (g n s) ∧ Deals f each n s (g n s)) (hp : P s)
    (orderly : NoticesOrderly s) (number : s.office.reportNumber ≤ 65535) :
    P (eachNotice g s.msg.notices s) ∧ noticesBecome f each s (eachNotice g s.msg.notices s) := by
  obtain ⟨kept, queue, reports⟩ := eachNotice_becomes key s.msg.notices deals s hp [] rfl orderly.1
  exact ⟨kept, queue, reports number⟩

theorem deals_self {f : Notice → Option Notice} {each : Nat} {n : Notice} (h : f n = some n) (s : State) :
    Deals f each n s s := by
  refine ⟨fun pre post hs _ => ?_, ?_⟩
  · rw [h]; simpa using hs
  · simp [h]

theorem deals_modNotice {f : Notice → Option Notice} {each : Nat} {n m : Notice} (k : Notice → Notice)
    (h : f n = some m) (hk : k n = m) (s : State) : Deals f each n s (modNotice n k s) := by
  refine ⟨fun pre post hs apart => ?_, ?_⟩
  · show replaceNotice n (k n) s.msg.notices = _
    rw [hs, replaceNotice_at apart, h, hk]; simp
  · simp [h, modNotice]

theorem deals_leavePupil {f : Notice → Option Notice} {s : State} {n : Notice} {pupil : Nat}
    (h : f n = if (n.pupils.filter fun p => p.1 != pupil).isEmpty then none else some (withoutPupil s n pupil)) :
    Deals f 1 n s (leavePupil n pupil s) := by
  have replaced : ∀ pre post, s.msg.notices = pre ++ n :: post → (∀ x ∈ pre, noticeKey x ≠ noticeKey n) →
      (modNotice n (fun _ => withoutPupil s n pupil) s).msg.notices = pre ++ withoutPupil s n pupil :: post :=
    fun pre post hs apart => by
      show replaceNotice n (withoutPupil s n pupil) s.msg.notices = _
      rw [hs, replaceNotice_at apart]
  rw [leavePupil_eq]
  split
  · rename_i he
    rw [if_pos he] at h
    refine ⟨fun pre post hs apart => ?_, ?_⟩
    · rw [leaveQueue_notices, replaced pre post hs apart, h]
      simpa using erase_at (n := withoutPupil s n pupil) apart
    · rw [leaveQueue_reportNumber, h]; rfl
  · rename_i he
    rw [if_neg he] at h
    have released := congrArg State.msg (exceptWalk_releaseDeferred (modNotice n (fun _ => withoutPupil s n pupil) s))
    have office := congrArg State.office
      (exceptWalk_releaseDeferred (modNotice n (fun _ => withoutPupil s n pupil) s))
    refine ⟨fun pre post hs apart => ?_, ?_⟩
    · refine (congrArg (·.notices) released).trans ((replaced pre post hs apart).trans ?_)
      rw [h]; simp
    · rw [h]; exact congrArg (·.reportNumber) office

/-- No offer is made while the notice window is closed (R135). -/
theorem tryOffers_closed {s : State} (h : s.msg.windowOpen = false) : tryOffers s = s := by
  unfold tryOffers
  cases s.msg.creditLimit with
  | zero => rfl
  | succ k => simp [makeOffers, offerable, h]

/-- Offers leave the roll as it was. -/
theorem tryOffers_roll (s : State) : (tryOffers s).roll = s.roll := by
  have offered (n : Notice) (s : State) : (offerNotice n s).roll = s.roll := by
    unfold offerNotice
    split
    · rfl
    · rw [handGateway_eq]; rfl
  unfold tryOffers
  generalize s.msg.creditLimit = fuel
  induction fuel generalizing s with
  | zero => rfl
  | succ k ih =>
    unfold makeOffers
    split
    · rfl
    · rw [ih, offered]

end Sys2Proof.Machine
end

section
/-! PROOFS. The requests that withdraw, re-seat or drop notices: DROP_ROLL (R23), LOAD_FAMILY (R24) and SET_MARK
(R26). -/

namespace Sys2Proof.Machine

open Sys2Proof

/-! ### Small facts -/

theorem pupil_of_found {s : State} {n slot : Nat} {e : RollEntry} (h : findPupil s n = some (slot, e)) :
    e.pupil = n := by
  simpa using List.find?_some h

theorem pupilInRange_of_le {n : Nat} (one : 1 ≤ n) (top : n ≤ 65000) : pupilInRange n = true := by
  show (n != 0 && decide (n ≤ 65000)) = true
  simp only [Bool.and_eq_true, bne_iff_ne, decide_eq_true_eq]
  omega

theorem noticesOrderly_of_msg {s t : State} (h : t.msg = s.msg) (orderly : NoticesOrderly s) : NoticesOrderly t := by
  simpa only [NoticesOrderly, inFlight, h] using orderly

theorem withdrawnRecord_key {s : State} {pupil : Nat} {n m : Notice} (h : withdrawnRecord s pupil n = some m) :
    noticeKey m = noticeKey n := by
  unfold withdrawnRecord at h
  dsimp only at h
  split at h
  · split at h <;> cases h
    rfl
  · cases h; rfl

theorem leavePupil_windowOpen (n : Notice) (pupil : Nat) (s : State) :
    (leavePupil n pupil s).msg.windowOpen = s.msg.windowOpen := by
  rw [leavePupil_eq]
  split
  · exact leaveQueue_windowOpen _ _ _
  · have := congrArg (·.msg.windowOpen)
      (exceptWalk_releaseDeferred (modNotice n (fun _ => withoutPupil s n pupil) s))
    exact this

/-- What the operations on the records of one pupil need and keep: the minutes of the roll, and the closed window. -/
def quietFor (s u : State) : Prop := noticeMinutes u = noticeMinutes s ∧ u.msg.windowOpen = false

theorem quietFor_leavePupil {s u : State} (h : quietFor s u) (n : Notice) (pupil : Nat) :
    quietFor s (leavePupil n pupil u) :=
  ⟨(noticeMinutes_of_roll (congrArg (·.roll) (leavePupil_roll n pupil u))).trans h.1,
    (leavePupil_windowOpen n pupil u).trans h.2⟩

theorem deals_withdrawnRecord {s u : State} (h : quietFor s u) {f : Notice → Option Notice} {n : Notice} {pupil : Nat}
    (hf : f n = withdrawnRecord s pupil n) (hq : n.state = .queued) : Deals f 1 n u (leavePupil n pupil u) :=
  deals_leavePupil (by rw [hf, ← withdrawnRecord_of_minutes h.1, withdrawnRecord_queued u pupil hq])

/-! ### DROP_ROLL -/

/-- What DROP_ROLL makes of a notice record (R23). -/
def droppedRecord (s : State) (pupil : Nat) (x : Notice) : Option Notice :=
  if x.state = .queued ∧ (∃ p ∈ x.pupils, p.1 = pupil) then withdrawnRecord s pupil x else some x

theorem leaveNotices_eq (pupil : Nat) (l : List Notice) (s : State) :
    leaveNotices pupil l s = eachNotice (fun n s =>
      if n.state = .queued ∧ n.pupils.any (fun p => p.1 == pupil) = true then leavePupil n pupil s else s) l s := by
  induction l generalizing s with
  | nil => rfl
  | cons n ns ih => exact ih _

theorem leaveNotices_roll (pupil : Nat) (l : List Notice) (s : State) : (leaveNotices pupil l s).roll = s.roll := by
  induction l generalizing s with
  | nil => rfl
  | cons n ns ih =>
    rw [leaveNotices, ih]
    split
    · exact leavePupil_roll n pupil s
    · rfl

/-- A pupil leaves every QUEUED record of the queue (R23). -/
theorem leaveNotices_becomes {s u : State} (h : quietFor s u) (pupil : Nat) (orderly : NoticesOrderly u)
    (number : u.office.reportNumber ≤ 65535) :
    quietFor s (leaveNotices pupil u.msg.notices u)
      ∧ noticesBecome (droppedRecord s pupil) 1 u (leaveNotices pupil u.msg.notices u) := by
  rw [leaveNotices_eq]
  refine eachNotice_noticesBecome (P := quietFor s) (fun n m hm => ?_) u (fun n _ v hv => ?_) h orderly number
  · unfold droppedRecord at hm
    split at hm
    · exact withdrawnRecord_key hm
    · cases hm; rfl
  · have listed : (n.pupils.any fun p => p.1 == pupil) = true ↔ ∃ p ∈ n.pupils, p.1 = pupil := by simp
    split
    · rename_i hl
      exact ⟨quietFor_leavePupil hv n pupil,
        deals_withdrawnRecord hv (by rw [droppedRecord, if_pos ⟨hl.1, listed.mp hl.2⟩]) hl.1⟩
    · rename_i hl
      exact ⟨hv, deals_self (by rw [droppedRecord, if_neg fun k => hl ⟨k.1, listed.mpr k.2⟩]) v⟩

/-- A dropped slot, with its entry's on-site count and notices. -/
theorem dropSlot_eq (slot : Nat) (e : RollEntry) (s : State) :
    ∃ u, u = adjustOnSite e.day.onSite .offSite s ∧
      dropSlot slot e s = (leaveNotices e.pupil u.msg.notices u).modRoll fun r =>
        { r with excuses := r.excuses.filter fun x => x.slot != slot, roll := tabErase slot r.roll } :=
  ⟨_, rfl, rfl⟩

/-- Settles O26: the pupil leaves the records one by one (`leaveNotices_becomes`), and the slot is emptied. -/
theorem dropRollEmptiesASlot : Obligations.DropRollEmptiesASlot := by
  intro h n slot e s take ordered free idle one top found
  have found' : findPupil (working s) n = some (slot, e) := found
  have hn : e.pupil = n := pupil_of_found found
  have held : (writersHeld (working s) || walkRunning (working s)) = false := (heldOff_iff s).mpr ⟨free, idle⟩
  have range : (!pupilInRange n) = false := by rw [pupilInRange_of_le one top]; rfl
  refine ⟨fun gates closed => ?_, fun refused => ?_⟩
  · obtain ⟨u, hu, drop⟩ := dropSlot_eq slot e (working s)
    have loose : (heldAtGate (working s) slot || anyFormOpen (working s)) = false := by
      rw [show anyFormOpen (working s) = false from (anyFormOpen_iff s).mpr closed, Bool.or_false]
      simp only [heldAtGate, List.any_eq_false, List.mem_range]
      intro g hg
      have := gates g hg
      have same : gateAt (working s) g = gateAt s g := rfl
      rw [same]
      cases hr : (gateAt s g).referral with
      | none => simp
      | some r => simpa using this r hr
    have hs : serve (.dropRoll n) (working s)
        = (tryOffers (dropSlot slot e (working s)), .ok, .slot slot) := by
      simp only [serve, reqDropRoll, held, range, found', loose, Bool.false_eq_true, if_false]
      rfl
    obtain ⟨t, ht, answer, left⟩ := exec_carried (h := h) take rfl hs
    have notified := leaveNotices_work u e.pupil u.msg.notices
    have offers := tryOffers_work (dropSlot slot e (working s))
    have roll : t.roll = (dropSlot slot e (working s)).roll := (roll_of_exceptReply left).trans (tryOffers_roll _)
    have uroll : u.roll = s.roll := by rw [hu, adjustOnSite_roll]; rfl
    have troll : t.roll = { s.roll with
        excuses := s.roll.excuses.filter fun x => x.slot != slot, roll := tabErase slot s.roll.roll } := by
      rw [roll, drop, modRoll_roll, leaveNotices_roll, uroll]
    have entry (m : Nat) : entryAt t m = if m = slot then none else entryAt s m := by
      rw [entryAt, troll]; exact tabFind_tabErase slot m s.roll.roll
    have gate : t.gate = u.gate := (gate_of_exceptReply left).trans <| offers.gate.trans <| by
      rw [drop]; exact notified.gate
    have usame : u.sched = s.sched ∧ u.bell = s.bell ∧ u.reg = s.reg ∧ u.msg = s.msg
        ∧ u.office.reportNumber = s.office.reportNumber ∧ sameControl s u := by
      rw [hu, adjustOnSite_eq]; exact ⟨rfl, rfl, rfl, rfl, rfl, rfl, rfl, rfl, rfl, rfl⟩
    obtain ⟨usched, ubell, ureg, umsg, unumber, ucontrol⟩ := usame
    have dropWork : (dropSlot slot e (working s)).sched = u.sched ∧ (dropSlot slot e (working s)).bell = u.bell
        ∧ (dropSlot slot e (working s)).reg = u.reg ∧ sameControl u (dropSlot slot e (working s)) := by
      rw [drop]; exact ⟨notified.sched, notified.bell, notified.reg, notified.control⟩
    obtain ⟨dsched, dbell, dreg, dcontrol⟩ := dropWork
    refine ⟨t, ht, answer, by rw [entry, if_pos rfl], fun m hm => by rw [entry, if_neg hm], by rw [troll],
      by rw [troll], ?_, ?_, ?_, ?_, ?_, fun window orderly number => ?_⟩
    · rw [gate, hu, adjustOnSite_eq]
      cases e.day.onSite <;> rfl
    · exact (sched_of_exceptReply left).trans (offers.sched.trans (dsched.trans usched))
    · exact (bell_of_exceptReply left).trans (offers.bell.trans (dbell.trans ubell))
    · exact (reg_of_exceptReply left).trans (offers.reg.trans (dreg.trans ureg))
    · exact sameControl_trans (sameControl_trans ucontrol dcontrol)
        (sameControl_trans offers.control (sameControl_of_exceptReply left))
    · have quiet : quietFor s u := ⟨noticeMinutes_of_roll (congrArg (·.roll) uroll), by rw [umsg]; exact window⟩
      obtain ⟨⟨-, shut⟩, queue, reports⟩ := leaveNotices_becomes quiet e.pupil (noticesOrderly_of_msg umsg orderly)
        (by rw [unumber]; exact number)
      have still : tryOffers (dropSlot slot e (working s)) = dropSlot slot e (working s) :=
        tryOffers_closed (by rw [drop]; exact shut)
      have tmsg : t.msg = (leaveNotices e.pupil u.msg.notices u).msg := by
        rw [msg_of_exceptReply left, still, drop]; rfl
      have tnumber : t.office.reportNumber = (leaveNotices e.pupil u.msg.notices u).office.reportNumber := by
        rw [reportNumber_of_exceptReply left, still, drop]; rfl
      rw [hn] at queue reports tmsg tnumber
      rw [umsg] at queue reports tmsg tnumber
      rw [unumber] at reports
      exact ⟨by rw [tmsg]; exact queue, by rw [tnumber]; exact reports⟩
  · have : (heldAtGate (working s) slot || anyFormOpen (working s)) = true := by
      rw [Bool.or_eq_true]; exact refused
    refine exec_refused (r := .dropRoll n) take rfl ?_
    simp only [serve, reqDropRoll, held, range, found', this, Bool.false_eq_true, if_false, if_true]

/-! ### LOAD_FAMILY -/

theorem reseatNotices_eq (family : Nat) (position : Option Nat) (l : List Notice) (s : State) :
    reseatNotices family position l s = eachNotice (fun n s =>
      if n.family = family ∧ n.state = .queued then
        match position with
        | some i => modNotice n (fun n => { n with position := i }) s
        | none => leaveQueue n .contactFailed s
      else s) l s := by
  induction l generalizing s with
  | nil => rfl
  | cons n ns ih => exact ih _

theorem reseatNotices_roll (family : Nat) (position : Option Nat) (l : List Notice) (s : State) :
    (reseatNotices family position l s).roll = s.roll := by
  induction l generalizing s with
  | nil => rfl
  | cons n ns ih =>
    refine (ih _).trans ?_
    split
    · cases position with
      | some i => rfl
      | none => exact leaveQueue_roll (.inl (by decide)) s
    · rfl

/-- What LOAD_FAMILY makes of a notice record (R24). -/
def reseatedRecord (family : Nat) (position : Option Nat) (x : Notice) : Option Notice :=
  if x.family = family then position.map fun i => { x with position := i } else some x

theorem deals_contactFailed {f : Notice → Option Notice} {n : Notice} (h : f n = none) (s : State) :
    Deals f 2 n s (leaveQueue n .contactFailed s) := by
  refine ⟨fun pre post hs apart => ?_, ?_⟩
  · rw [leaveQueue_notices, hs, erase_at apart, h]; simp
  · rw [leaveQueue_reportNumber, h]; rfl

theorem reseatNotices_becomes (family : Nat) (position : Option Nat) {s : State} (window : s.msg.windowOpen = false)
    (queued : ∀ n ∈ s.msg.notices, n.family = family → n.state = .queued) (orderly : NoticesOrderly s)
    (number : s.office.reportNumber ≤ 65535) :
    (reseatNotices family position s.msg.notices s).msg.windowOpen = false
      ∧ noticesBecome (reseatedRecord family position) 2 s (reseatNotices family position s.msg.notices s) := by
  rw [reseatNotices_eq]
  refine eachNotice_noticesBecome (P := fun u => u.msg.windowOpen = false) (fun n m hm => ?_) s
    (fun n hn u hu => ?_) window orderly number
  · unfold reseatedRecord at hm
    split at hm
    · obtain ⟨i, -, rfl⟩ := Option.map_eq_some_iff.mp hm
      rfl
    · cases hm; rfl
  · split
    · rename_i hf
      cases position with
      | some i => exact ⟨hu, deals_modNotice _ (by rw [reseatedRecord, if_pos hf.1]; rfl) rfl u⟩
      | none =>
        exact ⟨(leaveQueue_windowOpen n _ u).trans hu,
          deals_contactFailed (by rw [reseatedRecord, if_pos hf.1]; rfl) u⟩
    · rename_i hf
      have other : n.family ≠ family := fun hfam => hf ⟨hfam, queued n hn hfam⟩
      exact ⟨hu, deals_self (by rw [reseatedRecord, if_neg other]) u⟩

/-- A family entry written. -/
def withFamily (f : Nat) (x : Family) (s : State) : State :=
  s.modRoll fun u => { u with families := tabInsert f x u.families }

theorem badContacts_iff (f : Nat) (cs : List Contact) :
    badContacts f cs = false ↔ f ≤ 2047 ∧ 1 ≤ cs.length ∧ cs.length ≤ 4 ∧ ∀ c ∈ cs, c.handle ≠ 0 := by
  have some : cs.isEmpty = false ↔ 1 ≤ cs.length := by cases cs <;> simp
  simp only [badContacts, Bool.or_eq_false_iff, some, decide_eq_false_iff_not, Nat.not_lt, List.any_eq_false,
    beq_iff_eq, and_assoc, ne_eq]

/-- Settles O27: the family's records are re-seated one by one (`reseatNotices_becomes`). -/
theorem loadFamilyReplaces : Obligations.LoadFamilyReplaces := by
  intro h f held cs s take
  refine ⟨fun ⟨free, top, one, four, handles, nodup, queued⟩ => ?_, fun free top one four handles repeated => ?_⟩
  · have busy : writersHeld (working s) = false := free
    have good : badContacts f cs = false := (badContacts_iff f cs).mpr ⟨top, one, four, handles⟩
    have distinct : (!decide (cs.map (·.handle)).Nodup) = false := by simpa using nodup
    have here : ((working s).msg.notices.any fun n => n.family == f && n.state != .queued) = false := by
      simp only [List.any_eq_false, Bool.and_eq_true, beq_iff_eq, bne_iff_ne, not_and, not_not]
      exact queued
    let u := withFamily f ⟨held, cs⟩ (working s)
    let v := reseatNotices f (firstNotify cs) u.msg.notices u
    have hs : serve (.loadFamily f held cs) (working s) = (tryOffers v, .ok, .none) := by
      simp only [serve, reqLoadFamily, busy, good, distinct, here, Bool.false_eq_true, if_false]
      rfl
    obtain ⟨t, ht, answer, left⟩ := exec_carried (h := h) take (by simp [countsOk, one, four]) hs
    have seated := reseatNotices_work u f (firstNotify cs) u.msg.notices
    have offers := tryOffers_work v
    have troll : t.roll = { s.roll with families := tabInsert f ⟨held, cs⟩ s.roll.families } := by
      rw [roll_of_exceptReply left, tryOffers_roll, reseatNotices_roll]; rfl
    refine ⟨t, ht, answer, ?_, fun g hg => ?_, by rw [troll], ?_, ?_, ?_, ?_, ?_, fun window orderly number => ?_⟩
    · rw [troll]; exact (tabFind_tabInsert ..).trans (if_pos rfl)
    · rw [troll]; exact (tabFind_tabInsert ..).trans (if_neg hg)
    · exact (sched_of_exceptReply left).trans (offers.sched.trans seated.sched)
    · exact (bell_of_exceptReply left).trans (offers.bell.trans seated.bell)
    · exact (gate_of_exceptReply left).trans (offers.gate.trans seated.gate)
    · exact (reg_of_exceptReply left).trans (offers.reg.trans seated.reg)
    · exact sameControl_trans seated.control (sameControl_trans offers.control (sameControl_of_exceptReply left))
    · obtain ⟨shut, queue, reports⟩ := reseatNotices_becomes f (firstNotify cs) (s := u) window queued
        (noticesOrderly_of_msg rfl orderly) number
      have still : tryOffers v = v := tryOffers_closed shut
      exact ⟨by rw [msg_of_exceptReply left, still]; exact queue,
        by rw [reportNumber_of_exceptReply left, still]; exact reports⟩
  · have busy : writersHeld (working s) = false := free
    have good : badContacts f cs = false := (badContacts_iff f cs).mpr ⟨top, one, four, handles⟩
    have same : (!decide (cs.map (·.handle)).Nodup) = true := by simpa using repeated
    refine exec_refused (r := .loadFamily f held cs) take (by simp [countsOk, one, four]) ?_
    simp only [serve, reqLoadFamily, busy, good, same, Bool.false_eq_true, if_false, if_true]

/-! ### SET_MARK -/

theorem withdrawEach_filter (pupil : Nat) (p : Notice → Bool) (l : List Notice) (s : State) :
    withdrawEach pupil (l.filter p) s
      = eachNotice (fun n s => if p n = true then withdrawFrom n pupil s else s) l s := by
  induction l generalizing s with
  | nil => rfl
  | cons n ns ih =>
    rw [List.filter_cons, eachNotice]
    split
    · exact ih _
    · exact ih _

/-- What a withdrawal makes of a notice record (R132). -/
def withdrawnFrom (s : State) (r : DueReason) (pupil : Nat) (y : Notice) : Option Notice :=
  if lists r pupil y = true then withdrawnRecord s pupil y else some y

theorem withdrawFrom_deals {s u : State} (h : quietFor s u) {f : Notice → Option Notice} {n : Notice} {pupil : Nat}
    (hf : f n = withdrawnRecord s pupil n) :
    quietFor s (withdrawFrom n pupil u) ∧ Deals f 1 n u (withdrawFrom n pupil u) := by
  have kept (k : Notice → Notice) : quietFor s (modNotice n k u) := ⟨h.1, h.2⟩
  unfold withdrawFrom
  cases hs : n.state with
  | queued => exact ⟨quietFor_leavePupil h n pupil, deals_withdrawnRecord h hf hs⟩
  | offered =>
    rw [withdrawnRecord, if_neg (by rw [hs]; decide)] at hf
    exact ⟨kept _, deals_modNotice _ hf rfl u⟩
  | withdrawnPending =>
    rw [withdrawnRecord, if_neg (by rw [hs]; decide)] at hf
    exact ⟨kept _, deals_modNotice _ hf (by rw [← hs]) u⟩

/-- A pupil is withdrawn from every record of a reason and session (R132). -/
theorem withdraw_becomes {s u : State} (h : quietFor s u) (slot : Nat) (r : DueReason) (orderly : NoticesOrderly u)
    (number : u.office.reportNumber ≤ 65535) :
    (withdraw slot r u).msg.windowOpen = false
      ∧ noticesBecome (withdrawnFrom s r (pupilAt u slot)) 1 u (withdraw slot r u) := by
  have each := eachNotice_noticesBecome (P := quietFor s) (f := withdrawnFrom s r (pupilAt u slot)) (each := 1)
    (g := fun n s => if lists r (pupilAt u slot) n = true then withdrawFrom n (pupilAt u slot) s else s)
    (fun n m hm => ?_) u (fun n _ v hv => ?_) h orderly number
  · obtain ⟨⟨-, shut⟩, becomes⟩ := each
    unfold withdraw
    extract_lets pupil
    obtain ⟨msg, office⟩ := setDone_rest slot r false
      (withdrawEach pupil (u.msg.notices.filter (lists r pupil)) u)
    rw [noticesBecome, msg, office, withdrawEach_filter]
    exact ⟨shut, becomes⟩
  · unfold withdrawnFrom at hm
    split at hm
    · exact withdrawnRecord_key hm
    · cases hm; rfl
  · split
    · exact withdrawFrom_deals hv (if_pos ‹_›)
    · exact ⟨hv, deals_self (if_neg ‹_›) v⟩

theorem doneFlag_setDoneFlag (r : DueReason) (b : Bool) (f : NoticeFlags) : doneFlag (setDoneFlag r b f) r = b := by
  cases r <;> simp [setDoneFlag, doneFlag]

theorem doneFlag_withdraw {slot : Nat} {r : DueReason} {s : State} {e : RollEntry}
    (he : entryAt (withdraw slot r s) slot = some e) : doneFlag e.day.flags r = false := by
  unfold withdraw setDone at he
  dsimp only at he
  rw [entryAt_modEntry, if_pos rfl] at he
  obtain ⟨e', -, rfl⟩ := Option.map_eq_some_iff.mp he
  exact doneFlag_setDoneFlag r false _

/-- A mark written, with its on-site effect (R11, R12). -/
def marked (slot : Nat) (x : Session) (m : Mark) (s : State) : State :=
  if showsOnSite m.code then arriveOffSite slot (modEntry slot (withMark x m) s) else modEntry slot (withMark x m) s

theorem writeMark_eq (slot : Nat) (x : Session) (old new : Mark) (s : State) :
    writeMark slot x old new s = if new.code = old.code then marked slot x new s
      else markChanged slot x old.code new.code (marked slot x new s) := rfl

/-- Whether a mark brings an entry's pupil on site. -/
def bringsIn (m : Mark) (e : RollEntry) : Prop := showsOnSite m.code = true ∧ e.day.onSite = .offSite

theorem arriveOffSite_of_entry {slot : Nat} {s : State} {e : RollEntry} (he : entryAt s slot = some e) :
    arriveOffSite slot s = if e.day.onSite = .offSite
      then (modEntry slot (fun e => { e with day := { e.day with onSite := .onSite } }) s).modGate
        fun g => { g with onSiteCount := g.onSiteCount + 1 }
      else s := by
  simp only [arriveOffSite, he, setOnSite]
  split
  · rename_i h; rw [h]; rfl
  · rfl

/-- What a written mark and its on-site effect do: the one entry, and the on-site count. -/
theorem marked_spec {slot : Nat} {s : State} {e : RollEntry} (he : entryAt s slot = some e) (x : Session) (m : Mark) :
    (bringsIn m e → entryAt (marked slot x m s) slot
        = some { withMark x m e with day := { (withMark x m e).day with onSite := .onSite } }
      ∧ (marked slot x m s).gate = { s.gate with onSiteCount := s.gate.onSiteCount + 1 })
    ∧ (¬bringsIn m e → entryAt (marked slot x m s) slot = some (withMark x m e) ∧ (marked slot x m s).gate = s.gate)
    ∧ (∀ k, k ≠ slot → entryAt (marked slot x m s) k = entryAt s k)
    ∧ { marked slot x m s with roll := { (marked slot x m s).roll with roll := s.roll.roll }, gate := s.gate } = s := by
  have written : entryAt (modEntry slot (withMark x m) s) slot = some (withMark x m e) := by
    rw [entryAt_modEntry, if_pos rfl, he, Option.map_some]
  have others (k : Nat) (hk : k ≠ slot) (f : RollEntry → RollEntry) (u : State) :
      entryAt (modEntry slot f u) k = entryAt u k := by
    rw [entryAt_modEntry, if_neg hk]
  have rest (f : RollEntry → RollEntry) (u : State) :
      { modEntry slot f u with roll := { (modEntry slot f u).roll with roll := s.roll.roll }, gate := s.gate }
        = { u with roll := { u.roll with roll := s.roll.roll }, gate := s.gate } := by
    rw [modEntry_rest]
  unfold marked
  by_cases hshow : showsOnSite m.code = true
  · rw [if_pos hshow, arriveOffSite_of_entry written]
    by_cases hoff : e.day.onSite = .offSite
    · rw [if_pos (show (withMark x m e).day.onSite = .offSite from hoff)]
      refine ⟨fun _ => ⟨?_, by simp⟩, fun h => absurd ⟨hshow, hoff⟩ h, fun k hk => ?_, ?_⟩
      · show entryAt (modEntry slot _ (modEntry slot (withMark x m) s)) slot = _
        rw [entryAt_modEntry, if_pos rfl, written, Option.map_some]
      · show entryAt (modEntry slot _ (modEntry slot (withMark x m) s)) k = _
        rw [others k hk, others k hk]
      · exact (rest _ (modEntry slot (withMark x m) s)).trans (rest _ s)
    · rw [if_neg (show (withMark x m e).day.onSite ≠ .offSite from hoff)]
      exact ⟨fun h => absurd h.2 hoff, fun _ => ⟨written, by simp⟩, fun k hk => others k hk _ s, rest _ s⟩
  · rw [if_neg hshow]
    exact ⟨fun h => absurd h.1 hshow, fun _ => ⟨written, by simp⟩, fun k hk => others k hk _ s, rest _ s⟩

theorem showsOnSite_iff (c : MarkCode) :
    showsOnSite c = true ↔ c = .present ∨ c = .late ∨ c = .lateAfterClose := by
  cases c <;> simp [showsOnSite]

theorem walkRequest_closed {s : State} (h : s.msg.windowOpen = false) : walkRequest s = s := by
  simp [walkRequest, h]

/-- A mark that leaves ABSENT or LATE_AFTER_CLOSE withdraws the reason's notices, and with the window closed makes no
other notification (R132). -/
theorem markChanged_withdraws {slot : Nat} {x : Session} {old new : MarkCode} {s : State} {r : DueReason}
    (hr : (r = .absence x ∧ old = .absent ∧ new ≠ .absent)
      ∨ (r = .late x ∧ old = .lateAfterClose ∧ new ≠ .lateAfterClose))
    (shut : (withdraw slot r s).msg.windowOpen = false) : markChanged slot x old new s = withdraw slot r s := by
  unfold markChanged
  extract_lets t u
  have hu : u = withdraw slot r s := by
    rcases hr with ⟨rfl, rfl, hne⟩ | ⟨rfl, rfl, hne⟩
    · have ht : t = withdraw slot (.absence x) s := if_pos ⟨rfl, hne⟩
      exact (if_neg fun h => nomatch h.1).trans ht
    · have ht : t = s := if_neg fun h => nomatch h.1
      rw [← ht]; exact if_pos ⟨rfl, hne⟩
  rw [hu, walkRequest_closed shut, ite_self]

theorem markChanged_stands {slot : Nat} {x : Session} {old new : MarkCode} {s : State}
    (absent : old ≠ .absent ∨ new = .absent) (late : old ≠ .lateAfterClose ∨ new = .lateAfterClose)
    (window : s.msg.windowOpen = false) : markChanged slot x old new s = s := by
  unfold markChanged
  extract_lets t u
  have ht : t = s := if_neg (by tauto)
  have hu : u = s := (if_neg (by tauto)).trans ht
  rw [hu, walkRequest_closed window, ite_self]

theorem marked_minutes (slot : Nat) (x : Session) (m : Mark) (s : State) :
    RollAgrees minutesView s.roll.roll (marked slot x m s).roll.roll := by
  have written : RollAgrees minutesView s.roll.roll (modEntry slot (withMark x m) s).roll.roll :=
    modEntry_agrees slot (by exact fun _ => rfl) s
  unfold marked
  split
  · exact written.trans ((arriveOffSite_agrees slot _).coarser minutesView fun _ => rfl)
  · exact written

/-- The entry of a written mark, arrived or not. -/
theorem marked_entry {slot : Nat} {s : State} {e : RollEntry} (he : entryAt s slot = some e) (x : Session) (m : Mark) :
    ∃ e', entryAt (marked slot x m s) slot = some e' ∧ e'.pupil = e.pupil ∧ e'.day.marks = e.day.marks.set x m
      ∧ e'.term = e.term ∧ e'.day.flags = e.day.flags
      ∧ (bringsIn m e → e'.day.onSite = .onSite
        ∧ (marked slot x m s).gate = { s.gate with onSiteCount := s.gate.onSiteCount + 1 })
      ∧ (¬bringsIn m e → e'.day.onSite = e.day.onSite ∧ (marked slot x m s).gate = s.gate) := by
  obtain ⟨arrived, stays, -⟩ := marked_spec he x m
  by_cases hb : bringsIn m e
  · obtain ⟨entry, gate⟩ := arrived hb
    exact ⟨_, entry, rfl, rfl, rfl, rfl, fun _ => ⟨rfl, gate⟩, fun h => absurd hb h⟩
  · obtain ⟨entry, gate⟩ := stays hb
    exact ⟨_, entry, rfl, rfl, rfl, rfl, fun h => absurd h hb, fun _ => ⟨rfl, gate⟩⟩

/-- What a change of a mark's code notifies, if it is a change. -/
def markNotified (slot : Nat) (x : Session) (old new : MarkCode) (s : State) : State :=
  if new = old then s else markChanged slot x old new s

theorem markNotified_work (slot : Nat) (x : Session) (old new : MarkCode) (s : State) :
    NoticeWork undone s (markNotified slot x old new s) := by
  unfold markNotified
  split
  · exact .refl _ s
  · exact markChanged_work s slot x old new

theorem setMark_eq {slot : Nat} {x : Session} {code : MarkCode} {s : State} {e : RollEntry}
    (he : entryAt s slot = some e) :
    requestMark slot x (.officeSet code) s
      = markNotified slot x (e.day.marks.get x).code code (marked slot x ⟨code, some .office⟩ s) := by
  rw [requestMark_some he rfl, writeMark_eq]
  rfl

/-- The parts of an entry that another pupil's SET_MARK may not touch. -/
def markView (e : RollEntry) : Nat × AmPm Mark × OnSite × TermRecord := (e.pupil, e.day.marks, e.day.onSite, e.term)

/-- Settles O28: the mark is written (`marked_entry`), and what is then notified is a withdrawal (`withdraw_becomes`)
or, with the window closed, nothing (`markChanged_stands`). -/
theorem setMarkWrites : Obligations.SetMarkWrites := by
  intro h n slot x code e s take ordered free one top found old arrives
  have he : entryAt (working s) slot = some e := entryAt_of_find ordered.1 found
  have hn : e.pupil = n := pupil_of_found found
  have found' : findPupil (working s) n = some (slot, e) := found
  have busy : writersHeld (working s) = false := free
  have range : (!pupilInRange n) = false := by rw [pupilInRange_of_le one top]; rfl
  have isOpen : formOpen (working s) x = true ↔ formState s x = .opened := beq_iff_eq
  refine ⟨fun settable => ?_, fun opened unneeded => ?_⟩
  · have passes : ¬((old = .notRequired ∨ code = .notRequired) ∧ formOpen (working s) x = true) := by
      rw [isOpen]; tauto
    let m := marked slot x ⟨code, some .office⟩ (working s)
    let u := markNotified slot x old code m
    have hs : serve (.setMark n x code) (working s) = (tryOffers u, .ok, .markChange old code) := by
      simp only [serve, reqSetMark, busy, range, found', Bool.false_eq_true, if_false, served, setMark_eq he]
      exact if_neg passes
    obtain ⟨t, ht, answer, left⟩ := exec_carried (h := h) take rfl hs
    obtain ⟨-, -, others, mrest⟩ := marked_spec he x ⟨code, some .office⟩
    obtain ⟨e₂, entry₂, pupil₂, marks₂, term₂, flags₂, arrived, stays⟩ := marked_entry he x ⟨code, some .office⟩
    have notified : NoticeWork undone m u := markNotified_work slot x old code m
    have offers := tryOffers_work u
    have roll : t.roll = u.roll := (roll_of_exceptReply left).trans (tryOffers_roll u)
    have entry (k : Nat) : entryAt t k = entryAt u k := by rw [entryAt, entryAt, roll]
    obtain ⟨e', entry', same⟩ := notified.roll.lookup entry₂
    have gate : t.gate = m.gate := (gate_of_exceptReply left).trans (offers.gate.trans notified.gate)
    have brings : bringsIn ⟨code, some .office⟩ e ↔ arrives := and_congr (showsOnSite_iff code) Iff.rfl
    have site : e'.day.onSite = e₂.day.onSite := congrArg (·.day.onSite) same
    have excuses : u.roll.excuses = m.roll.excuses := congrArg (·.excuses) notified.rollRest
    have families : u.roll.families = m.roll.families := congrArg (·.families) notified.rollRest
    have pupil : pupilAt m slot = n := by
      rw [pupilAt, show entryAt m slot = some e₂ from entry₂]; exact pupil₂.trans hn
    have mmsg : m.msg = s.msg := congrArg (·.msg) mrest
    have mnumber : m.office.reportNumber = s.office.reportNumber := congrArg (·.office.reportNumber) mrest
    have closed (shut : u.msg.windowOpen = false) :
        t.msg = u.msg ∧ t.office.reportNumber = u.office.reportNumber := by
      rw [msg_of_exceptReply left, reportNumber_of_exceptReply left, tryOffers_closed shut]
      exact ⟨rfl, rfl⟩
    refine ⟨t, e', ht, answer, (entry slot).trans entry', ?_, ?_, fun ha => ?_, fun ha => ?_, fun k hk => ?_, ?_, ?_,
      ?_, ?_, ?_, ?_, fun r hr window orderly number => ?_, fun absent late window => ?_⟩
    · exact (congrArg (·.day.marks) same).trans marks₂
    · exact (congrArg (·.term) same).trans term₂
    · obtain ⟨onSite, mgate⟩ := arrived (brings.mpr ha)
      exact ⟨site.trans onSite, gate.trans mgate⟩
    · obtain ⟨onSite, mgate⟩ := stays fun hb => ha (brings.mp hb)
      exact ⟨site.trans onSite, gate.trans mgate⟩
    · have kept : (entryAt u k).map markView = (entryAt m k).map markView :=
        (notified.roll.coarser markView fun _ => rfl).find k
      rw [entry]
      exact kept.trans (congrArg (Option.map markView) (others k hk))
    · rw [roll, excuses]; exact congrArg (·.roll.excuses) mrest
    · rw [roll, families]; exact congrArg (·.roll.families) mrest
    · exact (sched_of_exceptReply left).trans
        (offers.sched.trans (notified.sched.trans (congrArg (·.sched) mrest)))
    · exact (bell_of_exceptReply left).trans (offers.bell.trans (notified.bell.trans (congrArg (·.bell) mrest)))
    · exact (reg_of_exceptReply left).trans (offers.reg.trans (notified.reg.trans (congrArg (·.reg) mrest)))
    · have office := congrArg (·.office) mrest
      have mcontrol : sameControl s m := sameControl_of_quiet (s := working s) (congrArg quietOffice office)
      exact sameControl_trans (sameControl_trans mcontrol notified.control)
        (sameControl_trans offers.control (sameControl_of_exceptReply left))
    · have quiet : quietFor s m :=
        ⟨noticeMinutes_of_agrees ordered.1 (marked_minutes slot x _ (working s)), by rw [mmsg]; exact window⟩
      obtain ⟨shut, becomes⟩ := withdraw_becomes quiet slot r (noticesOrderly_of_msg mmsg orderly)
        (by rw [mnumber]; exact number)
      have hu : u = withdraw slot r m := by
        have changed : code ≠ old := by
          rcases hr with ⟨-, ho, hc⟩ | ⟨-, ho, hc⟩ <;> rw [ho] <;> exact hc
        exact (if_neg changed).trans (markChanged_withdraws hr shut)
      obtain ⟨tmsg, tnumber⟩ := closed (by rw [hu]; exact shut)
      refine ⟨doneFlag_withdraw (by rw [← hu]; exact entry'), ?_⟩
      rw [noticesBecome, tmsg, tnumber, hu]
      rw [noticesBecome, pupil, mmsg, mnumber] at becomes
      exact becomes
    · have mwindow : m.msg.windowOpen = false := by rw [mmsg]; exact window
      have hu : u = m := by
        show markNotified slot x old code m = m
        unfold markNotified
        split
        · rfl
        · exact markChanged_stands absent late mwindow
      obtain ⟨tmsg, tnumber⟩ := closed (by rw [hu]; exact mwindow)
      have standing : some e' = some e₂ := by rw [← entry₂, ← entry', hu]; rfl
      exact ⟨by rw [tmsg, hu, mmsg], by rw [tnumber, hu, mnumber], by rw [Option.some.inj standing]; exact flags₂⟩
  · refine exec_refused (r := .setMark n x code) take rfl ?_
    have refused : (old = .notRequired ∨ code = .notRequired) ∧ formOpen (working s) x = true :=
      ⟨unneeded, isOpen.mpr opened⟩
    simp only [serve, reqSetMark, busy, range, found', Bool.false_eq_true, if_false]
    exact if_pos refused

end Sys2Proof.Machine
end

section
/-! PROOFS. What the settlement of one slot leaves there: the settled entry, item by item (R16 to R19, R123). -/

namespace Sys2Proof.Machine

open Sys2Proof

/-! ### Entries an operation does not touch -/

/-- Every entry with a property stays exactly as it is. -/
def Keeps (p : RollEntry → Prop) (s t : State) : Prop := ∀ n e, entryAt s n = some e → p e → entryAt t n = some e

section

variable {p : RollEntry → Prop} {s t u : State}

theorem Keeps.refl (p : RollEntry → Prop) (s : State) : Keeps p s s := fun _ _ h _ => h

theorem Keeps.trans (h : Keeps p s t) (k : Keeps p t u) : Keeps p s u := fun n e he hp => k n e (h n e he hp) hp

theorem Keeps.of_roll (h : t.roll = s.roll) : Keeps p s t := fun n e he _ => by rw [entryAt, h]; exact he

theorem keeps_modEntry {slot : Nat} {f : RollEntry → RollEntry} (hf : ∀ e, p e → f e = e) (s : State) :
    Keeps p s (modEntry slot f s) := fun n e he hp => by
  rw [entryAt_modEntry]
  split
  · subst_vars; rw [he, Option.map_some, hf e hp]
  · exact he

end

/-! ### Done flags fall only

An entry without notice flags keeps clear of them while its pupil is withdrawn from notices (R132). -/

/-- Whether an entry has no notice flag. -/
def unflagged (e : RollEntry) : Prop := e.day.flags = clearedFlags

theorem walkRequest_roll (s : State) : (walkRequest s).roll = s.roll :=
  (congrArg State.roll (exceptWalk_walkRequest s) : (exceptWalk (walkRequest s)).roll = _)

theorem keeps_setDone (slot : Nat) (r : DueReason) (s : State) : Keeps unflagged s (setDone slot r false s) := by
  refine keeps_modEntry (fun e he => ?_) s
  have clear : setDoneFlag r false clearedFlags = clearedFlags := by
    cases r with
    | absence x => cases x <;> rfl
    | late x => cases x <;> rfl
    | internal => rfl
    | concern => rfl
  rw [show e.day.flags = clearedFlags from he, clear, ← show e.day.flags = clearedFlags from he]

theorem keeps_withdrawFrom (n : Notice) (pupil : Nat) (s : State) : Keeps unflagged s (withdrawFrom n pupil s) := by
  unfold withdrawFrom
  split
  · exact .of_roll (leavePupil_roll n pupil s)
  · exact .of_roll rfl
  · exact .of_roll rfl

theorem keeps_withdraw (slot : Nat) (r : DueReason) (s : State) : Keeps unflagged s (withdraw slot r s) := by
  have each (pupil : Nat) (l : List Notice) (s : State) : Keeps unflagged s (withdrawEach pupil l s) := by
    induction l generalizing s with
    | nil => exact .refl _ s
    | cons n ns ih => exact (keeps_withdrawFrom n pupil s).trans (ih _)
  exact (each _ _ s).trans (keeps_setDone slot r _)

theorem keeps_markChanged (slot : Nat) (x : Session) (old new : MarkCode) (s : State) :
    Keeps unflagged s (markChanged slot x old new s) := by
  have either (c : Prop) [Decidable c] (r : DueReason) (s : State) :
      Keeps unflagged s (if c then withdraw slot r s else s) := by
    split
    · exact keeps_withdraw slot r s
    · exact .refl _ s
  unfold markChanged
  extract_lets t u
  have withdrawn : Keeps unflagged s u := (either _ _ s).trans (either _ _ t)
  split
  · exact withdrawn.trans (.of_roll (walkRequest_roll u))
  · exact withdrawn

theorem keeps_notifyCleared (slot : Nat) (x : Session) (old : MarkCode) (s : State) :
    Keeps unflagged s (notifyCleared slot x old s) := by
  unfold notifyCleared
  split
  · exact .refl _ s
  · exact keeps_markChanged slot x old _ s

/-! ### One entry changed and nothing else -/

/-- The entry of one slot becomes another, and the rest of the state stands. -/
structure OnlyEntry (slot : Nat) (e : RollEntry) (s t : State) : Prop where
  entry : entryAt t slot = some e
  others : ∀ n, n ≠ slot → entryAt t n = entryAt s n
  rest : { t with roll := { t.roll with roll := s.roll.roll } } = s

section

variable {slot : Nat} {e : RollEntry} {s t : State}

theorem OnlyEntry.sched (h : OnlyEntry slot e s t) : t.sched = s.sched := congrArg (·.sched) h.rest

theorem OnlyEntry.bell (h : OnlyEntry slot e s t) : t.bell = s.bell := congrArg (·.bell) h.rest

theorem OnlyEntry.gate (h : OnlyEntry slot e s t) : t.gate = s.gate := congrArg (·.gate) h.rest

theorem OnlyEntry.reg (h : OnlyEntry slot e s t) : t.reg = s.reg := congrArg (·.reg) h.rest

theorem OnlyEntry.office (h : OnlyEntry slot e s t) : t.office = s.office := congrArg (·.office) h.rest

theorem OnlyEntry.rollRest (h : OnlyEntry slot e s t) : { t.roll with roll := s.roll.roll } = s.roll :=
  congrArg (·.roll) h.rest

end

theorem OnlyEntry.trans {slot : Nat} {e e' : RollEntry} {s t u : State} (h : OnlyEntry slot e s t)
    (k : OnlyEntry slot e' t u) : OnlyEntry slot e' s u where
  entry := k.entry
  others n hn := (k.others n hn).trans (h.others n hn)
  rest := by
    have := congrArg (fun v : State => { v with roll := { v.roll with roll := s.roll.roll } }) k.rest
    exact this.trans h.rest

theorem modEntry_onlyEntry {slot : Nat} {e : RollEntry} {s : State} (he : entryAt s slot = some e)
    (f : RollEntry → RollEntry) : OnlyEntry slot (f e) s (modEntry slot f s) where
  entry := by rw [entryAt_modEntry, if_pos rfl, he, Option.map_some]
  others n hn := by rw [entryAt_modEntry, if_neg hn]
  rest := by rw [modEntry_rest]

theorem OnlyEntry.self {slot : Nat} {e : RollEntry} {s : State} (he : entryAt s slot = some e) :
    OnlyEntry slot e s s := ⟨he, fun _ _ => rfl, rfl⟩

theorem sameControl_of_office {s t : State} (h : t.office = s.office) : sameControl s t :=
  sameControl_of_quiet (congrArg quietOffice h)

/-! ### The excuses of the new day (R123) -/

/-- A mark of a new day: EXCUSED where an excuse covers the session, and otherwise cleared. -/
def newMark (covered : Bool) : Mark := if covered then ⟨.excused, some .excuse⟩ else clearedMark

/-- An entry whose marks are those of a new day. -/
def withCover (c : Session → Bool) (e : RollEntry) : RollEntry :=
  { e with day := { e.day with marks := ⟨newMark (c .am), newMark (c .pm)⟩ } }

theorem withCover_get (c : Session → Bool) (e : RollEntry) (x : Session) :
    (withCover c e).day.marks.get x = newMark (c x) := by
  cases x <;> rfl

/-- An EXCUSE request on a mark of a new day excuses the session, and does nothing else. -/
theorem requestExcuse_newMark {slot : Nat} {s : State} {e : RollEntry} {c : Session → Bool}
    (he : entryAt s slot = some (withCover c e)) (x : Session) :
    OnlyEntry slot (withCover (fun y => c y || y == x) e) s (requestMark slot x .excuse s) := by
  have code : mergeCode .excuse ((withCover c e).day.marks.get x) = some .excused := by
    rw [withCover_get]; cases c x <;> rfl
  have quiet (old : MarkCode) (ho : old = .untaken ∨ old = .excused) (u : State) :
      markNotified slot x old .excused u = u := by
    rcases ho with rfl | rfl <;> rfl
  have fresh : ((withCover c e).day.marks.get x).code = .untaken
      ∨ ((withCover c e).day.marks.get x).code = .excused := by
    rw [withCover_get]; cases c x <;> simp [newMark, clearedMark]
  have written : requestMark slot x .excuse s = modEntry slot (withMark x ⟨.excused, some .excuse⟩) s := by
    rw [requestMark_some he code, writeMark_eq]
    exact quiet _ fresh _
  have excused : withMark x ⟨.excused, some .excuse⟩ (withCover c e) = withCover (fun y => c y || y == x) e := by
    cases x <;> simp [withMark, withCover, newMark, AmPm.set]
  rw [written, ← excused]
  exact modEntry_onlyEntry he _

theorem requestExcuses_newMark {slot : Nat} {e : RollEntry} (xs : List Session) {s : State} {c : Session → Bool}
    (he : entryAt s slot = some (withCover c e)) :
    OnlyEntry slot (withCover (fun y => c y || xs.contains y) e) s (requestExcuses slot xs s) := by
  induction xs generalizing s c with
  | nil =>
    simp only [List.contains_nil, Bool.or_false]
    exact OnlyEntry.self he
  | cons x xs ih =>
    have first := requestExcuse_newMark he x
    have rest := ih first.entry
    simp only [Bool.or_assoc] at rest
    simpa only [requestExcuses, List.contains_cons] using first.trans rest

theorem sessionsOf_contains (m : Sessions) (x : Session) : (sessionsOf m).contains x = hasSession m x := by
  cases m <;> cases x <;> rfl

/-- Whether an excuse of a list covers a day and session of a slot's pupil. -/
def covered (slot day : Nat) (l : List Excuse) (x : Session) : Bool :=
  l.any fun y => y.slot == slot && excuseCovers y day x

theorem settleRequests_newMark {slot day : Nat} {e : RollEntry} (l : List Excuse) {s : State} {c : Session → Bool}
    (he : entryAt s slot = some (withCover c e)) :
    OnlyEntry slot (withCover (fun x => c x || covered slot day l x) e) s (settleRequests slot day l s) := by
  induction l generalizing s c with
  | nil => simpa [covered, settleRequests] using OnlyEntry.self he
  | cons y ys ih =>
    rw [settleRequests]
    split
    · rename_i meets
      obtain ⟨slots, from', to'⟩ := meets
      have first := requestExcuses_newMark (sessionsOf y.sessions) he
      simp only [sessionsOf_contains] at first
      have rest := ih first.entry
      simpa [covered, excuseCovers, slots, from', to', Bool.or_assoc] using first.trans rest
    · rename_i misses
      have none (x : Session) : (y.slot == slot && excuseCovers y day x) = false := by
        simp only [excuseCovers, Bool.and_eq_false_iff, beq_eq_false_iff_ne, decide_eq_false_iff_not]
        tauto
      simpa [covered, none] using ih he

/-- The excuses that are left after a settlement: a slot's expired ones leave. -/
def unexpired (slot day : Nat) (l : List Excuse) : List Excuse := l.filter fun y => !(y.slot == slot && y.last < day)

/-- An expired excuse covers nothing. -/
theorem covered_unexpired (slot day : Nat) (l : List Excuse) :
    covered slot day (unexpired slot day l) = covered slot day l := by
  funext x
  simp only [covered, unexpired, List.any_filter]
  congr 1
  funext y
  by_cases hy : y.last < day
  · have : (excuseCovers y day x) = false := by simp [excuseCovers]; omega
    simp [this]
  · simp [hy]

/-- The excuses of a slot whose day is cleared: expired ones leave, and the rest make the new day's marks. -/
theorem settleExcuses_cleared {slot day : Nat} {s : State} {e : RollEntry} (he : entryAt s slot = some e)
    (clear : e.day.marks = ⟨clearedMark, clearedMark⟩) :
    OnlyEntry slot (withCover (covered slot day s.roll.excuses) e)
      (setExcuses (unexpired slot day s.roll.excuses) s) (settleExcuses slot day s) := by
  have cleared : withCover (fun _ => false) e = e := by
    simp only [withCover, newMark, Bool.false_eq_true, if_false, ← clear]
  have h := settleRequests_newMark (day := day) (unexpired slot day s.roll.excuses)
    (s := setExcuses (unexpired slot day s.roll.excuses) s) (c := fun _ => false) (e := e)
    (by rw [cleared]; exact he)
  simp only [covered_unexpired, Bool.false_or] at h
  exact h

/-! ### The settled slot -/

/-- The entry a settlement leaves (R16 to R19, R123). -/
def settledInto (s : State) (slot day : Nat) (e : RollEntry) : RollEntry :=
  { settledEntry s.office.params e with
    recordDay := day
    day := { clearedDay with
      marks := ⟨newMark (covered slot day s.roll.excuses .am), newMark (covered slot day s.roll.excuses .pm)⟩
      flags := { clearedFlags with dueConcern := concernRaised s.office.params (settledCounts e) } } }

/-- What the settlement of a slot leaves of the state. -/
structure SlotSettled (s : State) (slot day : Nat) (e : RollEntry) (t : State) : Prop where
  entry : entryAt t slot = some (settledInto s slot day e)
  others : otherPupilsStand slot s t
  roll : { t.roll with roll := s.roll.roll } = { s.roll with excuses := unexpired slot day s.roll.excuses }
  gate : t.gate = { s.gate with onSiteCount := s.gate.onSiteCount - if e.day.onSite = .onSite then 1 else 0 }
  sched : t.sched = s.sched
  bell : t.bell = s.bell
  reg : t.reg = s.reg
  control : sameControl s t

/-- The due flag of concern, newly set. -/
def withConcernDue (b : Bool) (e : RollEntry) : RollEntry :=
  { e with day := { e.day with flags := { e.day.flags with dueConcern := b } } }

/-- Concern raised for an entry without notice flags. -/
theorem setDue_concern {slot : Nat} {e : RollEntry} {s : State} (he : entryAt s slot = some e) (clear : unflagged e)
    (raised : Bool) :
    let t := if raised then setDue slot .concern s else s
    entryAt t slot = some (withConcernDue raised e) ∧ (∀ n, n ≠ slot → entryAt t n = entryAt s n)
      ∧ { t.roll with roll := s.roll.roll } = s.roll := by
  cases raised with
  | false =>
    have same : withConcernDue false e = e := by
      rw [withConcernDue, show e.day.flags = clearedFlags from clear,
        show { clearedFlags with dueConcern := false } = clearedFlags from rfl,
        ← show e.day.flags = clearedFlags from clear]
    exact ⟨by rw [same]; exact he, fun _ _ => rfl, rfl⟩
  | true =>
    have unset : storedDue e.day.flags .concern = false := by rw [show e.day.flags = clearedFlags from clear]; rfl
    have roll : (setDue slot .concern s).roll = (modEntry slot (withConcernDue true) s).roll := by
      simp only [setDue, he, unset, Bool.false_eq_true, if_false, walkRequest_roll]
      rfl
    have only := modEntry_onlyEntry he (withConcernDue true)
    have entry (n : Nat) : entryAt (setDue slot .concern s) n = entryAt (modEntry slot (withConcernDue true) s) n := by
      rw [entryAt, entryAt, roll]
    refine ⟨(entry slot).trans only.entry, fun n hn => (entry n).trans (only.others n hn), ?_⟩
    rw [if_pos rfl, roll]
    exact congrArg State.roll only.rest

theorem settleEntry_settles {s : State} {slot day : Nat} {e : RollEntry} (he : entryAt s slot = some e) :
    SlotSettled s slot day e (settleEntry slot day e s) := by
  unfold settleEntry
  extract_lets raised s1 s2 s3 s4 s5
  have cleared := modEntry_onlyEntry he (settledEntry s.office.params)
  have notified : NoticeWork undone s1 s2 := (notifyCleared_work s1 slot .am _).trans (notifyCleared_work _ slot .pm _)
  have kept : entryAt s2 slot = some (settledEntry s.office.params e) :=
    ((keeps_notifyCleared slot .am _ s1).trans (keeps_notifyCleared slot .pm _ _)) slot _ cleared.entry rfl
  have roll3 : s3.roll = s2.roll := adjustOnSite_roll _ _ s2
  have kept3 : entryAt s3 slot = some (settledEntry s.office.params e) := by rw [entryAt, roll3]; exact kept
  obtain ⟨entry4, others4, rest4⟩ := setDue_concern kept3 rfl raised
  change entryAt s4 slot = _ at entry4
  change ∀ n, n ≠ slot → entryAt s4 n = entryAt s3 n at others4
  have due : NoticeWork flagless s3 s4 := by
    unfold s4
    split
    · exact setDue_work s3 slot _
    · exact .refl _ s3
  have excused := settleExcuses_cleared (day := day) entry4 rfl
  have dated := modEntry_onlyEntry excused.entry fun e => { e with recordDay := day }
  have whole := excused.trans dated
  have roll4 : { s4.roll with roll := s.roll.roll } = s.roll := by
    have h4 := congrArg (fun u : RollStore => { u with roll := s.roll.roll }) rest4
    have h2 := congrArg (fun u : RollStore => { u with roll := s.roll.roll }) notified.rollRest
    refine h4.trans ?_
    rw [roll3]
    exact h2.trans (congrArg State.roll cleared.rest)
  have sched3 : s3.sched = s2.sched ∧ s3.bell = s2.bell ∧ s3.reg = s2.reg ∧ sameControl s2 s3 := by
    have adjusted : s3 = adjustOnSite e.day.onSite .offSite s2 := rfl
    rw [adjusted, adjustOnSite_eq]
    exact ⟨rfl, rfl, rfl, rfl, rfl, rfl, rfl, rfl⟩
  obtain ⟨sched, bell, reg, control⟩ := sched3
  have excuses : s4.roll.excuses = s.roll.excuses := congrArg (·.excuses) roll4
  have gate3 : s3.gate
      = { s.gate with onSiteCount := s.gate.onSiteCount - if e.day.onSite = .onSite then 1 else 0 } := by
    have gate2 : s2.gate = s.gate := notified.gate.trans cleared.gate
    have adjusted : s3 = adjustOnSite e.day.onSite .offSite s2 := rfl
    rw [adjusted, adjustOnSite_eq, ← gate2]
    cases e.day.onSite <;> rfl
  rw [excuses] at whole
  refine ⟨whole.entry, fun n hn => ?_, ?_, ?_, ?_, ?_, ?_, ?_⟩
  · have marks : (entryAt s2 n).map markView = (entryAt s1 n).map markView :=
      (notified.roll.coarser markView fun _ => rfl).find n
    have same : entryAt s3 n = entryAt s2 n := by rw [entryAt, roll3]; rfl
    have last : entryAt s4 n = entryAt s2 n := (others4 n hn).trans same
    refine (congrArg (Option.map markView) ((whole.others n hn).trans last)).trans (marks.trans ?_)
    exact congrArg (Option.map markView) (cleared.others n hn)
  · have final := congrArg (fun u : RollStore => { u with roll := s.roll.roll }) whole.rollRest
    refine final.trans ?_
    exact congrArg (fun u : RollStore => { u with excuses := unexpired slot day s.roll.excuses }) roll4
  · exact whole.gate.trans (due.gate.trans gate3)
  · exact whole.sched.trans (due.sched.trans (sched.trans (notified.sched.trans cleared.sched)))
  · exact whole.bell.trans (due.bell.trans (bell.trans (notified.bell.trans cleared.bell)))
  · exact whole.reg.trans (due.reg.trans (reg.trans (notified.reg.trans cleared.reg)))
  · have first : sameControl s s1 := sameControl_of_office cleared.office
    have last := sameControl_of_office whole.office
    exact sameControl_trans (sameControl_trans first notified.control)
      (sameControl_trans control (sameControl_trans due.control last))

end Sys2Proof.Machine
end

section
/-! PROOFS. What an event's side effect leaves as it was (Table 2 of Chapter 2), what a silent run leaves (R34), and
SETTLE_SLOT (R15 to R19, R40, R173). -/

namespace Sys2Proof.Machine

open Sys2Proof

/-! ### The side effect of an event -/

/-- What an event's side effect leaves as it was, the roll's entries apart. -/
def exceptEvent (s : State) : State :=
  { exceptReports s with
    roll := { s.roll with roll := [] }, reg := State.reset.reg, msg := State.reset.msg,
    gate := { s.gate with gates := [] } }

/-- An entry without its register-marked states. -/
def unregistered (e : RollEntry) : RollEntry := { e with day := { e.day with registerMarked := ⟨false, false⟩ } }

/-- Whether an entry has no register-marked state. -/
def unmarked (e : RollEntry) : Prop := e.day.registerMarked = ⟨false, false⟩

/-- A change that events make: windows, walks, gates, notices and reports, and of the roll no more than register-marked
states cleared. -/
structure EventWork (s t : State) : Prop where
  rest : exceptEvent t = exceptEvent s
  roll : RollAgrees unregistered s.roll.roll t.roll.roll
  kept : Keeps unmarked s t

section

variable {s t u : State}

theorem EventWork.refl (s : State) : EventWork s s := ⟨rfl, .refl _ _, .refl _ s⟩

theorem EventWork.trans (h : EventWork s t) (k : EventWork t u) : EventWork s u :=
  ⟨k.rest.trans h.rest, h.roll.trans k.roll, h.kept.trans k.kept⟩

theorem EventWork.of_roll (h : exceptEvent t = exceptEvent s) (hr : t.roll = s.roll) : EventWork s t :=
  ⟨h, hr ▸ .refl _ _, .of_roll hr⟩

theorem EventWork.of_register (h : exceptRegister t = exceptRegister s) : EventWork s t :=
  .of_roll (show exceptEvent (exceptRegister t) = exceptEvent (exceptRegister s) from congrArg exceptEvent h)
    (congrArg (·.roll) h)

theorem EventWork.of_walk (h : exceptWalk t = exceptWalk s) : EventWork s t :=
  .of_roll (show exceptEvent (exceptWalk t) = exceptEvent (exceptWalk s) from congrArg exceptEvent h)
    (congrArg (·.roll) h)

theorem EventWork.sched (h : EventWork s t) : t.sched = s.sched := congrArg (·.sched) h.rest

theorem EventWork.bell (h : EventWork s t) : t.bell = s.bell := congrArg (·.bell) h.rest

theorem EventWork.segments (h : EventWork s t) : t.line.segments = s.line.segments :=
  congrArg (·.line.segments) h.rest

theorem EventWork.gateRest (h : EventWork s t) : { t.gate with gates := s.gate.gates } = s.gate :=
  congrArg (fun x : State => { x.gate with gates := s.gate.gates }) h.rest

theorem EventWork.rollRest (h : EventWork s t) : { t.roll with roll := s.roll.roll } = s.roll :=
  congrArg (fun x : State => { x.roll with roll := s.roll.roll }) h.rest

theorem EventWork.control (h : EventWork s t) : sameControl s t := sameControl_of_quiet (congrArg (·.office) h.rest)

end

variable (s : State)

theorem clearRegistered_unregistered (x : Session) (e : RollEntry) :
    unregistered (clearRegistered x e) = unregistered e := by
  unfold clearRegistered; split <;> rfl

theorem clearRegistered_unmarked (x : Session) {e : RollEntry} (h : unmarked e) : clearRegistered x e = e := by
  unfold clearRegistered
  split
  · have clear : e.day.registerMarked.set x false = e.day.registerMarked := by
      rw [show e.day.registerMarked = ⟨false, false⟩ from h]; cases x <;> rfl
    rw [clear]
  · rfl

theorem openSession_work (x : Session) : EventWork s (openSession x s) := by
  unfold openSession
  split
  · refine ⟨rfl, .map fun e => clearRegistered_unregistered x e, fun n e he hp => ?_⟩
    have found := (tabFind_map (clearRegistered x) n).trans (congrArg (Option.map (clearRegistered x)) he)
    rwa [Option.map_some, clearRegistered_unmarked x hp] at found
  · exact .refl s
  · exact .refl s

/-- A change of gate modes writes gate records only. -/
theorem setModes_rest (mask : GateMask) (mode : GateMode) (l : List Nat) :
    { setModes mask mode l s with gate := { (setModes mask mode l s).gate with gates := s.gate.gates } } = s := by
  induction l generalizing s with
  | nil => rfl
  | cons g gs ih =>
    have head (u : State) (b : Bool) : { (if b then setGateMode g mode u else u) with
        gate := { (if b then setGateMode g mode u else u).gate with gates := u.gate.gates } } = u := by
      unfold setGateMode
      cases b
      · rfl
      · simp only [if_true]; split <;> rfl
    have tail := congrArg (fun u : State => { u with gate := { u.gate with gates := s.gate.gates } })
      (ih (if inGates mask g then setGateMode g mode s else s))
    exact tail.trans (head s _)

theorem applyGateMode_work (mask : GateMask) (mode : GateMode) : EventWork s (applyGateMode mask mode s) := by
  have rest := setModes_rest s mask mode (List.range 8)
  exact .of_roll (show exceptEvent { applyGateMode mask mode s with
    gate := { (applyGateMode mask mode s).gate with gates := s.gate.gates } } = _ from congrArg exceptEvent rest)
    (congrArg (·.roll) rest)

theorem openNoticeWindow_eventWork : EventWork s (openNoticeWindow s) :=
  (EventWork.of_roll rfl rfl : EventWork s (s.modMsg _)).trans (.of_walk (exceptWalk_walkRequest _))

theorem closeNoticeWindow_eventWork : EventWork s (closeNoticeWindow s) := by
  unfold closeNoticeWindow
  split
  · exact .of_roll rfl rfl
  · exact .refl s

theorem eventSide_work (a : EventAct) : EventWork s (eventSide a s) := by
  cases a with
  | bell => exact .refl s
  | sessionOpen x => exact openSession_work s x
  | sessionStart x => exact .refl s
  | sessionClose x => exact .of_register (exceptRegister_closeSession s x)
  | periodStart k => exact .of_register (exceptRegister_startPeriod s k)
  | periodEnd k => exact .of_register (exceptRegister_endPeriod s k)
  | gateMode m g => exact applyGateMode_work s m g
  | noticeWindowOpen => exact openNoticeWindow_eventWork s
  | noticeWindowClose => exact closeNoticeWindow_eventWork s

/-! ### A silent run with no plan staged -/

/-- A state with no schedule cursor. -/
def uncursored (s : State) : State := s.modSched fun u => { u with cursor := .absent }

/-- What a run of events without a swap does: the events' side effects, and the cursor's moves. -/
def RunWork (s t : State) : Prop := EventWork (uncursored s) (uncursored t)

theorem RunWork.of_event {s t : State} (h : EventWork s t) : RunWork s t :=
  ⟨show uncursored (exceptEvent t) = uncursored (exceptEvent s) from congrArg uncursored h.rest, h.roll, h.kept⟩

theorem RunWork.trans {s t u : State} (h : RunWork s t) (k : RunWork t u) : RunWork s u := EventWork.trans h k

theorem RunWork.cursor (c : Cursor) : RunWork s (s.modSched fun u => { u with cursor := c }) := EventWork.refl _

theorem RunWork.sched {s t : State} (h : RunWork s t) :
    { t.sched with cursor := .absent } = { s.sched with cursor := .absent } := EventWork.sched h

theorem RunWork.staged {s t : State} (h : RunWork s t) : t.sched.staged = s.sched.staged :=
  congrArg (·.staged) h.sched

theorem swapStaged_none {s : State} (t : Nat) (h : s.sched.staged = none) : swapStaged t s = s := by
  rw [swapStaged, h]

theorem takeNextEvent_silent {s : State} (i : Nat) (e : Event) (h : s.sched.staged = none) :
    RunWork s (takeNextEvent false i e s) := by
  have side := RunWork.of_event (eventSide_work s e.act)
  have moved := side.trans (RunWork.cursor _ (cursorAfter (activeEvents s) i))
  show RunWork s (if e.boundary then swapStaged e.time _ else _)
  split
  · rw [swapStaged_none]
    · exact moved
    · exact side.staged.trans h
  · exact moved

theorem runEvents_silent (t1 : Option Nat) (t2 fuel : Nat) {s : State} (h : s.sched.staged = none) :
    RunWork s (runEvents false t1 t2 fuel s) := by
  induction fuel generalizing s with
  | zero => exact RunWork.of_event (.refl s)
  | succ k ih =>
    unfold runEvents
    split
    · exact RunWork.of_event (.refl s)
    · dsimp only
      split
      · exact RunWork.of_event (.refl s)
      · rename_i i e _ _
        have taken := takeNextEvent_silent i e h
        have passed := RunWork.cursor s (cursorAfter (activeEvents s) i)
        cases t1 with
        | none => exact taken.trans (ih (taken.staged.trans h))
        | some t =>
          dsimp only
          split
          · exact taken.trans (ih (taken.staged.trans h))
          · exact passed.trans (ih (s := s.modSched _) h)

theorem swapAtEdge_none {s : State} (h : s.sched.staged = none) : swapAtEdge s = s := by
  unfold swapAtEdge
  rw [swapStaged_none _ h, ite_self]

/-- A silent run with nothing staged: the side effects, the cursor, and the last processed time (R34, R35). -/
theorem silentRun_work (t1 : Option Nat) (t2 : Nat) {s : State} (h : s.sched.staged = none) :
    ∃ u, RunWork s u ∧ silentRun t1 t2 s = setProcessed t2 u := by
  have run := runEvents_silent t1 t2 65 h
  exact ⟨_, run, congrArg (setProcessed t2) (swapAtEdge_none (run.staged.trans h))⟩

/-! ### The new day (R40) and the end of a settlement (R15, R173) -/

/-- The schedule at the start of the day the clock gives. -/
def dayStarted (s : State) : State :=
  s.modSched fun u =>
    { u with
      active := calendarPlan s s.sched.day
      state := if (calendarPlan s s.sched.day).isSome then .active else .closedDay }

theorem beginDay_work {s : State} (h : s.sched.staged = none) :
    ∃ u, RunWork (dayStarted s) u ∧ beginDay s = setProcessed s.sched.second u := by
  unfold beginDay
  split
  · rename_i p hp
    have start : RunWork (dayStarted s) (s.modSched fun u =>
        { u with active := some p, cursor := firstCursor (tabGet [] u.plans p), state := .active }) := by
      have := RunWork.cursor (dayStarted s) (firstCursor (tabGet [] s.sched.plans p))
      simp only [dayStarted, hp] at this ⊢
      exact this
    obtain ⟨u, run, hu⟩ := silentRun_work none s.sched.second (s := s.modSched fun u =>
      { u with active := some p, cursor := firstCursor (tabGet [] u.plans p), state := .active }) h
    exact ⟨u, start.trans run, hu⟩
  · rename_i hp
    refine ⟨_, ?_, rfl⟩
    have := RunWork.cursor (dayStarted s) .absent
    simp only [dayStarted, hp] at this ⊢
    exact this

/-- A settlement that is over: the roll is NORMAL and one settlement less is outstanding. -/
def settlementOver (s : State) : State :=
  (s.modRoll fun u => { u with rollState := .normal, cursor := Config.rollSlots }).modSched
    fun u => { u with outstanding := u.outstanding - 1 }

theorem completeSettlement_waits {s : State} (h : 2 ≤ s.sched.outstanding) :
    completeSettlement (s.modRoll fun u => { u with cursor := Config.rollSlots }) = settlementOver s := by
  have more : ¬(s.sched.outstanding - 1 = 0) := by omega
  exact if_neg more

theorem completeSettlement_begins {s : State} (h : s.sched.outstanding = 1) :
    completeSettlement (s.modRoll fun u => { u with cursor := Config.rollSlots })
      = endCatchUp (beginDay (settlementOver s)) := by
  have last : s.sched.outstanding - 1 = 0 := by omega
  exact if_pos last

/-- What the day's beginning leaves of the state in which the last settlement ended, and what it makes of the
schedule. -/
structure DayBegun (s t : State) : Prop where
  kept : Keeps unmarked s t
  others : ∀ n, (entryAt t n).map markView = (entryAt s n).map markView
  excuses : t.roll.excuses = s.roll.excuses
  rollState : t.roll.rollState = .normal
  onSite : t.gate.onSiteCount = s.gate.onSiteCount
  outstanding : t.sched.outstanding = 0
  active : t.sched.active = calendarPlan s s.sched.day
  state : t.sched.state = if (calendarPlan s s.sched.day).isSome then .active else .closedDay
  lastSecond : t.sched.lastSecond = s.sched.second
  catchUp : t.office.catchUp = false
  bell : t.bell = s.bell

theorem dayBegins_last {s : State} (one : s.sched.outstanding = 1) (staged : s.sched.staged = none) :
    DayBegun s (tryOffers (completeSettlement (s.modRoll fun u => { u with cursor := Config.rollSlots }))) := by
  rw [completeSettlement_begins one]
  obtain ⟨u, run, hu⟩ := beginDay_work (s := settlementOver s) staged
  have offers := tryOffers_work (endCatchUp (beginDay (settlementOver s)))
  have roll : (tryOffers (endCatchUp (beginDay (settlementOver s)))).roll = u.roll := by
    rw [tryOffers_roll, hu]; rfl
  have rest := run.rollRest
  have sched : { u.sched with cursor := .absent } = { (dayStarted (settlementOver s)).sched with cursor := .absent } :=
    run.sched
  have schedule : (tryOffers (endCatchUp (beginDay (settlementOver s)))).sched
      = { u.sched with lastSecond := s.sched.second, lastDay := u.sched.day } := by
    rw [offers.sched, hu]; rfl
  have view (n : Nat) : (entryAt u n).map markView = (entryAt s n).map markView :=
    (run.roll.coarser markView fun _ => rfl).find n
  refine ⟨fun n e he hp => ?_, fun n => ?_, ?_, ?_, ?_, ?_, ?_, ?_, ?_, ?_, ?_⟩
  · rw [entryAt, roll]; exact run.kept n e he hp
  · rw [entryAt, roll]; exact view n
  · rw [roll]; exact congrArg (·.excuses) rest
  · rw [roll]; exact congrArg (·.rollState) rest
  · rw [offers.gate, hu]; exact congrArg (·.onSiteCount) run.gateRest
  · rw [schedule]
    have : u.sched.outstanding = s.sched.outstanding - 1 := congrArg (·.outstanding) sched
    show u.sched.outstanding = 0
    omega
  · rw [schedule]; exact congrArg (·.active) sched
  · rw [schedule]; exact congrArg (·.state) sched
  · rw [schedule]
  · exact congrArg (·.catchUp) offers.quiet
  · rw [offers.bell, hu]; exact run.bell

/-! ### SETTLE_SLOT -/

theorem settleCursor_settles {s : State} {day : Nat} {e : RollEntry} (he : entryAt s s.roll.cursor = some e)
    (hd : e.recordDay ≠ day) : SlotSettled s s.roll.cursor day e (settleCursor day s) := by
  rw [show settleCursor day s = settleEntry s.roll.cursor day e s by simp only [settleCursor, he, if_neg hd]]
  exact settleEntry_settles he

theorem settleCursor_passes {s : State} {day : Nat}
    (h : entryAt s s.roll.cursor = none ∨ ∃ e, entryAt s s.roll.cursor = some e ∧ e.recordDay = day) :
    settleCursor day s = s := by
  rcases h with he | ⟨e, he, hd⟩
  · simp only [settleCursor, he]
  · simp only [settleCursor, he, if_pos hd]

theorem exec_settleSlot (s : State) : exec .settleSlot s = whenPowered takeSettleSlot s := rfl

theorem settleSlot_moves {s t : State} {day : Nat} (on : s.office.powered = true)
    (rolling : s.roll.rollState = .rollover day) (more : s.roll.cursor < 3071) (ht : settleCursor day s = t)
    (same : t.roll.cursor = s.roll.cursor) :
    exec .settleSlot s = .next { t with roll := { t.roll with cursor := s.roll.cursor + 1 } } := by
  have here : ¬Config.rollSlots ≤ s.roll.cursor := by show ¬3072 ≤ _; omega
  have next : ¬Config.rollSlots ≤ t.roll.cursor + 1 := by show ¬3072 ≤ _; omega
  rw [exec_settleSlot, whenPowered, if_pos on, takeSettleSlot]
  simp only [rolling, if_neg here, ht, if_neg next]
  rw [← same]
  rfl

theorem settleSlot_ends {s t : State} {day : Nat} (on : s.office.powered = true)
    (rolling : s.roll.rollState = .rollover day) (last : s.roll.cursor = 3071) (ht : settleCursor day s = t)
    (same : t.roll.cursor = s.roll.cursor) :
    exec .settleSlot s
      = .next (tryOffers (completeSettlement (t.modRoll fun u => { u with cursor := Config.rollSlots }))) := by
  have here : ¬Config.rollSlots ≤ s.roll.cursor := by show ¬3072 ≤ _; omega
  have next : Config.rollSlots ≤ t.roll.cursor + 1 := by show 3072 ≤ _; omega
  rw [exec_settleSlot, whenPowered, if_pos on, takeSettleSlot]
  simp only [rolling, if_neg here, ht, if_pos next]

/-- What a further settlement outstanding leaves of the state in which a settlement ended. -/
structure SettlementWaits (s t : State) : Prop where
  entry : ∀ n, entryAt t n = entryAt s n
  excuses : t.roll.excuses = s.roll.excuses
  rollState : t.roll.rollState = .normal
  gate : t.gate = s.gate
  sched : t.sched = { s.sched with outstanding := s.sched.outstanding - 1 }
  bell : t.bell = s.bell
  reg : t.reg = s.reg
  control : sameControl s t

theorem settlementWaits_last {s : State} (more : 2 ≤ s.sched.outstanding) :
    SettlementWaits s (tryOffers (completeSettlement (s.modRoll fun u => { u with cursor := Config.rollSlots }))) := by
  rw [completeSettlement_waits more]
  have offers := tryOffers_work (settlementOver s)
  have roll := tryOffers_roll (settlementOver s)
  exact ⟨fun n => by rw [entryAt, roll]; rfl, by rw [roll]; rfl, by rw [roll]; rfl, offers.gate, offers.sched,
    offers.bell, offers.reg, offers.control⟩

theorem settledCounts_concern (e : RollEntry) : (settledCounts e).concern = e.term.concern := by
  have counted (c : MarkCode) (t : TermRecord) : (countMark c t).concern = t.concern := by
    unfold countMark countUnexplained countAttended
    split <;> split <;> rfl
  rw [settledCounts, countLateness, counted, counted]

/-- The concern flag after a night, by the flag before (R18). -/
theorem concernAfter_iff (p : Params) (e : RollEntry) :
    (e.term.concern = false → (concernAfter p (settledCounts e) = true ↔
      p.pmin ≤ (settledCounts e).p ∧ attendance (settledCounts e) < p.threshold))
    ∧ (e.term.concern = true → (concernAfter p (settledCounts e) = true ↔
      attendance (settledCounts e) < min 1000 (p.threshold + p.hysteresis)))
    ∧ concernRaised p (settledCounts e) = (concernAfter p (settledCounts e) && !e.term.concern) := by
  have before := settledCounts_concern e
  refine ⟨fun h => ?_, fun h => ?_, ?_⟩
  · rw [concernAfter, before, h]; simp
  · rw [concernAfter, before, h, clearingLevel]; simp
  · rw [concernRaised, before, Bool.and_comm]

/-- Settles O43: the slot under the cursor is settled (`settleEntry_settles`) or passed over, and the last slot ends the
settlement, with another to wait for or the day to begin. -/
theorem settleSlotSettles : Obligations.SettleSlotSettles := by
  intro s day on rolling settled unsettled nothing dayBegins nextWaits
  have settles (t : State) (e : RollEntry) (entry : entryAt t s.roll.cursor = some (settledInto s s.roll.cursor day e))
      (others : otherPupilsStand s.roll.cursor s t)
      (excuses : t.roll.excuses = unexpired s.roll.cursor day s.roll.excuses)
      (onSite : t.gate.onSiteCount = s.gate.onSiteCount - if e.day.onSite = .onSite then 1 else 0) : settled t e := by
    obtain ⟨unset, set, raised⟩ := concernAfter_iff s.office.params e
    refine ⟨⟨_, entry, rfl, rfl, rfl, rfl, unset, set, ?_, rfl, rfl, rfl, rfl, rfl, fun x => ?_⟩, excuses, onSite,
      others⟩
    · show ({ clearedFlags with dueConcern := _ } : NoticeFlags) = _
      rw [raised]; rfl
    · cases x <;> rfl
  have cursor {t : State} {e : RollEntry} (h : SlotSettled s s.roll.cursor day e t) : t.roll.cursor = s.roll.cursor :=
    congrArg (·.cursor) h.roll
  have excuses {t : State} {e : RollEntry} (h : SlotSettled s s.roll.cursor day e t) :
      t.roll.excuses = unexpired s.roll.cursor day s.roll.excuses := congrArg (·.excuses) h.roll
  have onSite {t : State} {e : RollEntry} (h : SlotSettled s s.roll.cursor day e t) :
      t.gate.onSiteCount = s.gate.onSiteCount - if e.day.onSite = .onSite then 1 else 0 :=
    congrArg (·.onSiteCount) h.gate
  have begins {t u : State} (hs : t.sched = s.sched) (hb : t.bell = s.bell) (h : DayBegun t u) : dayBegins u := by
    have plan : calendarPlan t t.sched.day = calendarPlan s s.sched.day := by simp only [calendarPlan, hs]
    refine ⟨h.rollState, h.outstanding, h.active.trans plan, by rw [h.state, plan], ?_, h.catchUp, h.bell.trans hb⟩
    rw [h.lastSecond, hs]
  have waits {t u : State} (hs : t.sched = s.sched) (hb : t.bell = s.bell) (hr : t.reg = s.reg)
      (hc : sameControl s t) (h : SettlementWaits t u) : nextWaits u :=
    ⟨h.rollState, by rw [h.sched, hs], h.bell.trans hb, h.reg.trans hr, sameControl_trans hc h.control⟩
  refine ⟨fun e more ⟨he, hd⟩ => ?_, fun more idle => ?_, fun e last ⟨he, hd⟩ one staged => ?_,
    fun e last ⟨he, hd⟩ two => ?_, fun last idle one staged => ?_, fun last idle two => ?_⟩
  · have h := settleCursor_settles he hd
    have left := excuses h
    have site := onSite h
    refine ⟨_, settleSlot_moves on rolling more rfl (cursor h), settles _ e h.entry h.others left site,
      rfl, ?_, ?_, h.sched, h.bell, h.reg, h.control⟩
    · exact (congrArg (·.rollState) h.roll).trans rolling
    · exact congrArg (fun g : GateUnit => { g with onSiteCount := s.gate.onSiteCount }) h.gate
  · exact settleSlot_moves on rolling more (settleCursor_passes idle) rfl
  · have h := settleCursor_settles he hd
    have b := dayBegins_last (s := settleCursor day s) (by rw [h.sched]; exact one) (by rw [h.sched]; exact staged)
    refine ⟨_, settleSlot_ends on rolling last rfl (cursor h), settles _ e (b.kept _ _ h.entry rfl)
      (fun n hn => (b.others n).trans (h.others n hn)) (b.excuses.trans (excuses h)) (b.onSite.trans (onSite h)),
      begins h.sched h.bell b⟩
  · have h := settleCursor_settles he hd
    have w := settlementWaits_last (s := settleCursor day s) (by rw [h.sched]; exact two)
    refine ⟨_, settleSlot_ends on rolling last rfl (cursor h), settles _ e ((w.entry _).trans h.entry)
      (fun n hn => (congrArg (Option.map markView) (w.entry n)).trans (h.others n hn)) (w.excuses.trans (excuses h))
      ?_, waits h.sched h.bell h.reg h.control w⟩
    rw [w.gate]; exact onSite h
  · have b := dayBegins_last one staged
    exact ⟨_, settleSlot_ends on rolling last (settleCursor_passes idle) rfl, begins rfl rfl b, b.others⟩
  · have w := settlementWaits_last two
    exact ⟨_, settleSlot_ends on rolling last (settleCursor_passes idle) rfl,
      waits rfl rfl rfl (sameControl_working s) w, w.gate, w.entry⟩

end Sys2Proof.Machine
end

section
/-! PROOFS. The day-end notice and SETTLEMENT_START (R15, R39, R88, R108, R144): gate by gate, with the answer to each
cancelled referral's reader. -/

namespace Sys2Proof.Machine

open Sys2Proof

/-! ### An update of every gate -/

/-- What each update of a gate keeps, the update of every gate keeps. -/
theorem eachGate_keeps {α : Type} (v : State → α) {f : Nat → State → State} (hf : ∀ g s, v (f g s) = v s)
    (l : List Nat) (s : State) : v (eachGate f l s) = v s := by
  induction l generalizing s with
  | nil => rfl
  | cons g gs ih => exact (ih _).trans (hf g s)

/-- Updates that each write their own gate's record write each listed gate's once. -/
theorem gateAt_eachGate {f : Nat → State → State} {φ : Nat → Gate → Gate}
    (hf : ∀ g s h, gateAt (f g s) h = if h = g then φ h (gateAt s h) else gateAt s h) {l : List Nat} (nodup : l.Nodup)
    (s : State) (h : Nat) : gateAt (eachGate f l s) h = if h ∈ l then φ h (gateAt s h) else gateAt s h := by
  induction l generalizing s with
  | nil => rfl
  | cons g gs ih =>
    obtain ⟨fresh, nodup⟩ := List.nodup_cons.mp nodup
    rw [eachGate, ih nodup, hf]
    by_cases hg : h = g
    · subst hg; simp [fresh]
    · simp [hg]

/-- The same for the eight gates. -/
theorem gateAt_allGates {f : Nat → State → State} {φ : Nat → Gate → Gate}
    (hf : ∀ g s h, gateAt (f g s) h = if h = g then φ h (gateAt s h) else gateAt s h) (s : State) {g : Nat}
    (hg : g < 8) :
    gateAt (eachGate f (List.range 8) s) g = φ g (gateAt s g) := by
  rw [gateAt_eachGate hf List.nodup_range, if_pos (List.mem_range.mpr hg)]

/-- A gate without its duplicate-tap memory. -/
def withoutMemory (x : Gate) : Gate := { x with memory := none }

/-- A gate without its referral. -/
def withoutReferral (x : Gate) : Gate := { x with referral := none }

theorem forgetTap_gateAt (g : Nat) (s : State) (h : Nat) :
    gateAt (forgetTap g s) h = if h = g then withoutMemory (gateAt s h) else gateAt s h := by
  rw [forgetTap, gateAt_setGateAt]
  split
  · subst_vars; rfl
  · rfl

theorem answerHeld_gate (r : Referral) (a : Answer) (s : State) : (answerHeld r a s).gate = s.gate :=
  congrArg (·.gate) (exceptLine_answerHeld s r a)

theorem cancelAtDayEnd_gateAt (g : Nat) (s : State) (h : Nat) :
    gateAt (cancelAtDayEnd g s) h = if h = g then withoutReferral (gateAt s h) else gateAt s h := by
  unfold cancelAtDayEnd
  split
  · rename_i hr
    split
    · subst_vars; rw [withoutReferral, ← hr]
    · rfl
  · rename_i r hr
    have gate : gateAt (answerHeld r .seeOffice (clearReferral g s)) h = gateAt (clearReferral g s) h := by
      rw [gateAt, gateAt, answerHeld_gate]
    rw [gate, clearReferral, gateAt_setGateAt]
    split
    · subst_vars; rfl
    · rfl

/-! ### A frame handed to an idle segment -/

theorem segmentChoose_other {seg m : Nat} (h : m ≠ seg) (s : State) :
    segmentAt (segmentChoose seg s) m = segmentAt s m := by
  unfold segmentChoose
  dsimp only
  split
  · rfl
  · rw [segmentAt_setSegmentAt, if_neg h]

theorem handFrame_other {seg m : Nat} (h : m ≠ seg) (f : FieldFrame) (s : State) :
    segmentAt (handFrame seg f s) m = segmentAt s m := by
  unfold handFrame
  dsimp only
  split
  · rw [segmentChoose_other h, segmentAt_setSegmentAt, if_neg h]
  · rw [segmentAt_setSegmentAt, if_neg h]

/-- A segment with nothing to do sends a frame handed to it at once (R152, R153). -/
theorem handFrame_idle {s : State} {seg : Nat} {f : FieldFrame} (idle : lineIdle s seg)
    (next : takeNext [f] = some (f, [])) : nowSends (handFrame seg f s) seg f := by
  obtain ⟨sending, exchange, queue, outside⟩ := idle
  have takes : queueTakes (segmentAt s seg) f = true := by simp [queueTakes, queue, outside, Config.queueFrames]
  have joined : joinQueue (segmentAt s seg) f = { segmentAt s seg with queue := [f] } := by simp [joinQueue, queue]
  have turned : segmentAt (handFrame seg f s) seg = { segmentAt s seg with queue := [], sending := some f } := by
    simp only [handFrame, takes, if_true, joined, segmentChoose, segmentAt_setSegmentAt, sending, exchange,
      Option.isSome_none, Bool.or_self, Bool.false_eq_true, if_false, chooseNext, next]
  rw [nowSends, turned]
  exact ⟨rfl, exchange, rfl, outside⟩

/-- The reader of a held tap is answered by its own segment. -/
theorem answerHeld_answers (r : Referral) (a : Answer) (s : State) : readerAnswered r a s (answerHeld r a s) := by
  intro idle
  have minutes : ((judgedOf r).map (·.minutes)).getD 0 = if r.band.isSome = true then r.minutes else 0 := by
    unfold judgedOf; cases r.band <;> rfl
  have band : (judgedOf r).map (·.band) = r.band := by unfold judgedOf; cases r.band <;> rfl
  have sends := handFrame_idle (f := ⟨r.address, .gateAnswer r.sequence a (some (pupilAt s r.slot)) r.band
    (if r.band.isSome = true then r.minutes else 0)⟩) idle rfl
  rw [answerHeld, answerReader, minutes, band]
  exact sends

/-- Whether a reader is answered depends on the segments and the roll. -/
theorem readerAnswered_of_same {r : Referral} {a : Answer} {s s' t t' : State} (h : readerAnswered r a s t)
    (roll : s'.roll = s.roll) (before : segmentAt s' r.segment = segmentAt s r.segment)
    (after : segmentAt t' r.segment = segmentAt t r.segment) : readerAnswered r a s' t' := by
  have pupil : pupilAt s' r.slot = pupilAt s r.slot := by rw [pupilAt, entryAt, roll]; rfl
  simpa only [readerAnswered, lineIdle, nowSends, pupil, before, after] using h

/-! ### The referrals cancelled at the day's end (R88) -/

theorem cancelAtDayEnd_roll (g : Nat) (s : State) : (cancelAtDayEnd g s).roll = s.roll :=
  congrArg (·.roll) (exceptGates_cancelAtDayEnd s g)

theorem cancelAtDayEnd_segment {g seg : Nat} {s : State}
    (h : ∀ q, (gateAt s g).referral = some q → q.segment ≠ seg) :
    segmentAt (cancelAtDayEnd g s) seg = segmentAt s seg := by
  unfold cancelAtDayEnd
  split
  · rfl
  · rename_i r hr
    exact handFrame_other (h r hr).symm _ _

theorem cancelAll_segment {l : List Nat} (nodup : l.Nodup) {seg : Nat} {s : State}
    (h : ∀ k ∈ l, ∀ q, (gateAt s k).referral = some q → q.segment ≠ seg) :
    segmentAt (eachGate cancelAtDayEnd l s) seg = segmentAt s seg := by
  induction l generalizing s with
  | nil => rfl
  | cons g gs ih =>
    obtain ⟨fresh, nodup⟩ := List.nodup_cons.mp nodup
    rw [eachGate, ih nodup fun k hk q hq => ?_, cancelAtDayEnd_segment (h g (by simp))]
    rw [cancelAtDayEnd_gateAt, if_neg fun e : k = g => fresh (e ▸ hk)] at hq
    exact h k (by simp [hk]) q hq

theorem cancelAll_answers {l : List Nat} (nodup : l.Nodup) {g : Nat} (hg : g ∈ l) {r : Referral} {s : State}
    (hr : (gateAt s g).referral = some r)
    (apart : ∀ k ∈ l, k ≠ g → ∀ q, (gateAt s k).referral = some q → q.segment ≠ r.segment) :
    readerAnswered r .seeOffice s (eachGate cancelAtDayEnd l s) := by
  induction l generalizing s with
  | nil => simp at hg
  | cons k ks ih =>
    obtain ⟨fresh, tail⟩ := List.nodup_cons.mp nodup
    have others : ∀ j ∈ ks, (gateAt (cancelAtDayEnd k s) j) = gateAt s j := fun j hj => by
      rw [cancelAtDayEnd_gateAt, if_neg fun e : j = k => fresh (e ▸ hj)]
    by_cases hk : g = k
    · subst hk
      have rest : segmentAt (eachGate cancelAtDayEnd ks (cancelAtDayEnd g s)) r.segment
          = segmentAt (cancelAtDayEnd g s) r.segment := by
        refine cancelAll_segment (s := cancelAtDayEnd g s) tail fun j hj q hq => ?_
        rw [others j hj] at hq
        exact apart j (by simp [hj]) (fun e : j = g => fresh (e ▸ hj)) q hq
      have cancel : cancelAtDayEnd g s = answerHeld r .seeOffice (clearReferral g s) := by
        simp only [cancelAtDayEnd, hr]
      refine readerAnswered_of_same (answerHeld_answers r .seeOffice (clearReferral g s)) rfl rfl ?_
      rw [eachGate, rest, cancel]
    · have hgs : g ∈ ks := (List.mem_cons.mp hg).resolve_left hk
      have later := ih tail hgs (s := cancelAtDayEnd k s) (by rw [others g hgs]; exact hr) fun j hj hjg q hq => by
        rw [others j hj] at hq
        exact apart j (by simp [hj]) hjg q hq
      refine readerAnswered_of_same later (cancelAtDayEnd_roll k s).symm (.symm ?_) rfl
      exact cancelAtDayEnd_segment fun q hq => apart k (by simp) (Ne.symm hk) q hq

/-! ### The records dropped at the day's end (R144) -/

theorem dropNotices_notices {l : List Notice} {s : State} (h : s.msg.notices = l) :
    (dropNotices l s).msg.notices = [] := by
  induction l generalizing s with
  | nil => exact h
  | cons n ns ih => exact ih (by rw [leaveQueue_notices, h, List.erase_cons_head])

theorem dropNotices_roll (l : List Notice) (s : State) : (dropNotices l s).roll = s.roll := by
  induction l generalizing s with
  | nil => rfl
  | cons n ns ih => exact (ih _).trans (leaveQueue_roll (.inl (by decide)) s)

/-! ### The day-end notice (R39) -/

/-- What the day-end notice leaves. -/
structure DayEnded (s t : State) : Prop where
  roll : t.roll = s.roll
  gates : ∀ g, g < 8 → gateAt t g = { mode := (gateAt s g).mode, memory := none, referral := none }
  answered : ∀ g r, g < 8 → (gateAt s g).referral = some r →
    (∀ k q, k < 8 → k ≠ g → (gateAt s k).referral = some q → q.segment ≠ r.segment) → readerAnswered r .seeOffice s t
  gateRest : t.gate.movements = [] ∧ t.gate.movementsFull = false ∧ t.gate.onSiteCount = s.gate.onSiteCount
  reg : t.reg = { form := ⟨⟨.notOpened, []⟩, ⟨.notOpened, []⟩⟩, lessons := [], rooms := [], walks := [] }
  msg : t.msg.notices = [] ∧ t.msg.windowOpen = false ∧ t.msg.walk = .idle ∧ t.msg.rewalk = false
    ∧ t.msg.deferral = false
  sched : t.sched = s.sched
  bell : t.bell = s.bell
  control : sameControl s t

/-- The day's movements gone (R88). -/
def clearMovements (s : State) : State := s.modGate fun u => { u with movements := [], movementsFull := false }

theorem gateDayEnd_eq (s : State) : gateDayEnd s
    = eachGate forgetTap (List.range 8) (clearMovements (eachGate cancelAtDayEnd (List.range 8) s)) := rfl

theorem clearMovements_gateAt (s : State) (g : Nat) : gateAt (clearMovements s) g = gateAt s g := rfl

theorem gateDayEnd_gateAt (s : State) {g : Nat} (hg : g < 8) :
    gateAt (gateDayEnd s) g = { mode := (gateAt s g).mode, memory := none, referral := none } := by
  rw [gateDayEnd_eq, gateAt_allGates forgetTap_gateAt _ hg, clearMovements_gateAt,
    gateAt_allGates cancelAtDayEnd_gateAt s hg]
  rfl

section

variable {s t : State}

theorem onSite_of_exceptGates (h : exceptGates t = exceptGates s) : t.gate.onSiteCount = s.gate.onSiteCount :=
  congrArg (·.gate.onSiteCount) h

theorem roll_of_exceptGates (h : exceptGates t = exceptGates s) : t.roll = s.roll := congrArg (·.roll) h

theorem sched_of_exceptGates (h : exceptGates t = exceptGates s) : t.sched = s.sched := congrArg (·.sched) h

theorem bell_of_exceptGates (h : exceptGates t = exceptGates s) : t.bell = s.bell := congrArg (·.bell) h

theorem sameControl_of_exceptGates (h : exceptGates t = exceptGates s) : sameControl s t :=
  sameControl_of_quiet (congrArg (·.office) h)

end

theorem gateDayEnd_movements (s : State) :
    (gateDayEnd s).gate.movements = [] ∧ (gateDayEnd s).gate.movementsFull = false := by
  have movements := eachGate_keeps (·.gate.movements) (f := forgetTap) (fun _ _ => rfl) (List.range 8)
    (clearMovements (eachGate cancelAtDayEnd (List.range 8) s))
  have full := eachGate_keeps (·.gate.movementsFull) (f := forgetTap) (fun _ _ => rfl) (List.range 8)
    (clearMovements (eachGate cancelAtDayEnd (List.range 8) s))
  rw [gateDayEnd_eq]
  exact ⟨movements, full⟩

theorem clearMovements_line (s : State) : (clearMovements s).line = s.line := rfl

theorem gateDayEnd_line (s : State) : (gateDayEnd s).line = (eachGate cancelAtDayEnd (List.range 8) s).line := by
  have line := eachGate_keeps (·.line) (f := forgetTap) (fun _ _ => rfl) (List.range 8)
    (clearMovements (eachGate cancelAtDayEnd (List.range 8) s))
  rw [gateDayEnd_eq, ← clearMovements_line (eachGate cancelAtDayEnd (List.range 8) s)]
  exact line

theorem gateDayEnd_answers {s : State} {g : Nat} {r : Referral} (hg : g < 8) (hr : (gateAt s g).referral = some r)
    (apart : ∀ k q, k < 8 → k ≠ g → (gateAt s k).referral = some q → q.segment ≠ r.segment) :
    readerAnswered r .seeOffice s (gateDayEnd s) := by
  have answers := cancelAll_answers List.nodup_range (List.mem_range.mpr hg) hr
    fun k hk hkg q hq => apart k q (List.mem_range.mp hk) hkg hq
  refine readerAnswered_of_same answers rfl rfl ?_
  rw [segmentAt, gateDayEnd_line, segmentAt]

theorem messageDayEnd_roll (s : State) : (messageDayEnd s).roll = s.roll := by
  unfold messageDayEnd
  exact dropNotices_roll s.msg.notices s

theorem messageDayEnd_notices (s : State) : (messageDayEnd s).msg.notices = [] := by
  unfold messageDayEnd
  exact dropNotices_notices (s := s) rfl

theorem messageDayEnd_idle (s : State) : (messageDayEnd s).msg.windowOpen = false ∧ (messageDayEnd s).msg.walk = .idle
    ∧ (messageDayEnd s).msg.rewalk = false ∧ (messageDayEnd s).msg.deferral = false := by
  unfold messageDayEnd
  exact ⟨rfl, rfl, rfl, rfl⟩

/-- The day-end notice after the gates' part of it. -/
theorem DayEnded.of_gates {s t : State} (gates : exceptGates t = exceptGates s)
    (records : ∀ g, g < 8 → gateAt t g = { mode := (gateAt s g).mode, memory := none, referral := none })
    (movements : t.gate.movements = [] ∧ t.gate.movementsFull = false)
    (answered : ∀ g r, g < 8 → (gateAt s g).referral = some r →
      (∀ k q, k < 8 → k ≠ g → (gateAt s k).referral = some q → q.segment ≠ r.segment) →
      readerAnswered r .seeOffice s t) : DayEnded s (messageDayEnd (registerDayEnd t)) := by
  have notices := messageDayEnd_work (registerDayEnd t)
  have gate : (messageDayEnd (registerDayEnd t)).gate = t.gate := notices.gate
  have segments : (messageDayEnd (registerDayEnd t)).line.segments = t.line.segments := notices.segments
  have idle := messageDayEnd_idle (registerDayEnd t)
  have roll := roll_of_exceptGates gates
  have sched := sched_of_exceptGates gates
  have bell := bell_of_exceptGates gates
  refine ⟨(messageDayEnd_roll _).trans roll, fun g hg => ?_, fun g r hg hr apart => ?_, ?_,
    notices.reg, ⟨messageDayEnd_notices _, idle⟩, notices.sched.trans sched, notices.bell.trans bell,
    sameControl_trans (sameControl_of_exceptGates gates) notices.control⟩
  · rw [gateAt, gate]; exact records g hg
  · refine readerAnswered_of_same (answered g r hg hr apart) rfl rfl ?_
    rw [segmentAt, segments, segmentAt]
  · rw [gate]; exact ⟨movements.1, movements.2, onSite_of_exceptGates gates⟩

theorem dayEndNotice_ends (s : State) : DayEnded s (dayEndNotice s) :=
  .of_gates (exceptGates_gateDayEnd s) (fun _ hg => gateDayEnd_gateAt s hg) (gateDayEnd_movements s)
    fun _ _ hg hr apart => gateDayEnd_answers hg hr apart

/-- Settles O42: the trigger's settlement starts, and the day-end notice follows (`dayEndNotice_ends`). -/
theorem settlementStarts : Obligations.SettlementStarts := by
  intro s d ds on triggers normal walks
  let start := s.modRoll fun u => { u with heldTriggers := ds, rollState := .rollover d, cursor := 0 }
  have ended : DayEnded start (dayEndNotice start) := dayEndNotice_ends start
  have may : maySettle s = true := by simp [maySettle, rollingOver, walkRunning, normal, walks]
  have next : exec .settlementStart s = .next (dayEndNotice start) := by
    show whenPowered takeSettlementStart s = _
    rw [whenPowered, if_pos on, takeSettlementStart, triggers]
    simp only [may, if_true]
    rfl
  obtain ⟨movements, full, onSite⟩ := ended.gateRest
  obtain ⟨notices, window, walk, rewalk, deferral⟩ := ended.msg
  refine ⟨_, next, ended.roll, ended.gates, ended.answered, movements, full, onSite, fun x => ?_, fun k => ?_, ?_,
    notices, window, walk, rewalk, deferral, ended.sched, ended.bell, ended.control⟩
  · rw [formState, ended.reg]; cases x <;> rfl
  · rw [lessonAt, ended.reg]; rfl
  · rw [ended.reg]

end Sys2Proof.Machine
end

section
/-! PROOFS. The parts of a seconds tick (R28): the timers, a Bell Sequencer that waits, offers that cannot be made, and
what events leave of the schedule. -/

namespace Sys2Proof.Machine

open Sys2Proof

/-! ### The timers (R54, R69, R81, R139) -/

theorem tickGate_gateAt (g : Nat) (s : State) (h : Nat) :
    gateAt (tickGate g s) h = if h = g then gateTicked (gateAt s h) else gateAt s h := by
  rw [tickGate, gateAt_setGateAt]
  split
  · subst_vars; rfl
  · rfl

theorem relayAt_refreshRelay (n m : Nat) (s : State) : relayAt (refreshRelay n s) m =
    if m = n then { relayAt s n with position := relayPosition s (relayAt s n) } else relayAt s m := tabGet_tabSet ..

theorem relayAt_refreshRelays (s : State) {r : Nat} (hr : r < 2) :
    relayAt (refreshRelays s) r = { relayAt s r with position := relayPosition (refreshRelays s) (relayAt s r) } := by
  have same (x : Relay) : relayPosition (refreshRelays s) x = relayPosition s x := rfl
  rw [refreshRelays, relayAt_refreshRelay, relayAt_refreshRelay, relayAt_refreshRelay]
  change _ = { relayAt s r with position := relayPosition s (relayAt s r) }
  obtain rfl | rfl : r = 0 ∨ r = 1 := by omega
  · rfl
  · rfl

/-- What the timers' part of a tick leaves as it was. -/
def timerless (s : State) : State :=
  { s with
    bell := { s.bell with sounding := [], relays := [] }
    gate := { s.gate with gates := [] }
    msg := { s.msg with notices := [] } }

/-- What the timers' part of a tick does. -/
structure TimersCount (s t : State) : Prop where
  soundings : soundingsFall s t
  gates : ∀ g, g < 8 → gateAt t g = gateTicked (gateAt s g)
  otherGates : ∀ g, 8 ≤ g → gateAt t g = gateAt s g
  notices : t.msg.notices = s.msg.notices.map noticeTicked
  relays : ∀ r, r < 2 → relayAt t r = { relayAt s r with position := relayPosition t (relayAt s r) }
  rest : timerless t = timerless s

/-- The outcome timers' part of a tick. -/
def tickNotices (s : State) : State := s.modMsg fun m => { m with notices := m.notices.map tickNotice }

theorem tickTimers_eq (s : State) :
    tickTimers s = tickSounding (tickNotices (eachGate tickGate (List.range 8) s)) := rfl

theorem tickNotices_counts (s : State) : timerless (tickNotices s) = timerless s ∧ (tickNotices s).bell = s.bell
    ∧ (tickNotices s).msg.notices = s.msg.notices.map noticeTicked ∧ ∀ g, gateAt (tickNotices s) g = gateAt s g :=
  ⟨rfl, rfl, rfl, fun _ => rfl⟩

theorem tickSounding_counts (s : State) : soundingsFall s (tickSounding s)
    ∧ (∀ r, r < 2 → relayAt (tickSounding s) r
      = { relayAt s r with position := relayPosition (tickSounding s) (relayAt s r) })
    ∧ (∀ g, gateAt (tickSounding s) g = gateAt s g)
    ∧ (tickSounding s).msg = s.msg ∧ timerless (tickSounding s) = timerless s := by
  refine ⟨fun z hz => ?_, fun r hr => relayAt_refreshRelays _ hr, fun g => rfl, rfl, rfl⟩
  exact (tabGet_tabulate ..).trans (if_pos hz)

theorem tickGates_counts (s : State) : timerless (eachGate tickGate (List.range 8) s) = timerless s
    ∧ (eachGate tickGate (List.range 8) s).bell = s.bell ∧ (eachGate tickGate (List.range 8) s).msg = s.msg :=
  ⟨eachGate_keeps timerless (f := tickGate) (fun _ _ => rfl) (List.range 8) s,
    eachGate_keeps (·.bell) (f := tickGate) (fun _ _ => rfl) (List.range 8) s,
    eachGate_keeps (·.msg) (f := tickGate) (fun _ _ => rfl) (List.range 8) s⟩

/-- The parts of the timers' tick, composed. -/
theorem TimersCount.of_gates {s u : State} (rest : timerless u = timerless s) (bell : u.bell = s.bell)
    (msg : u.msg = s.msg) (gates : ∀ g, g < 8 → gateAt u g = gateTicked (gateAt s g))
    (others : ∀ g, 8 ≤ g → gateAt u g = gateAt s g) : TimersCount s (tickSounding (tickNotices u)) := by
  obtain ⟨rest', bell', notices, gates'⟩ := tickNotices_counts u
  obtain ⟨soundings, relays, gates'', msg', rest''⟩ := tickSounding_counts (tickNotices u)
  have sounding (z : Nat) : soundingAt (tickNotices u) z = soundingAt s z := by rw [soundingAt, bell', bell]; rfl
  have relay (r : Nat) : relayAt (tickNotices u) r = relayAt s r := by rw [relayAt, bell', bell]; rfl
  refine ⟨fun z hz => ?_, fun g hg => ?_, fun g hg => ?_, ?_, fun r hr => ?_, rest''.trans (rest'.trans rest)⟩
  · rw [soundings z hz, sounding]
  · rw [gates'', gates', gates g hg]
  · rw [gates'', gates', others g hg]
  · rw [msg', notices, msg]
  · rw [relays r hr, relay]

theorem tickTimers_counts (s : State) : TimersCount s (tickTimers s) := by
  obtain ⟨rest, bell, msg⟩ := tickGates_counts s
  rw [tickTimers_eq]
  refine .of_gates rest bell msg (fun g hg => gateAt_allGates tickGate_gateAt s hg) fun g hg => ?_
  rw [gateAt_eachGate tickGate_gateAt List.nodup_range, if_neg (by simpa using hg)]

section

variable {s t : State}

theorem TimersCount.sched (h : TimersCount s t) : t.sched = s.sched := congrArg (·.sched) h.rest

theorem TimersCount.roll (h : TimersCount s t) : t.roll = s.roll := congrArg (·.roll) h.rest

theorem TimersCount.reg (h : TimersCount s t) : t.reg = s.reg := congrArg (·.reg) h.rest

theorem TimersCount.line (h : TimersCount s t) : t.line = s.line := congrArg (·.line) h.rest

theorem TimersCount.office (h : TimersCount s t) : t.office = s.office := congrArg (·.office) h.rest

theorem TimersCount.msg (h : TimersCount s t) : { t.msg with notices := s.msg.notices } = s.msg :=
  congrArg (fun u : State => { u.msg with notices := s.msg.notices }) h.rest

theorem TimersCount.gateRest (h : TimersCount s t) : { t.gate with gates := s.gate.gates } = s.gate :=
  congrArg (fun u : State => { u.gate with gates := s.gate.gates }) h.rest

theorem TimersCount.bell (h : TimersCount s t) :
    { t.bell with sounding := s.bell.sounding, relays := s.bell.relays } = s.bell :=
  congrArg (fun u : State => { u.bell with sounding := s.bell.sounding, relays := s.bell.relays }) h.rest

/-- The timers alone have counted, with the schedule and the roll given. -/
theorem TimersCount.only (h : TimersCount s t) (sched : ScheduleUnit) (roll : RollStore) :
    onlyTimersCount sched { s with roll := roll } { t with sched := sched, roll := roll } := by
  refine ⟨h.soundings, h.gates, h.notices, h.relays, ?_⟩
  exact congrArg (fun u : State => { u with
    sched := sched, roll := roll
    bell := { u.bell with sounding := s.bell.sounding, relays := s.bell.relays }
    gate := { u.gate with gates := s.gate.gates }
    msg := { u.msg with notices := s.msg.notices } }) h.rest

end

/-! ### Timers that have not run out -/

theorem eachGate_id {f : Nat → State → State} {s : State} {l : List Nat} (h : ∀ g ∈ l, f g s = s) :
    eachGate f l s = s := by
  induction l with
  | nil => rfl
  | cons g gs ih =>
    rw [eachGate, h g (by simp)]
    exact ih fun k hk => h k (by simp [hk])

theorem takeTimeouts_id {s : State} (h : ∀ n ∈ s.msg.notices, timedOut n = false) (l : List Notice) :
    takeTimeouts l s = s := by
  induction l with
  | nil => rfl
  | cons n ns ih =>
    have none : findNotice s n.number timedOut = none := by
      rw [findNotice, List.find?_eq_none]
      intro m hm
      simp [h m hm]
    rw [takeTimeouts, takeTimeout, none]
    exact ih

theorem takeExpiries_id {s : State} (h : timersRun s) : takeExpiries s = s := by
  obtain ⟨referrals, notices⟩ := h
  have gates : eachGate takeReferralExpiry (List.range 8) s = s := eachGate_id fun g hg => by
    unfold takeReferralExpiry
    split
    · rfl
    · rename_i r hr
      exact if_neg (referrals g (List.mem_range.mp hg) r hr)
  rw [takeExpiries, gates]
  exact takeTimeouts_id notices _

/-! ### A Bell Sequencer that waits -/

/-- A sequencer that waits goes on waiting while its job stands and no frame of its own that waited is admitted. -/
theorem bellStep_none {s t : State} (h : bellStep s = none) (current : t.bell.current = s.bell.current)
    (waiting : s.bell.current = none → t.bell.waiting = s.bell.waiting)
    (outside : ∀ seg, bellOutside s seg = true → bellOutside t seg = true) : bellStep t = none := by
  unfold bellStep at h ⊢
  rw [current]
  cases hc : s.bell.current with
  | none =>
    simp only [hc] at h ⊢
    rw [waiting hc]
    cases hw : s.bell.waiting with
    | nil => rfl
    | cons w ws => simp [hw] at h
  | some c =>
    simp only [hc] at h ⊢
    cases hr : c.ringing with
    | none => simp only [hr] at h; split at h <;> cases h
    | some r =>
      simp only [hr] at h ⊢
      cases hh : r.toHand with
      | nil =>
        simp only [hh] at h ⊢
        split at h
        · cases h
        · rename_i hne; rw [if_neg hne]
      | cons p ps =>
        obtain ⟨seg, a⟩ := p
        simp only [hh] at h ⊢
        split at h
        · rename_i ho; rw [if_pos (outside seg ho)]
        · split at h <;> cases h

/-- The same when the segments stand. -/
theorem bellStep_none_of_segments {s t : State} (h : bellStep s = none) (current : t.bell.current = s.bell.current)
    (waiting : s.bell.current = none → t.bell.waiting = s.bell.waiting) (segments : t.line.segments = s.line.segments) :
    bellStep t = none :=
  bellStep_none h current waiting fun seg ho => by
    have same : bellOutside t seg = bellOutside s seg := by rw [bellOutside, segmentAt, segments]; rfl
    rw [same]; exact ho

theorem bellRun_waits {s : State} (h : bellStep s = none) : bellRun s = s := by
  show bellMoves (511 + 1) s = s
  rw [bellMoves, h]

/-! ### Frames outside a segment's queue stay there while answers are handed -/

theorem considerPolls_outside (skipped : Byte → Bool) (fuel : Nat) (g : Segment) :
    (considerPolls skipped fuel g).outside = g.outside := by
  have advance (g : Segment) : (advancePoll g).outside = g.outside := by unfold advancePoll; split <;> rfl
  induction fuel generalizing g with
  | zero => rfl
  | succ k ih =>
    unfold considerPolls
    split
    · rfl
    · split
      · rw [ih, advance]
      · exact advance g

theorem chooseNext_outside (skipped : Byte → Bool) (g : Segment) : (chooseNext skipped g).outside = g.outside := by
  unfold chooseNext
  split
  · rfl
  · exact considerPolls_outside skipped _ g

theorem segmentChoose_outside (seg m : Nat) (s : State) :
    (segmentAt (segmentChoose seg s) m).outside = (segmentAt s m).outside := by
  unfold segmentChoose
  dsimp only
  split
  · rfl
  · rw [segmentAt_setSegmentAt]
    split
    · subst_vars; exact chooseNext_outside _ _
    · rfl

theorem handFrame_bellOutside (seg : Nat) (f : FieldFrame) {s : State} {m : Nat} (h : bellOutside s m = true) :
    bellOutside (handFrame seg f s) m = true := by
  have joined (g : Segment) : (joinQueue g f).outside = g.outside := by unfold joinQueue; split <;> rfl
  unfold handFrame
  dsimp only
  split
  · rw [bellOutside, segmentChoose_outside, segmentAt_setSegmentAt]
    split
    · subst_vars; rw [joined]; exact h
    · exact h
  · rw [bellOutside, segmentAt_setSegmentAt]
    split
    · subst_vars
      rw [List.any_append, show List.any _ _ = true from h, Bool.true_or]
    · exact h

theorem gateDayEnd_bellOutside {s : State} {m : Nat} (h : bellOutside s m = true) :
    bellOutside (gateDayEnd s) m = true := by
  have cancelled (l : List Nat) (s : State) (h : bellOutside s m = true) :
      bellOutside (eachGate cancelAtDayEnd l s) m = true := by
    induction l generalizing s with
    | nil => exact h
    | cons g gs ih =>
      refine ih _ ?_
      unfold cancelAtDayEnd
      split
      · exact h
      · exact handFrame_bellOutside (s := clearReferral g s) _ _ h
  have := cancelled (List.range 8) s h
  rw [bellOutside, segmentAt, gateDayEnd_line]
  exact this

theorem dayEndNotice_bellOutside {s : State} {m : Nat} (h : bellOutside s m = true) :
    bellOutside (dayEndNotice s) m = true := by
  have notices := messageDayEnd_work (registerDayEnd (gateDayEnd s))
  have segments : (dayEndNotice s).line.segments = (gateDayEnd s).line.segments := notices.segments
  have same : bellOutside (dayEndNotice s) m = bellOutside (gateDayEnd s) m := by
    rw [bellOutside, bellOutside, segmentAt, segmentAt, segments]
  rw [same]
  exact gateDayEnd_bellOutside h

/-! ### No offer to make -/

theorem tryOffers_idle {s : State} (h : s.msg.windowOpen = false ∨ s.msg.creditLimit = 0) : tryOffers s = s := by
  rcases h with h | h
  · exact tryOffers_closed h
  · rw [tryOffers, h]; rfl

/-! ### What events leave of the schedule -/

/-- The schedule without what events and swaps move. -/
def fixedSched (u : ScheduleUnit) : ScheduleUnit := { u with active := none, cursor := .absent, staged := none }

theorem takeEvent_sched (sounding : Bool) (e : Event) (s : State) : (takeEvent sounding e s).sched = s.sched := by
  have job (j : BellJob) (u : State) : (takeJob j u).sched = u.sched := congrArg (·.sched) (exceptBell_takeJob u j)
  have side (u : State) : (eventSide e.act u).sched = u.sched := (eventSide_work u e.act).sched
  unfold takeEvent
  split
  · exact side s
  · split
    · dsimp only
      split
      · exact (side _).trans (job _ _)
      · exact (job _ _).trans (side _)
    · exact (job _ _).trans (side s)

/-- A swap's closes touch the Register Unit and the report queue only (R38). -/
theorem exceptRegister_closeSessions (t : Nat) (l : List Session) (s : State) :
    exceptRegister (closeSessions t l s) = exceptRegister s := by
  induction l generalizing s with
  | nil => rfl
  | cons x xs ih =>
    refine (ih _).trans ?_
    split
    · exact exceptRegister_closeSession s x
    · rfl

theorem exceptRegister_closePeriods (t : Nat) (l : List Nat) (s : State) :
    exceptRegister (closePeriods t l s) = exceptRegister s := by
  induction l generalizing s with
  | nil => rfl
  | cons k ks ih =>
    refine (ih _).trans ?_
    split
    · exact exceptRegister_endPeriod s k
    · rfl

/-- A plan swapped in, before the closes of the swap. -/
def withPlan (p t : Nat) (s : State) : State :=
  s.modSched fun u => { u with active := some p, staged := none, cursor := seatCursor (tabGet [] u.plans p) t }

theorem exceptRegister_swapTo (p t : Nat) (s : State) :
    exceptRegister (swapTo p t s) = exceptRegister (withPlan p t s) := by
  unfold swapTo
  extract_lets u
  rw [exceptRegister_closePeriods, exceptRegister_closeSessions]
  rfl

section

variable {s t : State}

theorem sched_of_exceptRegister (h : exceptRegister t = exceptRegister s) : t.sched = s.sched := congrArg (·.sched) h

theorem roll_of_exceptRegister (h : exceptRegister t = exceptRegister s) : t.roll = s.roll := congrArg (·.roll) h

theorem gate_of_exceptRegister (h : exceptRegister t = exceptRegister s) : t.gate = s.gate := congrArg (·.gate) h

theorem msg_of_exceptRegister (h : exceptRegister t = exceptRegister s) : t.msg = s.msg := congrArg (·.msg) h

theorem bell_of_exceptRegister (h : exceptRegister t = exceptRegister s) : t.bell = s.bell := congrArg (·.bell) h

theorem segments_of_exceptRegister (h : exceptRegister t = exceptRegister s) : t.line.segments = s.line.segments :=
  congrArg (·.line.segments) h

theorem sameControl_of_exceptRegister (h : exceptRegister t = exceptRegister s) : sameControl s t :=
  sameControl_of_quiet (congrArg (·.office) h)

end

theorem swapTo_sched (p t : Nat) (s : State) : (swapTo p t s).sched = (withPlan p t s).sched :=
  sched_of_exceptRegister (exceptRegister_swapTo p t s)

theorem swapStaged_fixed (t : Nat) (s : State) : fixedSched (swapStaged t s).sched = fixedSched s.sched := by
  unfold swapStaged
  split
  · rfl
  · rw [swapTo_sched]; rfl

theorem takeNextEvent_fixed (sounding : Bool) (i : Nat) (e : Event) (s : State) :
    fixedSched (takeNextEvent sounding i e s).sched = fixedSched s.sched := by
  have taken : fixedSched ((takeEvent sounding e s).modSched fun u =>
      { u with cursor := cursorAfter (activeEvents s) i }).sched = fixedSched s.sched := by
    have := congrArg fixedSched (takeEvent_sched sounding e s)
    exact this
  unfold takeNextEvent
  dsimp only
  split
  · exact (swapStaged_fixed _ _).trans taken
  · exact taken

theorem runEvents_fixed (sounding : Bool) (t1 : Option Nat) (t2 fuel : Nat) (s : State) :
    fixedSched (runEvents sounding t1 t2 fuel s).sched = fixedSched s.sched := by
  induction fuel generalizing s with
  | zero => rfl
  | succ k ih =>
    unfold runEvents
    split
    · rfl
    · dsimp only
      split
      · rfl
      · cases t1 with
        | none => exact (ih _).trans (takeNextEvent_fixed ..)
        | some t =>
          dsimp only
          split
          · exact (ih _).trans (takeNextEvent_fixed ..)
          · exact (ih _).trans rfl

theorem tickEvents_fixed (s : State) : fixedSched (tickEvents s).sched
    = fixedSched { s.sched with lastSecond := s.sched.second, lastDay := s.sched.day } := by
  have run := runEvents_fixed true none s.sched.second 65 s
  have edge : fixedSched (swapAtEdge (runEvents true none s.sched.second 65 s)).sched = fixedSched s.sched := by
    unfold swapAtEdge
    split
    · exact (swapStaged_fixed _ _).trans run
    · exact run
  have := congrArg (fun u : ScheduleUnit => { u with lastSecond := s.sched.second, lastDay := u.day }) edge
  exact this

/-- No event is taken, and no plan swapped in, when none lies at the cursor. -/
theorem runEvents_none (sounding : Bool) {s : State} {t2 : Nat}
    (h : ∀ i e, nextEvent s = some (i, e) → t2 < e.time) (fuel : Nat) : runEvents sounding none t2 fuel s = s := by
  cases fuel with
  | zero => rfl
  | succ k =>
    unfold runEvents
    split
    · rfl
    · rename_i i e hn
      exact if_pos (h i e hn)

theorem nextEvent_eq_some {s : State} {i : Nat} {e : Event} :
    nextEvent s = some (i, e) ↔ s.sched.cursor = .next i ∧ (activeEvents s)[i]? = some e := by
  unfold nextEvent
  cases s.sched.cursor with
  | next j =>
    simp only [Option.map_eq_some_iff, Prod.mk.injEq, Cursor.next.injEq]
    constructor
    · rintro ⟨f, here, rfl, rfl⟩; exact ⟨rfl, here⟩
    · rintro ⟨rfl, here⟩; exact ⟨e, here, rfl, rfl⟩
  | past => simp
  | absent => simp

theorem tickEvents_none {s : State} (h : ∀ i e, nextEvent s = some (i, e) → s.sched.second < e.time)
    (edge : s.sched.staged = none ∨ s.sched.cursor = .absent) : tickEvents s = setProcessed s.sched.second s := by
  rw [tickEvents, runEvents_none true h]
  rcases edge with edge | edge
  · rw [swapAtEdge_none edge]
  · rw [swapAtEdge, edge]; rfl

end Sys2Proof.Machine
end

section
/-! PROOFS. A seconds tick without an event (R28 to R30, R39): the clock, the wrap at midnight with its trigger, and a
tick in which the timers alone count. -/

namespace Sys2Proof.Machine

open Sys2Proof

/-! ### The clock (R28, R29) -/

section

variable {u : ScheduleUnit}

theorem advanceClock_second (set : u.clock = .set) (h : u.second < 86399) :
    advanceClock u = ({ u with second := u.second + 1 }, false) := by
  have hs : u.second < Config.lastSecond := h
  simp [advanceClock, set, hs]

theorem advanceClock_wraps (set : u.clock = .set) (h : 86399 ≤ u.second) (day : u.day < 366) :
    advanceClock u = ({ u with second := 0, day := u.day + 1 }, true) := by
  have hs : ¬u.second < Config.lastSecond := by show ¬_ < 86399; omega
  have hd : u.day < Config.outOfYear := day
  simp [advanceClock, set, hs, hd]

theorem advanceClock_stays (set : u.clock = .set) (h : 86399 ≤ u.second) (day : 366 ≤ u.day) :
    advanceClock u = ({ u with second := 0 }, false) := by
  have hs : ¬u.second < Config.lastSecond := by show ¬_ < 86399; omega
  have hd : ¬u.day < Config.outOfYear := by show ¬_ < 366; omega
  simp [advanceClock, set, hs, hd]

end

/-- A state with another schedule. -/
def withSched (sched : ScheduleUnit) (s : State) : State := { s with sched := sched }

theorem tickClock_unset {s : State} (h : s.sched.clock = .unset) : tickClock s = s := if_pos h

/-- The clock moves without a wrap, and the events whose time has come are taken. -/
theorem tickClock_moves {s : State} {v : ScheduleUnit} (set : s.sched.clock = .set)
    (h : advanceClock s.sched = (v, false)) : tickClock s = tickEvents (withSched v s) := by
  have only : tickClockOnly s = withSched v s := by
    show withSched (advanceClock s.sched).1 s = _
    rw [h]
  unfold tickClock
  rw [if_neg (by rw [set]; decide)]
  dsimp only
  rw [h, only]
  rfl

theorem tickClock_wraps {s : State} {v : ScheduleUnit} (set : s.sched.clock = .set)
    (h : advanceClock s.sched = (v, true)) : tickClock s = tickEvents (rolloverTrigger v.day (withSched v s)) := by
  have only : tickClockOnly s = withSched v s := by
    show withSched (advanceClock s.sched).1 s = _
    rw [h]
  unfold tickClock
  rw [if_neg (by rw [set]; decide)]
  dsimp only
  rw [h, only]
  rfl

/-! ### The wrap at midnight (R39) -/

/-- The schedule after a rollover trigger (R39). -/
def dayOver (day : Nat) (u : ScheduleUnit) : ScheduleUnit :=
  { u with active := none, cursor := .absent, staged := none, state := .ending, outstanding := u.outstanding + 1
           lastDay := day }

theorem rolloverTrigger_eq (day : Nat) (s : State) :
    rolloverTrigger day s = passTrigger day (withSched (dayOver day s.sched) s) := rfl

theorem passTrigger_sched (day : Nat) (s : State) : (passTrigger day s).sched = s.sched := by
  unfold passTrigger
  split
  · unfold startSettlement; exact (dayEndNotice_ends _).sched
  · rfl

theorem rolloverTrigger_sched (day : Nat) (s : State) : (rolloverTrigger day s).sched = dayOver day s.sched :=
  passTrigger_sched day _

/-- After a wrap no plan is active, so that no event is taken. -/
theorem tickEvents_rollover (day : Nat) (s : State) :
    tickEvents (rolloverTrigger day s) = setProcessed s.sched.second (rolloverTrigger day s) := by
  have sched := rolloverTrigger_sched day s
  have absent : (rolloverTrigger day s).sched.cursor = .absent := by rw [sched]; rfl
  have second : (rolloverTrigger day s).sched.second = s.sched.second := by rw [sched]; rfl
  rw [tickEvents_none (fun i e h => ?_) (.inr absent), second]
  rw [(nextEvent_eq_some.mp h).1] at absent
  cases absent

/-! ### The whole tick's schedule -/

theorem exec_secondsTick {s : State} (on : s.office.powered = true) : exec .secondsTick s = .next (takeTick s) := by
  show Host.Outcome.next (if s.office.powered then takeTick s else tickClockOnly s) = _
  rw [if_pos on]

/-- A tick after its timers have counted: the clock, the Bell Sequencer and the offers. -/
def afterTimers (s : State) : State := tryOffers (bellRun (tickClock s))

theorem takeTick_afterTimers (s : State) : takeTick s = afterTimers (tickTimers (takeExpiries s)) := rfl

theorem afterTimers_sched (s : State) : (afterTimers s).sched = (tickClock s).sched :=
  (tryOffers_work _).sched.trans (congrArg (·.sched) (exceptBell_bellRun _))

theorem takeExpiries_sched (s : State) : (takeExpiries s).sched = s.sched := by
  have gates := exceptGates_eachGate s (fun g s => exceptGates_takeReferralExpiry s g) (List.range 8)
  exact (takeTimeouts_work _ _).sched.trans (sched_of_exceptGates gates)

theorem ticked_sched (s : State) : (tickTimers (takeExpiries s)).sched = s.sched :=
  (tickTimers_counts _).sched.trans (takeExpiries_sched s)

/-- The schedule after a tick of a SET clock without a wrap. -/
theorem afterTimers_fixed {s : State} {v : ScheduleUnit} (set : s.sched.clock = .set)
    (h : advanceClock s.sched = (v, false)) :
    fixedSched (afterTimers s).sched = fixedSched { v with lastSecond := v.second, lastDay := v.day } := by
  rw [afterTimers_sched, tickClock_moves set h]
  exact tickEvents_fixed _

theorem setProcessed_sched (t : Nat) (s : State) :
    (setProcessed t s).sched = { s.sched with lastSecond := t, lastDay := s.sched.day } := rfl

/-- The schedule after a wrap. -/
theorem afterTimers_wraps {s : State} {v : ScheduleUnit} (set : s.sched.clock = .set)
    (h : advanceClock s.sched = (v, true)) :
    (afterTimers s).sched = { dayOver v.day v with lastSecond := v.second, lastDay := v.day } := by
  rw [afterTimers_sched, tickClock_wraps set h, tickEvents_rollover, setProcessed_sched, rolloverTrigger_sched]
  rfl

theorem calendarPlan_outOfYear (s : State) : calendarPlan s 366 = none := rfl

/-! ### A tick in which the timers alone count -/

/-- What a tick finds when nothing but its timers can move. -/
structure Quiet (s : State) : Prop where
  waits : bellWaits s
  offers : s.msg.windowOpen = false ∨ s.msg.creditLimit = 0

/-- The end of a tick moves nothing, when the Bell Sequencer and the offers have nothing new to go by. -/
theorem tickEnd_id {t : State} (waits : bellStep t = none) (offers : t.msg.windowOpen = false ∨ t.msg.creditLimit = 0) :
    tryOffers (bellRun t) = t := by
  rw [bellRun_waits waits, tryOffers_idle offers]

theorem takeTick_runs {s : State} (runs : timersRun s) : takeTick s = afterTimers (tickTimers s) := by
  rw [takeTick_afterTimers, takeExpiries_id runs]

theorem activeEvents_of_sched {s t : State} (active : t.sched.active = s.sched.active)
    (plans : t.sched.plans = s.sched.plans) : activeEvents t = activeEvents s := by
  simp only [activeEvents, planAt, active, plans]

section

variable {s t u : State}

theorem TimersCount.waits (h : TimersCount s t) (waits : bellStep s = none)
    (current : u.bell.current = t.bell.current) (waiting : s.bell.current = none → u.bell.waiting = t.bell.waiting)
    (outside : ∀ seg, bellOutside t seg = true → bellOutside u seg = true) : bellStep u = none := by
  have current' : t.bell.current = s.bell.current := congrArg (·.current) h.bell
  have waiting' : t.bell.waiting = s.bell.waiting := congrArg (·.waiting) h.bell
  refine bellStep_none waits (current.trans current') (fun hc => (waiting hc).trans waiting')
    fun seg ho => outside seg ?_
  rw [bellOutside, segmentAt, h.line]; exact ho

theorem TimersCount.offers (h : TimersCount s t) (offers : s.msg.windowOpen = false ∨ s.msg.creditLimit = 0) :
    t.msg.windowOpen = false ∨ t.msg.creditLimit = 0 := by
  have window : t.msg.windowOpen = s.msg.windowOpen := congrArg (·.windowOpen) h.msg
  have limit : t.msg.creditLimit = s.msg.creditLimit := congrArg (·.creditLimit) h.msg
  rw [window, limit]; exact offers

/-- A tick whose clock's part writes the schedule and the roll at most is one in which the timers alone count. -/
theorem TimersCount.quiet (h : TimersCount s t) (quiet : Quiet s) {sched : ScheduleUnit} {roll : RollStore}
    (clock : tickClock t = { t with sched := sched, roll := roll }) :
    onlyTimersCount sched { s with roll := roll } (afterTimers t) := by
  have same : afterTimers t = { t with sched := sched, roll := roll } := by
    rw [afterTimers, clock]
    exact tickEnd_id (h.waits quiet.waits rfl (fun _ => rfl) fun _ => id) (h.offers quiet.offers)
  rw [same]
  exact h.only sched roll

theorem TimersCount.unset (h : TimersCount s t) (quiet : Quiet s) (unset : s.sched.clock = .unset) :
    onlyTimersCount s.sched s (afterTimers t) := by
  have sched := h.sched
  have roll := h.roll
  refine h.quiet (roll := s.roll) quiet ?_
  rw [tickClock_unset (by rw [sched]; exact unset), ← sched, ← roll]

/-- A tick of a SET clock that finds no event to take. -/
theorem TimersCount.noEvent (h : TimersCount s t) (quiet : Quiet s) (set : s.sched.clock = .set) {second : Nat}
    (moves : advanceClock s.sched = ({ s.sched with second := second }, false)) (none : Machine.noEvent s second) :
    onlyTimersCount { s.sched with second := second, lastSecond := second, lastDay := s.sched.day } s
      (afterTimers t) := by
  obtain ⟨unstaged, later⟩ := none
  have sched := h.sched
  have roll := h.roll
  have events : activeEvents (withSched { s.sched with second := second } t) = activeEvents s :=
    activeEvents_of_sched rfl rfl
  refine h.quiet (roll := s.roll) quiet ?_
  rw [tickClock_moves (by rw [sched]; exact set) (by rw [sched]; exact moves),
    tickEvents_none (s := withSched { s.sched with second := second } t) (fun i e hn => ?_) (.inl unstaged)]
  · rw [← roll]; rfl
  · obtain ⟨cursor, here⟩ := nextEvent_eq_some.mp hn
    exact later i e cursor (events ▸ here)

/-- The schedule after a midnight tick. -/
def midnight (u : ScheduleUnit) : ScheduleUnit :=
  { u with
    second := 0, day := u.day + 1, active := none, cursor := .absent, staged := none, state := .ending
    outstanding := u.outstanding + 1, lastSecond := 0, lastDay := u.day + 1 }

/-- The state a midnight trigger finds, with the last processed time still to be written. -/
def dayTurned (u : ScheduleUnit) (s : State) : State :=
  withSched (dayOver (u.day + 1) { u with second := 0, day := u.day + 1 }) s

theorem tickClock_midnight (sched : t.sched = s.sched) (set : s.sched.clock = .set) (late : 86399 ≤ s.sched.second)
    (day : s.sched.day < 366) :
    tickClock t = setProcessed 0 (passTrigger (s.sched.day + 1) (dayTurned s.sched t)) := by
  rw [tickClock_wraps (by rw [sched]; exact set) (by rw [sched]; exact advanceClock_wraps set late day),
    tickEvents_rollover, rolloverTrigger_eq]
  rfl

/-- At midnight with the settlement held, the timers alone count. -/
theorem TimersCount.held (h : TimersCount s t) (quiet : Quiet s) (set : s.sched.clock = .set)
    (late : 86399 ≤ s.sched.second) (day : s.sched.day < 366)
    (held : s.roll.rollState ≠ .normal ∨ s.roll.heldTriggers ≠ [] ∨ s.reg.walks ≠ []) :
    onlyTimersCount (midnight s.sched)
      { s with roll := { s.roll with heldTriggers := s.roll.heldTriggers ++ [s.sched.day + 1] } } (afterTimers t) := by
  have roll := h.roll
  have reg := h.reg
  have holds : ¬(maySettle (dayTurned s.sched t) && (dayTurned s.sched t).roll.heldTriggers.isEmpty) = true := by
    show ¬(maySettle t && t.roll.heldTriggers.isEmpty) = true
    simp only [maySettle, rollingOver, walkRunning, roll, reg]
    intro free
    simp only [Bool.and_eq_true, Bool.not_eq_true', bne_eq_false_iff_eq, Bool.not_eq_false', List.isEmpty_iff] at free
    tauto
  refine h.quiet quiet ?_
  rw [tickClock_midnight h.sched set late day, passTrigger, if_neg holds, ← roll]
  rfl

/-- At midnight with nothing to hold it, the settlement starts at once, with the day-end notice. -/
theorem TimersCount.settles (h : TimersCount s t) (quiet : Quiet s) (set : s.sched.clock = .set)
    (late : 86399 ≤ s.sched.second) (day : s.sched.day < 366) (normal : s.roll.rollState = .normal)
    (triggers : s.roll.heldTriggers = []) (walks : s.reg.walks = []) :
    soundingsFall s (afterTimers t) ∧ (afterTimers t).sched = midnight s.sched
      ∧ (afterTimers t).roll = { s.roll with rollState := .rollover (s.sched.day + 1), cursor := 0 }
      ∧ ∀ g, g < 8 → gateAt (afterTimers t) g = { mode := (gateAt s g).mode, memory := none, referral := none } := by
  have roll := h.roll
  have reg := h.reg
  let start := (dayTurned s.sched t).modRoll fun u =>
    { u with rollState := .rollover (s.sched.day + 1), cursor := 0 }
  have may : (maySettle (dayTurned s.sched t) && (dayTurned s.sched t).roll.heldTriggers.isEmpty) = true := by
    show (maySettle t && t.roll.heldTriggers.isEmpty) = true
    simp [maySettle, rollingOver, walkRunning, roll, reg, normal, triggers, walks]
  obtain ⟨w, settles⟩ : ∃ w, startSettlement (s.sched.day + 1) (dayTurned s.sched t) = w := ⟨_, rfl⟩
  have ended : DayEnded start w := settles ▸ dayEndNotice_ends start
  have outside (m : Nat) (ho : bellOutside start m = true) : bellOutside w m = true :=
    settles ▸ dayEndNotice_bellOutside ho
  have bell : w.bell = t.bell := ended.bell
  have same : afterTimers t = setProcessed 0 w := by
    rw [afterTimers, tickClock_midnight h.sched set late day, passTrigger, if_pos may, settles]
    exact tickEnd_id (h.waits quiet.waits (congrArg (·.current) bell) (fun _ => congrArg (·.waiting) bell) outside)
      (.inl ended.msg.2.1)
  have sched : w.sched = start.sched := ended.sched
  rw [same, setProcessed_sched, sched]
  refine ⟨fun z hz => ?_, rfl, ?_, fun g hg => ?_⟩
  · have sounding : soundingAt w z = soundingAt t z := by rw [soundingAt, bell]; rfl
    exact sounding.trans (h.soundings z hz)
  · refine ended.roll.trans ?_
    rw [← roll]; rfl
  · have mode : (gateAt start g).mode = (gateAt s g).mode := congrArg (·.mode) (h.gates g hg)
    rw [← mode]
    exact ended.gates g hg

end

end Sys2Proof.Machine
end

section
/-! PROOFS. The side effect of an event, item by item (Table 2 of Chapter 2, R66, R92, R94, R100, R127), and the closes
of a swap (R38, R106). -/

namespace Sys2Proof.Machine

open Sys2Proof

/-! ### Register windows opened and closed -/

/-- The alerts of a session's close: one for each group whose register was not taken (R100). -/
theorem notTakenAlerts_reports (x : Session) (l : List Nat) (s : State) (number : s.office.reportNumber ≤ 65535) :
    (notTakenAlerts x l s).office.reportNumber
      = (s.office.reportNumber + l.countP fun g => (formAt s x g).expected != 0 && !(formAt s x g).taken) % 65536 := by
  induction l generalizing s with
  | nil => simp [notTakenAlerts]; omega
  | cons g gs ih =>
    rw [notTakenAlerts, List.countP_cons]
    split
    · rename_i untaken
      have bound : (alert (.registerNotTaken x g) s).office.reportNumber ≤ 65535 := by
        rw [alert, offerReport_reportNumber]; omega
      have forms (k : Nat) : formAt (alert (.registerNotTaken x g) s) x k = formAt s x k := by
        rw [formAt, alert, offerReport_reg]; rfl
      have one : ((formAt s x g).expected != 0 && !(formAt s x g).taken) = true := by simp [untaken]
      have number' : (alert (.registerNotTaken x g) s).office.reportNumber = (s.office.reportNumber + 1) % 65536 :=
        offerReport_reportNumber _ s
      rw [ih _ bound, number', one]
      simp only [forms, if_true, Nat.mod_add_mod]
      congr 1
      omega
    · rename_i taken
      have none : ((formAt s x g).expected != 0 && !(formAt s x g).taken) = false := by
        simpa [Classical.or_iff_not_imp_left] using taken
      rw [ih _ number, none]
      rfl

theorem notTakenAlerts_reg (x : Session) (l : List Nat) (s : State) : (notTakenAlerts x l s).reg = s.reg := by
  induction l generalizing s with
  | nil => rfl
  | cons g gs ih =>
    refine (ih _).trans ?_
    split
    · rw [alert, offerReport_reg]
    · rfl

theorem addWalk_reg (k : WalkKind) (s : State) :
    (addWalk k s).reg = { s.reg with walks := s.reg.walks ++ [⟨k, 0⟩] } := rfl

/-- The form windows of a session, closed. -/
def formClosed (x : Session) (u : RegisterUnit) : RegisterUnit :=
  { u with form := u.form.set x { u.form.get x with state := .closed } }

/-- A close of OPEN form windows, with its alerts and its walk (R100, R103). -/
theorem closeSession_opened {x : Session} {s : State} (h : formState s x = .opened) :
    (closeSession x s).reg
      = { formClosed x s.reg with walks := s.reg.walks ++ [⟨.close x (lookupTime s (.sessionStart x)), 0⟩] }
    ∧ (s.office.reportNumber ≤ 65535 →
      (closeSession x s).office.reportNumber = (s.office.reportNumber + notTakenGroups s x) % 65536) := by
  have closed : closeSession x s = addWalk (.close x (lookupTime (notTakenAlerts x (List.range 128)
      (s.modReg (formClosed x))) (.sessionStart x))) (notTakenAlerts x (List.range 128) (s.modReg (formClosed x))) := by
    simp only [closeSession, h]
    rfl
  have sched := sched_of_exceptRegister (exceptRegister_notTakenAlerts (s.modReg (formClosed x)) x (List.range 128))
  have time : lookupTime (notTakenAlerts x (List.range 128) (s.modReg (formClosed x))) (.sessionStart x)
      = lookupTime s (.sessionStart x) := by
    simp only [lookupTime, activeEvents, planAt, sched]
    rfl
  have reg := notTakenAlerts_reg x (List.range 128) (s.modReg (formClosed x))
  have groups (g : Nat) : formAt (s.modReg (formClosed x)) x g = formAt s x g := by
    simp [formAt, formClosed]
  rw [closed, time]
  refine ⟨?_, fun number => ?_⟩
  · rw [addWalk_reg, reg]
    rfl
  · have reports := notTakenAlerts_reports x (List.range 128) (s.modReg (formClosed x)) number
    simp only [groups] at reports
    exact reports

theorem closeSession_stands {x : Session} {s : State} (h : formState s x ≠ .opened) : closeSession x s = s := by
  unfold closeSession
  cases hf : formState s x with
  | opened => exact absurd hf h
  | notOpened => rfl
  | closed => rfl

theorem endPeriod_opened {k : Nat} {s : State} (h : lessonAt s k = .opened) :
    endPeriod k s = s.modReg fun u =>
      { u with lessons := tabSet .notOpened k .closed u.lessons, walks := u.walks ++ [⟨.periodEnd k, 0⟩] } := by
  simp only [endPeriod, h]
  rfl

theorem endPeriod_stands {k : Nat} {s : State} (h : lessonAt s k ≠ .opened) : endPeriod k s = s := by
  unfold endPeriod
  cases hf : lessonAt s k with
  | opened => exact absurd hf h
  | notOpened => rfl
  | closed => rfl

theorem startPeriod_notOpened {k : Nat} {s : State} (h : lessonAt s k = .notOpened) :
    startPeriod k s = setLessonAt k .opened s := by
  simp only [startPeriod, h]

theorem startPeriod_stands {k : Nat} {s : State} (h : lessonAt s k ≠ .notOpened) : startPeriod k s = s := by
  unfold startPeriod
  cases hf : lessonAt s k with
  | notOpened => exact absurd hf h
  | opened => rfl
  | closed => rfl

/-- The form windows of a session, opened with their counts (R92). -/
def formOpened (x : Session) (s : State) : FormSession :=
  ⟨.opened, tabulate coldForm 128 fun g => openedForm (expectedCount s x g)⟩

theorem openSession_notOpened {x : Session} {s : State} (h : formState s x = .notOpened) :
    openSession x s = (s.modReg fun u => { u with form := u.form.set x (formOpened x s) }).modRoll
      fun u => { u with roll := u.roll.map fun p => (p.1, clearRegistered x p.2) } := by
  simp only [openSession, h]
  rfl

theorem openSession_stands {x : Session} {s : State} (h : formState s x ≠ .notOpened) : openSession x s = s := by
  unfold openSession
  cases hf : formState s x with
  | notOpened => exact absurd hf h
  | opened => rfl
  | closed => rfl

/-! ### What each event does to the Register Unit -/

/-- The Register Unit after an event (R92, R94, R100). -/
def eventRegister (a : EventAct) (s : State) : RegisterUnit :=
  match a with
  | .sessionOpen x =>
    if formState s x = .notOpened then { s.reg with form := s.reg.form.set x (formOpened x s) } else s.reg
  | .sessionClose x =>
    if formState s x = .opened then
      { formClosed x s.reg with walks := s.reg.walks ++ [⟨.close x (lookupTime s (.sessionStart x)), 0⟩] }
    else s.reg
  | .periodStart k =>
    if lessonAt s k = .notOpened then { s.reg with lessons := tabSet .notOpened k .opened s.reg.lessons } else s.reg
  | .periodEnd k =>
    if lessonAt s k = .opened then
      { s.reg with lessons := tabSet .notOpened k .closed s.reg.lessons, walks := s.reg.walks ++ [⟨.periodEnd k, 0⟩] }
    else s.reg
  | .bell => s.reg
  | .sessionStart _ => s.reg
  | .gateMode _ _ => s.reg
  | .noticeWindowOpen => s.reg
  | .noticeWindowClose => s.reg

theorem eventSide_reg (a : EventAct) (s : State) : (eventSide a s).reg = eventRegister a s := by
  cases a with
  | bell => rfl
  | sessionStart y => rfl
  | gateMode m g => exact congrArg (·.reg) (setModes_rest s m g (List.range 8))
  | noticeWindowOpen => exact (openNoticeWindow_work s).reg
  | noticeWindowClose => exact (closeNoticeWindow_work s).reg
  | periodStart k =>
    by_cases h : lessonAt s k = .notOpened
    · exact (congrArg (·.reg) (startPeriod_notOpened h)).trans (if_pos h).symm
    · exact (congrArg (·.reg) (startPeriod_stands h)).trans (if_neg h).symm
  | periodEnd k =>
    by_cases h : lessonAt s k = .opened
    · exact (congrArg (·.reg) (endPeriod_opened h)).trans (if_pos h).symm
    · exact (congrArg (·.reg) (endPeriod_stands h)).trans (if_neg h).symm
  | sessionOpen x =>
    by_cases h : formState s x = .notOpened
    · exact (congrArg (·.reg) (openSession_notOpened h)).trans (if_pos h).symm
    · exact (congrArg (·.reg) (openSession_stands h)).trans (if_neg h).symm
  | sessionClose x =>
    by_cases h : formState s x = .opened
    · exact (closeSession_opened h).1.trans (if_pos h).symm
    · exact (congrArg (·.reg) (closeSession_stands h)).trans (if_neg h).symm

theorem eventRegister_form {a : EventAct} {s : State} {x : Session}
    (opens : ¬(a = .sessionOpen x ∧ formState s x = .notOpened))
    (closes : ¬(a = .sessionClose x ∧ formState s x = .opened)) :
    (eventRegister a s).form.get x = s.reg.form.get x := by
  cases a with
  | bell => rfl
  | sessionStart y => rfl
  | gateMode m g => rfl
  | noticeWindowOpen => rfl
  | noticeWindowClose => rfl
  | periodStart k => unfold eventRegister; dsimp only; split <;> rfl
  | periodEnd k => unfold eventRegister; dsimp only; split <;> rfl
  | sessionOpen y =>
    unfold eventRegister
    dsimp only
    split
    · rename_i h
      rw [AmPm_get_set, if_neg fun e => opens ⟨by rw [e], by rw [e]; exact h⟩]
    · rfl
  | sessionClose y =>
    unfold eventRegister
    dsimp only
    split
    · rename_i h
      exact (AmPm_get_set ..).trans (if_neg fun e => closes ⟨by rw [e], by rw [e]; exact h⟩)
    · rfl

/-- The form windows after an event (R92, R100). -/
theorem eventSide_forms (a : EventAct) (s : State) (x : Session) :
    formState (eventSide a s) x = (if a = .sessionOpen x ∧ formState s x = .notOpened then .opened
      else if a = .sessionClose x ∧ formState s x = .opened then .closed else formState s x)
    ∧ ∀ g, g < 128 → formAt (eventSide a s) x g =
      if a = .sessionOpen x ∧ formState s x = .notOpened then openedForm (expectedCount s x g) else formAt s x g := by
  by_cases opens : a = .sessionOpen x ∧ formState s x = .notOpened
  · obtain ⟨rfl, h⟩ := opens
    have form : (eventSide (.sessionOpen x) s).reg.form.get x = formOpened x s := by
      rw [eventSide_reg]
      show (if _ then _ else _ : RegisterUnit).form.get x = _
      rw [if_pos h, AmPm_get_set, if_pos rfl]
    rw [if_pos ⟨rfl, h⟩, formState, form]
    refine ⟨rfl, fun g hg => ?_⟩
    rw [if_pos ⟨rfl, h⟩, formAt, form]
    exact (tabGet_tabulate ..).trans (if_pos hg)
  · by_cases closes : a = .sessionClose x ∧ formState s x = .opened
    · obtain ⟨rfl, h⟩ := closes
      have form : (eventSide (.sessionClose x) s).reg.form.get x = { s.reg.form.get x with state := .closed } := by
        rw [eventSide_reg]
        show (if _ then _ else _ : RegisterUnit).form.get x = _
        rw [if_pos h]
        exact (AmPm_get_set ..).trans (if_pos rfl)
      rw [if_neg opens, if_pos ⟨rfl, h⟩, formState, form]
      refine ⟨rfl, fun g _ => ?_⟩
      rw [if_neg opens, formAt, form]
      rfl
    · have form : (eventSide a s).reg.form.get x = s.reg.form.get x := by
        rw [eventSide_reg]; exact eventRegister_form opens closes
      rw [if_neg opens, if_neg closes, formState, form]
      refine ⟨rfl, fun g _ => ?_⟩
      rw [if_neg opens, formAt, form]
      rfl

/-- The lesson windows after an event (R94). -/
theorem eventSide_lessons (a : EventAct) (s : State) (k : Nat) : lessonAt (eventSide a s) k =
    if a = .periodStart k ∧ lessonAt s k = .notOpened then .opened
    else if a = .periodEnd k ∧ lessonAt s k = .opened then .closed else lessonAt s k := by
  rw [lessonAt, eventSide_reg]
  cases a with
  | bell => simp [eventRegister, lessonAt]
  | sessionStart y => simp [eventRegister, lessonAt]
  | gateMode m g => simp [eventRegister, lessonAt]
  | noticeWindowOpen => simp [eventRegister, lessonAt]
  | noticeWindowClose => simp [eventRegister, lessonAt]
  | sessionOpen y => unfold eventRegister; dsimp only; split <;> simp [lessonAt]
  | sessionClose y => unfold eventRegister; dsimp only; split <;> simp [lessonAt, formClosed]
  | periodStart j =>
    unfold eventRegister
    dsimp only
    by_cases hj : j = k
    · subst hj
      by_cases h : lessonAt s j = .notOpened
      · simp [h, tabGet_tabSet]
      · simp only [h, if_false, and_false, reduceCtorEq, false_and]
        rfl
    · split <;> simp [hj, Ne.symm hj, tabGet_tabSet, lessonAt]
  | periodEnd j =>
    unfold eventRegister
    dsimp only
    by_cases hj : j = k
    · subst hj
      by_cases h : lessonAt s j = .opened
      · simp [h, tabGet_tabSet]
      · simp only [h, if_false, and_false, reduceCtorEq, false_and]
        rfl
    · split <;> simp [hj, Ne.symm hj, tabGet_tabSet, lessonAt]

/-- The rooms stand, and the walks are those the event adds (R103). -/
theorem eventSide_walks (a : EventAct) (s : State) :
    (eventSide a s).reg.rooms = s.reg.rooms ∧ (eventSide a s).reg.walks = s.reg.walks ++ eventWalks a s := by
  rw [eventSide_reg]
  cases a with
  | bell => simp [eventRegister, eventWalks]
  | sessionStart y => simp [eventRegister, eventWalks]
  | gateMode m g => simp [eventRegister, eventWalks]
  | noticeWindowOpen => simp [eventRegister, eventWalks]
  | noticeWindowClose => simp [eventRegister, eventWalks]
  | sessionOpen y => unfold eventRegister; dsimp only; split <;> simp [eventWalks]
  | periodStart j => unfold eventRegister; dsimp only; split <;> simp [eventWalks]
  | sessionClose y =>
    unfold eventRegister eventWalks
    dsimp only
    split
    · exact ⟨rfl, rfl⟩
    · simp
  | periodEnd j =>
    unfold eventRegister eventWalks
    dsimp only
    split
    · exact ⟨rfl, rfl⟩
    · simp

/-! ### The roll and the reports -/

/-- The register-marked states after an event (R92). -/
theorem eventSide_registered (a : EventAct) (s : State) (x : Session) (k : Nat) :
    (entryAt (eventSide a s) k).map (fun e => e.day.registerMarked.get x) = (entryAt s k).map fun e =>
      if (a = .sessionOpen x ∧ formState s x = .notOpened) ∧ (e.day.marks.get x).code ≠ .notRequired then false
      else e.day.registerMarked.get x := by
  have stands (roll : (eventSide a s).roll = s.roll) (opens : ¬(a = .sessionOpen x ∧ formState s x = .notOpened)) :
      (entryAt (eventSide a s) k).map (fun e => e.day.registerMarked.get x) = (entryAt s k).map fun e =>
        if (a = .sessionOpen x ∧ formState s x = .notOpened) ∧ (e.day.marks.get x).code ≠ .notRequired then false
        else e.day.registerMarked.get x := by
    simp only [opens, false_and, if_false, entryAt, roll]
  cases a with
  | bell => exact stands rfl (by simp)
  | sessionStart y => exact stands rfl (by simp)
  | gateMode m g => exact stands (congrArg (·.roll) (setModes_rest s m g (List.range 8))) (by simp)
  | noticeWindowOpen => exact stands (walkRequest_roll _) (by simp)
  | noticeWindowClose => exact stands (by simp only [eventSide, closeNoticeWindow]; split <;> rfl) (by simp)
  | periodStart j => exact stands (roll_of_exceptRegister (exceptRegister_startPeriod s j)) (by simp)
  | periodEnd j => exact stands (roll_of_exceptRegister (exceptRegister_endPeriod s j)) (by simp)
  | sessionClose y => exact stands (roll_of_exceptRegister (exceptRegister_closeSession s y)) (by simp)
  | sessionOpen y =>
    by_cases h : formState s y = .notOpened
    · have entry : entryAt (eventSide (.sessionOpen y) s) k = (entryAt s k).map (clearRegistered y) := by
        rw [show eventSide (.sessionOpen y) s = _ from openSession_notOpened h]
        exact tabFind_map (clearRegistered y) k
      rw [entry, Option.map_map]
      congr 1
      funext e
      simp only [Function.comp_apply, clearRegistered, expectedIn, bne_iff_ne, EventAct.sessionOpen.injEq]
      by_cases hy : y = x
      · subst hy
        simp only [h, and_self, true_and]
        split
        · simp
        · rfl
      · simp only [hy, false_and, if_false]
        split
        · simp [Ne.symm hy]
        · rfl
    · exact stands (congrArg (·.roll) (openSession_stands h)) fun hx => h (by
        rw [EventAct.sessionOpen.injEq] at hx; rw [hx.1]; exact hx.2)

/-- The reports an event makes (R100). -/
theorem eventSide_reports (a : EventAct) (s : State) (number : s.office.reportNumber ≤ 65535) :
    (∀ x, a = .sessionClose x ∧ formState s x = .opened →
      (eventSide a s).office.reportNumber = (s.office.reportNumber + notTakenGroups s x) % 65536)
    ∧ ((∀ x, a = .sessionClose x → formState s x ≠ .opened) →
      (eventSide a s).office.reportNumber = s.office.reportNumber) := by
  refine ⟨fun x ⟨ha, h⟩ => ?_, fun none => ?_⟩
  · subst ha
    exact (closeSession_opened h).2 number
  · cases a with
    | bell => rfl
    | sessionStart y => rfl
    | gateMode m g => exact congrArg (·.office.reportNumber) (setModes_rest s m g (List.range 8))
    | noticeWindowOpen =>
      exact congrArg (·.office.reportNumber)
        (exceptWalk_walkRequest (s.modMsg fun m => { m with windowOpen := true }))
    | noticeWindowClose => simp only [eventSide, closeNoticeWindow]; split <;> rfl
    | sessionOpen y =>
      by_cases h : formState s y = .notOpened
      · exact congrArg (·.office.reportNumber) (openSession_notOpened h)
      · exact congrArg (·.office.reportNumber) (openSession_stands h)
    | periodStart j =>
      by_cases h : lessonAt s j = .notOpened
      · exact congrArg (·.office.reportNumber) (startPeriod_notOpened h)
      · exact congrArg (·.office.reportNumber) (startPeriod_stands h)
    | periodEnd j =>
      by_cases h : lessonAt s j = .opened
      · exact congrArg (·.office.reportNumber) (endPeriod_opened h)
      · exact congrArg (·.office.reportNumber) (endPeriod_stands h)
    | sessionClose y => exact congrArg (·.office.reportNumber) (closeSession_stands (none y rfl))

/-! ### Gates -/

/-- A gate given a mode: one it already has leaves it as it is (R66). -/
def givenMode (mode : GateMode) (x : Gate) : Gate :=
  if x.mode = mode then x else { x with mode := mode, memory := none }

theorem setGateMode_gateAt (g : Nat) (mode : GateMode) (s : State) (h : Nat) :
    gateAt (setGateMode g mode s) h = if h = g then givenMode mode (gateAt s h) else gateAt s h := by
  unfold setGateMode givenMode
  split
  · rename_i same
    split
    · rename_i hg; rw [hg, if_pos same]
    · rfl
  · rename_i other
    rw [gateAt_setGateAt]
    split
    · rename_i hg; rw [hg, if_neg other]
    · rfl

theorem applyGateMode_eq (mask : GateMask) (mode : GateMode) (s : State) : applyGateMode mask mode s
    = eachGate (fun g s => if inGates mask g then setGateMode g mode s else s) (List.range 8) s := by
  have each (l : List Nat) (s : State) : setModes mask mode l s
      = eachGate (fun g s => if inGates mask g then setGateMode g mode s else s) l s := by
    induction l generalizing s with
    | nil => rfl
    | cons g gs ih => exact ih _
  exact each _ s

theorem applyGateMode_gateAt (mask : GateMask) (mode : GateMode) (s : State) {g : Nat} (hg : g < 8) :
    gateAt (applyGateMode mask mode s) g = if inGates mask g then givenMode mode (gateAt s g) else gateAt s g := by
  rw [applyGateMode_eq]
  refine gateAt_allGates (φ := fun g x => if inGates mask g then givenMode mode x else x) (fun g s h => ?_) s hg
  split
  · rw [setGateMode_gateAt]
    split
    · subst_vars; rw [if_pos ‹_›]
    · rfl
  · split
    · subst_vars; rw [if_neg ‹_›]
    · rfl

theorem givenMode_mode (mode : GateMode) (x : Gate) : (givenMode mode x).mode = mode := by
  unfold givenMode; split
  · assumption
  · rfl

theorem eventSide_gate {a : EventAct} (h : ∀ mask mode, a ≠ .gateMode mask mode) (s : State) :
    (eventSide a s).gate = s.gate := by
  cases a with
  | bell => rfl
  | sessionStart y => rfl
  | gateMode m g => exact absurd rfl (h m g)
  | noticeWindowOpen => exact (openNoticeWindow_work s).gate
  | noticeWindowClose => exact (closeNoticeWindow_work s).gate
  | periodStart j => exact gate_of_exceptRegister (exceptRegister_startPeriod s j)
  | periodEnd j => exact gate_of_exceptRegister (exceptRegister_endPeriod s j)
  | sessionClose y => exact gate_of_exceptRegister (exceptRegister_closeSession s y)
  | sessionOpen y =>
    by_cases h : formState s y = .notOpened
    · exact congrArg (·.gate) (openSession_notOpened h)
    · exact congrArg (·.gate) (openSession_stands h)

/-- A gate after an event: the referral stands, and the memory too unless the mode changes (R66). -/
theorem eventSide_gateAt (a : EventAct) (s : State) {g : Nat} (hg : g < 8) :
    (gateAt (eventSide a s) g).referral = (gateAt s g).referral
    ∧ (gateAt (eventSide a s) g).memory =
      if (gateAt (eventSide a s) g).mode = (gateAt s g).mode then (gateAt s g).memory else none := by
  have given (mode : GateMode) (x : Gate) : (givenMode mode x).referral = x.referral
      ∧ (givenMode mode x).memory = if (givenMode mode x).mode = x.mode then x.memory else none := by
    rw [givenMode_mode]
    unfold givenMode
    split
    · rename_i same; exact ⟨rfl, (if_pos same.symm).symm⟩
    · rename_i other; exact ⟨rfl, (if_neg (Ne.symm other)).symm⟩
  by_cases modes : ∃ mask mode, a = .gateMode mask mode
  · obtain ⟨mask, mode, rfl⟩ := modes
    have gate : gateAt (eventSide (.gateMode mask mode) s) g = _ := applyGateMode_gateAt mask mode s hg
    rw [gate]
    split
    · exact given mode _
    · exact ⟨rfl, (if_pos rfl).symm⟩
  · have gate : gateAt (eventSide a s) g = gateAt s g := by
      rw [gateAt, eventSide_gate (fun mask mode ha => modes ⟨mask, mode, ha⟩)]; rfl
    rw [gate]
    exact ⟨rfl, (if_pos rfl).symm⟩

/-! ### The notice window -/

theorem eventSide_msg {a : EventAct} (opens : a ≠ .noticeWindowOpen) (closes : a ≠ .noticeWindowClose) (s : State) :
    (eventSide a s).msg = s.msg := by
  cases a with
  | bell => rfl
  | sessionStart y => rfl
  | gateMode m g => exact congrArg (·.msg) (setModes_rest s m g (List.range 8))
  | noticeWindowOpen => exact absurd rfl opens
  | noticeWindowClose => exact absurd rfl closes
  | periodStart j => exact msg_of_exceptRegister (exceptRegister_startPeriod s j)
  | periodEnd j => exact msg_of_exceptRegister (exceptRegister_endPeriod s j)
  | sessionClose y => exact msg_of_exceptRegister (exceptRegister_closeSession s y)
  | sessionOpen y =>
    by_cases h : formState s y = .notOpened
    · exact congrArg (·.msg) (openSession_notOpened h)
    · exact congrArg (·.msg) (openSession_stands h)

/-- A walk request is what the statements say of it (R128). -/
theorem walkRequest_requested (s : State) : walkRequested s (walkRequest s) := by
  have open_ (h : s.msg.windowOpen = true ∧ s.roll.rollState = .normal) :
      ¬(!s.msg.windowOpen || rollingOver s) = true := by simp [h, rollingOver]
  refine ⟨fun h => ⟨fun idle => ?_, fun busy => ?_⟩, fun h => ?_⟩
  · rw [walkRequest, if_neg (open_ h), idle]
    exact ⟨rfl, rfl, rfl, rfl⟩
  · rw [walkRequest, if_neg (open_ h)]
    cases hw : s.msg.walk with
    | idle => exact absurd hw busy
    | running => exact ⟨hw, rfl, rfl, rfl⟩
    | paused => exact ⟨hw, rfl, rfl, rfl⟩
  · have shut : (!s.msg.windowOpen || rollingOver s) = true := by
      rcases h with h | h <;> simp [h, rollingOver]
    rw [walkRequest, if_pos shut]
    exact ⟨rfl, rfl, rfl, rfl⟩

theorem walkRequest_windowOpen (s : State) : (walkRequest s).msg.windowOpen = s.msg.windowOpen :=
  congrArg (·.msg.windowOpen) (exceptWalk_walkRequest s)

theorem closeNoticeWindow_closes (s : State) : (closeNoticeWindow s).msg.windowOpen = false
    ∧ (s.msg.windowOpen = true ∧ s.msg.walk ≠ .idle → (closeNoticeWindow s).msg.walk = .idle
      ∧ (closeNoticeWindow s).msg.cursor = 0 ∧ (closeNoticeWindow s).msg.rewalk = false
      ∧ (closeNoticeWindow s).msg.deferral = false)
    ∧ (s.msg.windowOpen = false ∨ s.msg.walk = .idle → walkStands s (closeNoticeWindow s)) := by
  unfold closeNoticeWindow
  by_cases hopen : s.msg.windowOpen = true
  · rw [if_pos hopen]
    refine ⟨rfl, fun h => ?_, fun h => ?_⟩
    · simp [h.2, idleWalk]
    · have idle : s.msg.walk = .idle := h.resolve_left (by simp [hopen])
      simp [walkStands, idle]
  · rw [if_neg hopen]
    exact ⟨Bool.not_eq_true _ ▸ hopen, fun h => absurd h.1 hopen, fun _ => ⟨rfl, rfl, rfl, rfl⟩⟩

/-- The records and the credit of the Message Unit, apart from its window and walk. -/
def windowless (m : MessageUnit) : MessageUnit := { idleWalk m with windowOpen := false }

theorem eventSide_windowless (a : EventAct) (s : State) : windowless (eventSide a s).msg = windowless s.msg := by
  by_cases opens : a = .noticeWindowOpen
  · subst opens
    have := congrArg (fun u : State => windowless u.msg)
      (exceptWalk_walkRequest (s.modMsg fun m => { m with windowOpen := true }))
    exact this
  · by_cases closes : a = .noticeWindowClose
    · subst closes
      simp only [eventSide, closeNoticeWindow]
      split
      · simp only [modMsg_msg]; split <;> rfl
      · rfl
    · rw [eventSide_msg opens closes]

/-! ### The whole effect -/

theorem eventSide_effect (a : EventAct) (s : State) (number : s.office.reportNumber ≤ 65535) :
    eventEffect a s (eventSide a s) := by
  obtain ⟨closing, quiet⟩ := eventSide_reports a s number
  obtain ⟨rooms, walks⟩ := eventSide_walks a s
  refine ⟨fun x => ?_, quiet, (eventSide_work s a).roll.find, eventSide_lessons a s, rooms, walks,
    fun mask mode ha g hg => ?_, fun other g hg => ?_, fun ha => ?_, fun ha => ?_, fun opens closes => ?_⟩
  · obtain ⟨state, groups⟩ := eventSide_forms a s x
    exact ⟨state, groups, eventSide_registered a s x, closing x⟩
  · subst ha
    have gate : gateAt (eventSide (.gateMode mask mode) s) g = _ := applyGateMode_gateAt mask mode s hg
    rw [gate]
    refine ⟨?_, fun inside other => ?_⟩
    · split
      · exact givenMode_mode _ _
      · rfl
    · rw [if_pos inside, givenMode, if_neg other]
  · rw [gateAt, eventSide_gate other]; rfl
  · subst ha
    exact ⟨walkRequest_windowOpen _, walkRequest_requested _⟩
  · subst ha
    exact closeNoticeWindow_closes s
  · rw [walkStands, eventSide_msg opens closes]
    exact ⟨rfl, rfl, rfl, rfl, rfl⟩

end Sys2Proof.Machine
end

section
/-! PROOFS. The closes of a swap to a staged plan (R38, R106), session by session and period by period. -/

namespace Sys2Proof.Machine

open Sys2Proof

/-! ### The closes of a swap -/

theorem reportsMade_iff {s t : State} (number : s.office.reportNumber ≤ 65535) (k : Nat) :
    reportsMade k s t ↔ t.office.reportNumber = (s.office.reportNumber + k) % 65536 := by
  unfold reportsMade
  split
  · subst_vars; rw [Nat.add_zero, Nat.mod_eq_of_lt (by omega)]
  · rfl

/-- A time of the active plan is missing or past as its plan's is (R38). -/
theorem gone_eq_behind {s : State} {es : List Event} (events : activeEvents s = es) (a : EventAct) (time : Nat) :
    gone s a time = behind es time a := by
  have found : lookupTime s a = timeIn es a := by rw [lookupTime, events]; rfl
  unfold gone behind
  rw [found]
  cases timeIn es a <;> rfl

/-- Whether a swap closes a session's form windows. -/
abbrev closesForm (es : List Event) (time : Nat) (s : State) (x : Session) : Prop :=
  formState s x = .opened ∧ behind es time (.sessionClose x) = true

/-- Whether a swap closes a lesson window. -/
abbrev endsLesson (es : List Event) (time : Nat) (s : State) (k : Nat) : Prop :=
  lessonAt s k = .opened ∧ behind es time (.periodEnd k) = true

/-- One session's close in a swap. -/
def swapClose (time : Nat) (x : Session) (s : State) : State :=
  if gone s (.sessionClose x) time then closeSession x s else s

theorem closeSessions_both (time : Nat) (s : State) :
    closeSessions time [.am, .pm] s = swapClose time .pm (swapClose time .am s) := rfl

theorem exceptRegister_swapClose (time : Nat) (x : Session) (s : State) :
    exceptRegister (swapClose time x s) = exceptRegister s := by
  unfold swapClose
  split
  · exact exceptRegister_closeSession s x
  · rfl

/-- What one session's close in a swap does. -/
structure SwapClosed (es : List Event) (time : Nat) (x : Session) (s t : State) : Prop where
  form : ∀ y, formState t y = if y = x ∧ closesForm es time s x then .closed else formState s y
  groups : ∀ y g, formAt t y g = formAt s y g
  lessons : t.reg.lessons = s.reg.lessons
  rooms : t.reg.rooms = s.reg.rooms
  walks : t.reg.walks = s.reg.walks
    ++ if closesForm es time s x then [⟨.close x (timeIn es (.sessionStart x)), 0⟩] else []
  reports : t.office.reportNumber
    = (s.office.reportNumber + if closesForm es time s x then notTakenGroups s x else 0) % 65536

theorem swapClose_closes {es : List Event} {time : Nat} {s : State} (x : Session) (events : activeEvents s = es)
    (number : s.office.reportNumber ≤ 65535) : SwapClosed es time x s (swapClose time x s) := by
  unfold swapClose
  rw [gone_eq_behind events]
  by_cases closes : closesForm es time s x
  · obtain ⟨opened, passed⟩ := closes
    obtain ⟨reg, reports⟩ := closeSession_opened opened
    have start : lookupTime s (.sessionStart x) = timeIn es (.sessionStart x) := by rw [lookupTime, events]; rfl
    rw [if_pos passed]
    refine ⟨fun y => ?_, fun y g => ?_, ?_, ?_, ?_, ?_⟩
    · rw [formState, reg]
      simp only [formClosed, AmPm_get_set]
      by_cases hy : y = x
      · simp [hy, opened, passed]
      · simp [hy, formState]
    · rw [formAt, reg]
      simp only [formClosed, AmPm_get_set]
      split
      · subst_vars; rfl
      · rfl
    · rw [reg]; rfl
    · rw [reg]; rfl
    · rw [reg, if_pos ⟨opened, passed⟩, start]
    · rw [reports number, if_pos ⟨opened, passed⟩]
  · have same : (if behind es time (.sessionClose x) = true then closeSession x s else s) = s := by
      split
      · exact closeSession_stands fun opened => closes ⟨opened, ‹_›⟩
      · rfl
    rw [same]
    refine ⟨fun y => ?_, fun _ _ => rfl, rfl, rfl, ?_, ?_⟩
    · rw [if_neg fun h => closes h.2]
    · rw [if_neg closes, List.append_nil]
    · rw [if_neg closes, Nat.add_zero, Nat.mod_eq_of_lt (by omega)]

/-- A lesson window closed, with its walk (R94, R104). -/
def lessonEnded (k : Nat) (s : State) : State := s.modReg fun u =>
  { u with lessons := tabSet .notOpened k .closed u.lessons, walks := u.walks ++ [⟨.periodEnd k, 0⟩] }

theorem lessonAt_lessonEnded (j : Nat) (s : State) (k : Nat) :
    lessonAt (lessonEnded j s) k = if k = j then .closed else lessonAt s k := by
  show tabGet .notOpened (tabSet .notOpened j .closed s.reg.lessons) k = _
  rw [tabGet_tabSet]
  rfl

/-- The closes of the lesson windows of a list of periods. -/
theorem closePeriods_closes {es : List Event} {time : Nat} {ks : List Nat} (nodup : ks.Nodup) {s : State}
    (events : activeEvents s = es) :
    (∀ k, lessonAt (closePeriods time ks s) k = if k ∈ ks ∧ endsLesson es time s k then .closed else lessonAt s k)
    ∧ (closePeriods time ks s).reg.form = s.reg.form ∧ (closePeriods time ks s).reg.rooms = s.reg.rooms
    ∧ (closePeriods time ks s).reg.walks = s.reg.walks
      ++ ks.filterMap (fun k => if endsLesson es time s k then some ⟨.periodEnd k, 0⟩ else none)
    ∧ (closePeriods time ks s).office = s.office := by
  induction ks generalizing s with
  | nil => simp [closePeriods]
  | cons j js ih =>
    obtain ⟨fresh, tail⟩ := List.nodup_cons.mp nodup
    rw [closePeriods, gone_eq_behind events]
    by_cases ends : endsLesson es time s j
    · obtain ⟨opened, passed⟩ := ends
      rw [if_pos passed, show endPeriod j s = lessonEnded j s from endPeriod_opened opened]
      obtain ⟨lessons, form, rooms, walks, office⟩ := ih tail (s := lessonEnded j s) events
      have other (k : Nat) (hk : k ≠ j) : lessonAt (lessonEnded j s) k = lessonAt s k := by
        rw [lessonAt_lessonEnded, if_neg hk]
      refine ⟨fun k => ?_, form, rooms, ?_, office⟩
      · rw [lessons]
        by_cases hk : k = j
        · subst hk; simp [fresh, opened, passed, lessonAt_lessonEnded]
        · simp [hk, endsLesson, other k hk]
      · have same : js.filterMap (fun k => if endsLesson es time (lessonEnded j s) k
            then some (⟨.periodEnd k, 0⟩ : Walk) else none)
            = js.filterMap fun k => if endsLesson es time s k then some ⟨.periodEnd k, 0⟩ else none :=
          List.filterMap_congr fun k hk => by
            simp only [endsLesson, other k fun e : k = j => fresh (e ▸ hk)]
        rw [walks, List.filterMap_cons, if_pos ⟨opened, passed⟩, same]
        simp [lessonEnded]
    · have same : (if behind es time (.periodEnd j) = true then endPeriod j s else s) = s := by
        split
        · exact endPeriod_stands fun opened => ends ⟨opened, ‹_›⟩
        · rfl
      rw [same, List.filterMap_cons, if_neg ends]
      obtain ⟨lessons, rest⟩ := ih tail events
      refine ⟨fun k => ?_, rest⟩
      rw [lessons]
      by_cases hk : k = j
      · subst hk; simp [fresh, ends]
      · simp [hk]

theorem activeEvents_of_exceptRegister {s t : State} (h : exceptRegister t = exceptRegister s) :
    activeEvents t = activeEvents s := by
  have sched := sched_of_exceptRegister h
  exact activeEvents_of_sched (congrArg (·.active) sched) (congrArg (·.plans) sched)

/-- The periods in order. -/
theorem periods_eq : (List.range 10).map (· + 1) = [1, 2, 3, 4, 5, 6, 7, 8, 9, 10] := rfl

theorem swapTo_eq (p time : Nat) (s : State) : swapTo p time s = closePeriods time [1, 2, 3, 4, 5, 6, 7, 8, 9, 10]
    (swapClose time .pm (swapClose time .am (withPlan p time s))) := by
  rw [← periods_eq, ← closeSessions_both]
  rfl

theorem filterMap_one {α β : Type} (p : α → Prop) [DecidablePred p] (f : α → β) (x : α) :
    [x].filterMap (fun y => if p y then some (f y) else none) = if p x then [f x] else [] := by
  by_cases h : p x <;> simp [h]

/-- A swap is what the statements say of it (R38, R106). -/
theorem swapTo_effect (p time : Nat) {s : State} (number : s.office.reportNumber ≤ 65535) :
    swapEffect (planAt s p) time s (swapTo p time s) := by
  let z := withPlan p time s
  let am := swapClose time .am z
  let pm := swapClose time .pm am
  have events : activeEvents z = planAt s p := rfl
  have events' : activeEvents am = planAt s p :=
    (activeEvents_of_exceptRegister (exceptRegister_swapClose time .am z)).trans events
  have events'' : activeEvents pm = planAt s p :=
    (activeEvents_of_exceptRegister (exceptRegister_swapClose time .pm am)).trans events'
  have first : SwapClosed (planAt s p) time .am z am := swapClose_closes .am events number
  have number' : am.office.reportNumber ≤ 65535 := by rw [first.reports]; omega
  have second : SwapClosed (planAt s p) time .pm am pm := swapClose_closes .pm events' number'
  obtain ⟨lessons, form, rooms, walks, office⟩ :=
    closePeriods_closes (ks := [1, 2, 3, 4, 5, 6, 7, 8, 9, 10]) (time := time) (by decide) events''
  have pmForm : formState am .pm = formState s .pm := (first.form .pm).trans (if_neg (by simp))
  have pmCloses : closesForm (planAt s p) time am .pm ↔ closesForm (planAt s p) time s .pm := by
    simp only [closesForm, pmForm]
  have pmGroups : notTakenGroups am .pm = notTakenGroups s .pm := by
    simp only [notTakenGroups, first.groups]; rfl
  have lesson (k : Nat) : lessonAt pm k = lessonAt s k := by
    rw [lessonAt, second.lessons, first.lessons]; rfl
  rw [swapTo_eq]
  unfold swapEffect
  refine ⟨fun x => ⟨?_, fun g => ?_⟩, fun k => ?_, ?_, ?_, ?_⟩
  · have same : formState (closePeriods time [1, 2, 3, 4, 5, 6, 7, 8, 9, 10] pm) x = formState pm x := by
      rw [formState, form]; rfl
    have amForm : formState am .am = if closesForm (planAt s p) time s .am then .closed else formState s .am := by
      rw [first.form]; simp only [true_and]; rfl
    rw [same, second.form]
    simp only [pmCloses]
    cases x with
    | am => simp only [reduceCtorEq, false_and, if_false]; exact amForm
    | pm => simp only [true_and, pmForm]
  · have same : formAt (closePeriods time [1, 2, 3, 4, 5, 6, 7, 8, 9, 10] pm) x g = formAt pm x g := by
      rw [formAt, form]; rfl
    rw [same, second.groups, first.groups]; rfl
  · have member : k ∈ [1, 2, 3, 4, 5, 6, 7, 8, 9, 10] ↔ 1 ≤ k ∧ k ≤ 10 := by
      simp only [List.mem_cons, List.not_mem_nil, or_false]; omega
    rw [lessons]
    simp only [member, endsLesson, lesson, and_assoc]
  · rw [rooms, second.rooms, first.rooms]; rfl
  · have ended : (fun k => if endsLesson (planAt s p) time pm k then some (⟨.periodEnd k, 0⟩ : Walk) else none)
        = fun k => if endsLesson (planAt s p) time s k then some ⟨.periodEnd k, 0⟩ else none := by
      funext k; simp only [endsLesson, lesson]
    have both : [Session.am, .pm].filterMap (fun x => if closesForm (planAt s p) time s x
          then some (⟨.close x (timeIn (planAt s p) (.sessionStart x)), 0⟩ : Walk) else none)
        = (if closesForm (planAt s p) time s .am then [⟨.close .am (timeIn (planAt s p) (.sessionStart .am)), 0⟩]
            else [])
          ++ if closesForm (planAt s p) time s .pm then [⟨.close .pm (timeIn (planAt s p) (.sessionStart .pm)), 0⟩]
            else [] := by
      rw [show [Session.am, .pm] = [.am] ++ [.pm] from rfl, List.filterMap_append, filterMap_one, filterMap_one]
    have walksAm : am.reg.walks = s.reg.walks ++ if closesForm (planAt s p) time s .am
        then [⟨.close .am (timeIn (planAt s p) (.sessionStart .am)), 0⟩] else [] := first.walks
    rw [walks, second.walks, walksAm, ended]
    simp only [pmCloses]
    rw [List.append_assoc s.reg.walks]
    exact congrArg (fun l => s.reg.walks ++ l ++ _) both.symm
  · have reportsAm : am.office.reportNumber = (s.office.reportNumber + _) % 65536 := first.reports
    rw [reportsMade_iff number, office, second.reports, reportsAm]
    simp only [pmCloses, pmGroups, Nat.mod_add_mod]
    rw [Nat.add_assoc]
    rfl

end Sys2Proof.Machine
end

section
/-! PROOFS. The parts of a tick that takes one event (R33 to R35): what the event finds, its job behind the one that
rings, and the run of the tick's events. -/

namespace Sys2Proof.Machine

open Sys2Proof

/-! ### What the effect of an event is read from -/

/-- Two states that an event finds alike, the tables of timers apart. -/
structure EventBasis (s t : State) : Prop where
  reg : t.reg = s.reg
  roll : t.roll = s.roll
  number : t.office.reportNumber = s.office.reportNumber
  events : activeEvents t = activeEvents s
  modes : ∀ g, g < 8 → (gateAt t g).mode = (gateAt s g).mode
  msg : { t.msg with notices := s.msg.notices } = s.msg

/-- The effect of an event on a state that finds it alike. -/
theorem EventBasis.effect {a : EventAct} {s s' t : State} (h : EventBasis s s') (effect : eventEffect a s' t) :
    eventEffect a s t := by
  have window : s'.msg.windowOpen = s.msg.windowOpen := congrArg (·.windowOpen) h.msg
  have walk : s'.msg.walk = s.msg.walk := congrArg (·.walk) h.msg
  have cursor : s'.msg.cursor = s.msg.cursor := congrArg (·.cursor) h.msg
  have rewalk : s'.msg.rewalk = s.msg.rewalk := congrArg (·.rewalk) h.msg
  have deferral : s'.msg.deferral = s.msg.deferral := congrArg (·.deferral) h.msg
  have forms : formState s' = formState s := by funext x; simp only [formState, h.reg]
  have groups : formAt s' = formAt s := by funext x g; simp only [formAt, h.reg]
  have lessons : lessonAt s' = lessonAt s := by funext k; simp only [lessonAt, h.reg]
  have entries : entryAt s' = entryAt s := by funext k; simp only [entryAt, h.roll]
  have expected : expectedCount s' = expectedCount s := by funext x g; simp only [expectedCount, h.roll]
  have untaken : notTakenGroups s' = notTakenGroups s := by funext x; simp only [notTakenGroups, groups]
  have times : lookupTime s' = lookupTime s := by funext b; simp only [lookupTime, h.events]
  have walks : eventWalks a s' = eventWalks a s := by cases a <;> simp only [eventWalks, forms, lessons, times]
  simp only [eventEffect, walkRequested, walkStands, forms, groups, lessons, entries, expected, untaken, walks,
    window, walk, cursor, rewalk, deferral, h.reg, h.roll, h.number] at effect ⊢
  obtain ⟨windows, quiet, unregistered, lesson, rooms, added, given, kept, notices⟩ := effect
  refine ⟨windows, quiet, unregistered, lesson, rooms, added, fun mask mode ha g hg => ?_, fun other g hg => ?_,
    notices⟩
  · rw [← h.modes g hg]; exact given mask mode ha g hg
  · rw [← h.modes g hg]; exact kept other g hg

/-- The effect of an event in a state that has the same windows, roll, gates, notices and reports. -/
theorem eventEffect_of_result {a : EventAct} {s t u : State} (effect : eventEffect a s t) (reg : u.reg = t.reg)
    (roll : u.roll = t.roll) (number : u.office.reportNumber = t.office.reportNumber) (gate : u.gate = t.gate)
    (msg : u.msg = t.msg) : eventEffect a s u := by
  simp only [eventEffect, walkRequested, walkStands, formState, formAt, lessonAt, entryAt, gateAt] at effect ⊢
  rw [reg, roll, number, gate, msg]
  exact effect

/-! ### An event taken sounding while a job rings -/

/-- Two states alike but for the Bell Sequencer and the orders settled. -/
def Beside (s t : State) : Prop := { t with bell := s.bell, choices := s.choices } = s

section

variable {s t u : State}

theorem Beside.refl (s : State) : Beside s s := rfl

theorem Beside.reg (h : Beside s t) : t.reg = s.reg := congrArg (·.reg) h

theorem Beside.roll (h : Beside s t) : t.roll = s.roll := congrArg (·.roll) h

theorem Beside.gate (h : Beside s t) : t.gate = s.gate := congrArg (·.gate) h

theorem Beside.msg (h : Beside s t) : t.msg = s.msg := congrArg (·.msg) h

theorem Beside.line (h : Beside s t) : t.line = s.line := congrArg (·.line) h

theorem Beside.sched (h : Beside s t) : t.sched = s.sched := congrArg (·.sched) h

theorem Beside.office (h : Beside s t) : t.office = s.office := congrArg (·.office) h

end

/-- The bell job of an event, if it rings, behind those that wait. -/
def withJobs (js : List BellJob) (s : State) : State := s.modBell fun u => { u with waiting := u.waiting ++ js }

theorem withJobs_beside (js : List BellJob) (s : State) : Beside s (withJobs js s) := rfl

/-- A Bell Sequencer whose job waits, with room behind it. -/
structure RingWaits (s : State) : Prop where
  waits : bellStep s = none
  busy : s.bell.current.isSome = true
  room : s.bell.waiting.length < 4

theorem RingWaits.of_same {s t : State} (h : RingWaits s) (bell : t.bell = s.bell)
    (segments : t.line.segments = s.line.segments) : RingWaits t :=
  ⟨bellStep_none_of_segments h.waits (by rw [bell]) (fun _ => by rw [bell]) segments, by rw [bell]; exact h.busy,
    by rw [bell]; exact h.room⟩

theorem RingWaits.bellStep_of_current {s t : State} (h : RingWaits s) (current : t.bell.current = s.bell.current)
    (segments : t.line.segments = s.line.segments) : bellStep t = none := by
  refine bellStep_none_of_segments h.waits current (fun idle => ?_) segments
  have busy := h.busy
  rw [idle] at busy
  cases busy

/-- A job that arrives while another rings waits behind it (R50). -/
theorem takeJob_waits {s : State} (h : RingWaits s) (j : BellJob) : takeJob j s = withJobs [j] s := by
  have joined : joinJob j s = withJobs [j] s := by
    obtain ⟨c, hc⟩ := Option.isSome_iff_exists.mp h.busy
    have room := h.room
    unfold joinJob
    cases hw : s.bell.waiting with
    | nil => simp [hc, withJobs, State.modBell, hw]
    | cons w ws =>
      rw [hw] at room
      have free : (w :: ws).length < Config.bellJobs := room
      simp only [hc, free, if_true]
      rfl
  rw [takeJob, joined]
  exact bellRun_waits (h.bellStep_of_current rfl rfl)

/-- An event taken sounding while a job rings: its side effect, and its job behind those that wait (R33, R34). -/
theorem takeEvent_waits {s : State} (h : RingWaits s) (e : Event) :
    ∃ a, Beside s a ∧ Beside (eventSide e.act a) (takeEvent true e s)
      ∧ (takeEvent true e s).bell = (withJobs (eventJob e).toList s).bell := by
  have side (u : State) := eventSide_work u e.act
  unfold takeEvent
  simp only [if_true]
  cases hj : eventJob e with
  | none =>
    refine ⟨s, .refl s, .refl _, (side s).bell.trans ?_⟩
    simp [withJobs, State.modBell]
  | some j =>
    have job (u : State) (bell : u.bell = s.bell) (segments : u.line.segments = s.line.segments) :
        takeJob j u = withJobs [j] u ∧ (withJobs [j] u).bell = (withJobs [j] s).bell :=
      ⟨takeJob_waits (h.of_same bell segments) j, by simp only [withJobs, modBell_bell, bell]⟩
    dsimp only
    split
    · split
      · have first := job s.countChoice rfl rfl
        rw [first.1]
        exact ⟨withJobs [j] s.countChoice, rfl, .refl _, (side _).bell⟩
      · have last := job _ (side s.countChoice).bell (side s.countChoice).segments
        rw [last.1]
        exact ⟨s.countChoice, rfl, withJobs_beside _ _, last.2⟩
    · have last := job _ (side s).bell (side s).segments
      rw [last.1]
      exact ⟨s, .refl s, withJobs_beside _ _, last.2⟩

/-! ### What a tick with an event leaves besides the event's effect -/

/-- What a tick that takes an event does and leaves, the event's own effect apart. -/
structure EventTaken (s : State) (e : Event) (t : State) : Prop where
  waiting : t.bell.waiting = s.bell.waiting ++ (eventJob e).toList
  current : t.bell.current = s.bell.current
  zones : t.bell.zones = s.bell.zones
  inputs : t.bell.inputs = s.bell.inputs
  soundings : soundingsFall s t
  notices : t.msg.notices = s.msg.notices.map noticeTicked
  gates : ∀ g, g < 8 → (gateAt t g).referral = (gateTicked (gateAt s g)).referral
    ∧ (gateAt t g).memory = if (gateAt t g).mode = (gateAt s g).mode then (gateTicked (gateAt s g)).memory else none
  excuses : t.roll.excuses = s.roll.excuses
  families : t.roll.families = s.roll.families
  gateRest : { t.gate with gates := s.gate.gates } = s.gate
  segments : t.line.segments = s.line.segments
  control : sameControl s t

theorem EventTaken.of_same {s t x : State} {e : Event} (h : EventTaken s e x) (bell : t.bell = x.bell)
    (roll : t.roll = x.roll) (gate : t.gate = x.gate) (msg : t.msg = x.msg)
    (segments : t.line.segments = x.line.segments) (control : sameControl x t) : EventTaken s e t where
  waiting := by rw [bell]; exact h.waiting
  current := by rw [bell]; exact h.current
  zones := by rw [bell]; exact h.zones
  inputs := by rw [bell]; exact h.inputs
  soundings z hz := by rw [soundingAt, bell]; exact h.soundings z hz
  notices := by rw [msg]; exact h.notices
  gates g hg := by
    have same : gateAt t g = gateAt x g := by rw [gateAt, gate]; rfl
    rw [same]; exact h.gates g hg
  excuses := by rw [roll]; exact h.excuses
  families := by rw [roll]; exact h.families
  gateRest := by rw [gate]; exact h.gateRest
  segments := segments.trans h.segments
  control := sameControl_trans h.control control

section

variable {s u a x : State} {e : Event}

theorem TimersCount.ringWaits (h : TimersCount s u) (ring : RingWaits s) (sched : ScheduleUnit) :
    RingWaits (withSched sched u) := by
  have current : u.bell.current = s.bell.current := congrArg (·.current) h.bell
  have waiting : u.bell.waiting = s.bell.waiting := congrArg (·.waiting) h.bell
  refine ⟨h.waits (u := withSched sched u) ring.waits rfl (fun _ => rfl) fun _ => id, ?_, ?_⟩
  · show u.bell.current.isSome = true
    rw [current]; exact ring.busy
  · show u.bell.waiting.length < 4
    rw [waiting]; exact ring.room

/-- A state beside the one the clock's part finds is one that the event finds like the state before the tick. -/
theorem TimersCount.basis (h : TimersCount s u) {sched : ScheduleUnit} (active : sched.active = s.sched.active)
    (plans : sched.plans = s.sched.plans) (beside : Beside (withSched sched u) a) : EventBasis s a where
  reg := beside.reg.trans h.reg
  roll := beside.roll.trans h.roll
  number := (congrArg (·.reportNumber) beside.office).trans (congrArg (·.reportNumber) h.office)
  events := activeEvents_of_sched ((congrArg (·.active) beside.sched).trans active)
    ((congrArg (·.plans) beside.sched).trans plans)
  modes g hg := by
    have gate : gateAt a g = gateAt u g := by rw [gateAt, beside.gate]; rfl
    rw [gate, h.gates g hg]; rfl
  msg := by rw [beside.msg]; exact h.msg

/-- The event's job and side effect after the timers have counted. -/
theorem TimersCount.taken (h : TimersCount s u) {sched : ScheduleUnit} (beside : Beside (withSched sched u) a)
    (result : Beside (eventSide e.act a) x) (bell : x.bell = (withJobs (eventJob e).toList (withSched sched u)).bell) :
    EventTaken s e x := by
  have side := eventSide_work a e.act
  have gate (g : Nat) : gateAt a g = gateAt u g := by rw [gateAt, beside.gate]; rfl
  have gate' (g : Nat) : gateAt x g = gateAt (eventSide e.act a) g := by rw [gateAt, result.gate]; rfl
  have bellRest := h.bell
  have roll : { x.roll with roll := a.roll.roll } = a.roll := by rw [result.roll]; exact side.rollRest
  have rollA : a.roll = s.roll := beside.roll.trans h.roll
  refine ⟨?_, ?_, ?_, ?_, fun z hz => ?_, ?_, fun g hg => ?_, ?_, ?_, ?_, ?_, ?_⟩
  · rw [bell]
    show u.bell.waiting ++ _ = _
    rw [show u.bell.waiting = s.bell.waiting from congrArg (·.waiting) bellRest]
  · rw [bell]; exact congrArg (·.current) bellRest
  · rw [bell]; exact congrArg (·.zones) bellRest
  · rw [bell]; exact congrArg (·.inputs) bellRest
  · rw [soundingAt, bell]; exact h.soundings z hz
  · have notices : (eventSide e.act a).msg.notices = a.msg.notices :=
      congrArg (·.notices) (eventSide_windowless e.act a)
    rw [result.msg, notices, beside.msg]; exact h.notices
  · obtain ⟨referral, memory⟩ := eventSide_gateAt e.act a hg
    rw [gate', referral, memory, gate, h.gates g hg]
    exact ⟨rfl, rfl⟩
  · exact (congrArg (·.excuses) roll).trans (congrArg (·.excuses) rollA)
  · exact (congrArg (·.families) roll).trans (congrArg (·.families) rollA)
  · have rest : { x.gate with gates := a.gate.gates } = a.gate := by rw [result.gate]; exact side.gateRest
    have restA : { a.gate with gates := s.gate.gates } = s.gate := by rw [beside.gate]; exact h.gateRest
    exact (congrArg (fun g : GateUnit => { g with gates := s.gate.gates }) rest).trans restA
  · rw [result.line, side.segments, beside.line]; exact congrArg (·.segments) h.line
  · have first : sameControl s a := sameControl_of_office (beside.office.trans h.office)
    exact sameControl_trans first (sameControl_trans side.control (sameControl_of_office result.office))

end

/-! ### The run of events of a tick -/

/-- One event is taken when no other lies behind it up to the tick's time. -/
theorem tickEvents_event {s : State} {i : Nat} {e : Event} (next : nextEvent s = some (i, e))
    (due : e.time ≤ s.sched.second)
    (last : ∀ j f, nextEvent (takeNextEvent true i e s) = some (j, f) → s.sched.second < f.time)
    (unstaged : (takeNextEvent true i e s).sched.staged = none) :
    tickEvents s = setProcessed s.sched.second (takeNextEvent true i e s) := by
  have first : runEvents true none s.sched.second (64 + 1) s
      = runEvents true none s.sched.second 64 (takeNextEvent true i e s) := by
    rw [runEvents, next]
    exact if_neg (by omega)
  show setProcessed _ (swapAtEdge (runEvents true none s.sched.second (64 + 1) s)) = _
  rw [first, runEvents_none true last, swapAtEdge_none unstaged]

theorem seatCursor_seated (es : List Event) (time : Nat) : seatedAfter es time (seatCursor es time) := by
  unfold seatCursor
  cases hi : es.findIdx? fun e => decide (time < e.time) with
  | none =>
    refine .inr ⟨rfl, fun e he => ?_⟩
    have := List.findIdx?_eq_none_iff.mp hi e he
    simpa using this
  | some i =>
    obtain ⟨bound, after, before⟩ := List.findIdx?_eq_some_iff_getElem.mp hi
    refine .inl ⟨i, es[i], rfl, List.getElem?_eq_getElem bound, by simpa using after, fun j f hj hf => ?_⟩
    obtain ⟨jb, rfl⟩ := List.getElem?_eq_some_iff.mp hf
    simpa using before j hj

end Sys2Proof.Machine
end

section
/-! PROOFS. SECONDS_TICK, clause by clause (R28 to R30, R33 to R39). -/

namespace Sys2Proof.Machine

open Sys2Proof

/-- The schedule one second on, before the tick's events. -/
def secondOn (u : ScheduleUnit) : ScheduleUnit := { u with second := u.second + 1 }

/-- The schedule one second on, with its time processed. -/
def secondDone (u : ScheduleUnit) : ScheduleUnit :=
  { u with second := u.second + 1, lastSecond := u.second + 1, lastDay := u.day }

theorem eventJob_toList (e : Event) : (eventJob e).toList = if e.tone = 0 ∨ e.zones = 0 then [] else
    [{ zones := e.zones, tone := e.tone, duration := e.duration, override := false, origin := .event }] := by
  unfold eventJob; split <;> rfl

theorem eventSide_number (a : EventAct) (s : State) (number : s.office.reportNumber ≤ 65535) :
    (eventSide a s).office.reportNumber ≤ 65535 := by
  obtain ⟨closing, quiet⟩ := eventSide_reports a s number
  by_cases closes : ∃ x, a = .sessionClose x ∧ formState s x = .opened
  · obtain ⟨x, hx⟩ := closes
    rw [closing x hx]; omega
  · rw [quiet fun x ha opened => closes ⟨x, ha, opened⟩]; exact number

/-- What an event makes of the state in which the timers have counted and the clock has moved. -/
structure EventDone (s : State) (e : Event) (x : State) : Prop where
  taken : EventTaken s e x
  effect : eventEffect e.act s x
  sched : x.sched = secondOn s.sched
  number : x.office.reportNumber ≤ 65535
  credit : x.msg.creditLimit = s.msg.creditLimit

section

variable {s u x y : State} {e : Event} {i : Nat}

theorem TimersCount.event (h : TimersCount s u) (ring : RingWaits s) (number : s.office.reportNumber ≤ 65535)
    (e : Event) : EventDone s e (takeEvent true e (withSched (secondOn s.sched) u)) := by
  obtain ⟨a, beside, result, bell⟩ := takeEvent_waits (h.ringWaits ring (secondOn s.sched)) e
  have basis : EventBasis s a := h.basis (sched := secondOn s.sched) rfl rfl beside
  have number' : a.office.reportNumber ≤ 65535 := by rw [basis.number]; exact number
  have effect := basis.effect (eventSide_effect e.act a number')
  have reports := congrArg (·.reportNumber) result.office
  have credit : (eventSide e.act a).msg.creditLimit = a.msg.creditLimit :=
    congrArg (·.creditLimit) (eventSide_windowless e.act a)
  refine ⟨h.taken beside result bell, eventEffect_of_result effect result.reg result.roll reports result.gate
    result.msg, takeEvent_sched true e _, ?_, ?_⟩
  · exact reports.trans_le (eventSide_number e.act a number')
  · rw [result.msg, credit]; exact congrArg (·.creditLimit) basis.msg

theorem takeNextEvent_unstaged (h : s.sched.staged = none) : takeNextEvent true i e s
    = (takeEvent true e s).modSched fun v => { v with cursor := cursorAfter (activeEvents s) i } := by
  have unstaged : (takeEvent true e s).sched.staged = none := by rw [takeEvent_sched]; exact h
  unfold takeNextEvent
  dsimp only
  rw [swapStaged_none _ (by exact unstaged), ite_self]

theorem takeNextEvent_swaps {p : Nat} (h : s.sched.staged = some p) (boundary : e.boundary = true) :
    takeNextEvent true i e s = swapTo p e.time
      ((takeEvent true e s).modSched fun v => { v with cursor := cursorAfter (activeEvents s) i }) := by
  have staged : (takeEvent true e s).sched.staged = some p := by rw [takeEvent_sched]; exact h
  unfold takeNextEvent
  dsimp only
  rw [if_pos boundary, swapStaged]
  simp only [modSched_sched, staged]

/-- After the event the tick moves nothing more. -/
theorem EventDone.ends (h : EventDone s e x) (ring : RingWaits s) (credit : s.msg.creditLimit = 0)
    (bell : y.bell = x.bell) (msg : y.msg = x.msg) (segments : y.line.segments = x.line.segments) :
    tryOffers (bellRun y) = y :=
  tickEnd_id (ring.bellStep_of_current (by rw [bell]; exact h.taken.current) (segments.trans h.taken.segments))
    (.inr (by rw [msg, h.credit]; exact credit))

theorem cursorAfter_next {es : List Event} {j : Nat} (h : cursorAfter es i = .next j) : j = i + 1 := by
  unfold cursorAfter at h
  split at h
  · exact (Cursor.next.inj h).symm
  · cases h

theorem TimersCount.clock (h : TimersCount s u) (set : s.sched.clock = .set) (early : s.sched.second < 86399) :
    tickClock u = tickEvents (withSched (secondOn s.sched) u) := by
  have sched := h.sched
  exact tickClock_moves (by rw [sched]; exact set) (by rw [sched]; exact advanceClock_second set early)

/-- A tick that takes one event. -/
theorem TimersCount.oneEvent (h : TimersCount s u) (set : s.sched.clock = .set) (early : s.sched.second < 86399)
    (ring : RingWaits s) (credit : s.msg.creditLimit = 0) (number : s.office.reportNumber ≤ 65535)
    (one : Machine.oneEvent s i e s.sched.second (s.sched.second + 1)) :
    EventTaken s e (afterTimers u) ∧ eventEffect e.act s (afterTimers u)
      ∧ (afterTimers u).sched = { secondDone s.sched with cursor := cursorAfter (activeEvents s) i } := by
  obtain ⟨-, unstaged, cursor, here, -, due, behind⟩ := one
  have done := h.event ring number e
  generalize hw : withSched (secondOn s.sched) u = w at done
  have wsched : w.sched = secondOn s.sched := by rw [← hw]; rfl
  have events : activeEvents w = activeEvents s := by
    refine activeEvents_of_sched ?_ ?_ <;> rw [wsched] <;> rfl
  have next := takeNextEvent_unstaged (s := w) (e := e) (i := i) (by rw [wsched]; exact unstaged)
  generalize hx : takeEvent true e w = x at done next
  have sched := done.sched
  have after : activeEvents (takeNextEvent true i e w) = activeEvents s := by
    rw [next]
    refine activeEvents_of_sched ?_ ?_ <;> simp only [modSched_sched, sched] <;> rfl
  have run : tickEvents w = setProcessed w.sched.second (takeNextEvent true i e w) := by
    refine tickEvents_event (nextEvent_eq_some.mpr ⟨by rw [wsched]; exact cursor, by rw [events]; exact here⟩)
      (by rw [wsched]; exact due) (fun j f hn => ?_) ?_
    · obtain ⟨at_, found⟩ := nextEvent_eq_some.mp hn
      rw [after] at found
      rw [next] at at_
      obtain rfl := cursorAfter_next at_
      rw [wsched]
      exact behind f found
    · rw [next]; simp only [modSched_sched, sched]; exact unstaged
  have same : afterTimers u = setProcessed (s.sched.second + 1)
      (x.modSched fun v => { v with cursor := cursorAfter (activeEvents s) i }) := by
    rw [afterTimers, h.clock set early, hw, run, next, wsched, events]
    exact done.ends ring credit rfl rfl rfl
  rw [same]
  refine ⟨done.taken.of_same rfl rfl rfl rfl rfl ⟨rfl, rfl, rfl, rfl, rfl⟩,
    eventEffect_of_result done.effect rfl rfl rfl rfl rfl, ?_⟩
  rw [setProcessed_sched, modSched_sched, sched]
  rfl

/-- A tick that takes a boundary event with a plan staged: the swap follows the event, at the event's time. -/
theorem TimersCount.swaps (h : TimersCount s u) (set : s.sched.clock = .set) (early : s.sched.second < 86399)
    (ring : RingWaits s) (credit : s.msg.creditLimit = 0) (number : s.office.reportNumber ≤ 65535) {p : Nat}
    (staged : s.sched.staged = some p) (cursor : s.sched.cursor = .next i) (here : (activeEvents s)[i]? = some e)
    (boundary : e.boundary = true) (due : e.time = s.sched.second + 1) :
    ∃ x, EventTaken s e (afterTimers u) ∧ eventEffect e.act s x ∧ swapEffect (planAt s p) e.time x (afterTimers u)
      ∧ (afterTimers u).roll = x.roll ∧ (afterTimers u).gate = x.gate ∧ (afterTimers u).msg = x.msg
      ∧ seatedAfter (planAt s p) e.time (afterTimers u).sched.cursor
      ∧ (afterTimers u).sched = { secondDone s.sched with
          active := some p, staged := none, cursor := (afterTimers u).sched.cursor } := by
  have done := h.event ring number e
  generalize hw : withSched (secondOn s.sched) u = w at done
  have wsched : w.sched = secondOn s.sched := by rw [← hw]; rfl
  have events : activeEvents w = activeEvents s := by
    refine activeEvents_of_sched ?_ ?_ <;> rw [wsched] <;> rfl
  have next := takeNextEvent_swaps (s := w) (e := e) (i := i) (by rw [wsched]; exact staged) boundary
  generalize hx : takeEvent true e w = x at done next
  have sched := done.sched
  generalize hz : (x.modSched fun v => { v with cursor := cursorAfter (activeEvents w) i }) = z at next
  have zsched : z.sched = { secondOn s.sched with cursor := cursorAfter (activeEvents w) i } := by
    rw [← hz, modSched_sched, sched]
  have plan : planAt z p = planAt s p := by rw [planAt, zsched]; rfl
  have effect := swapTo_effect p e.time (s := z) (by rw [← hz]; exact done.number)
  have swapped := exceptRegister_swapTo p e.time z
  have swapSched : (swapTo p e.time z).sched
      = { secondOn s.sched with active := some p, staged := none, cursor := seatCursor (planAt s p) e.time } := by
    rw [swapTo_sched, ← plan]
    show { z.sched with active := some p, staged := none, cursor := seatCursor (planAt z p) e.time } = _
    rw [zsched]
  generalize swapTo p e.time z = y at next effect swapped swapSched
  have run : tickEvents w = setProcessed w.sched.second y := by
    rw [← next]
    refine tickEvents_event (nextEvent_eq_some.mpr ⟨by rw [wsched]; exact cursor, by rw [events]; exact here⟩)
      (by rw [wsched]; exact due.le) (fun j f hn => ?_) (by rw [next, swapSched])
    obtain ⟨at_, found⟩ := nextEvent_eq_some.mp hn
    have active : activeEvents y = planAt s p := by simp only [activeEvents, planAt, swapSched]; rfl
    rw [next, active] at found
    rw [next, swapSched] at at_
    rw [wsched]
    rcases seatCursor_seated (planAt s p) e.time with ⟨k, f', hk, hf', later, -⟩ | ⟨past, -⟩
    · obtain rfl := Cursor.next.inj (hk.symm.trans at_)
      obtain rfl := Option.some.inj (hf'.symm.trans found)
      rw [due] at later
      exact later
    · exact absurd (past.symm.trans at_) (by simp)
  have bell : y.bell = x.bell := (bell_of_exceptRegister swapped).trans (by rw [← hz]; rfl)
  have msg : y.msg = x.msg := (msg_of_exceptRegister swapped).trans (by rw [← hz]; rfl)
  have roll : y.roll = x.roll := (roll_of_exceptRegister swapped).trans (by rw [← hz]; rfl)
  have gate : y.gate = x.gate := (gate_of_exceptRegister swapped).trans (by rw [← hz]; rfl)
  have segments : y.line.segments = x.line.segments :=
    (segments_of_exceptRegister swapped).trans (by rw [← hz]; rfl)
  have control : sameControl x y := by
    have := sameControl_of_exceptRegister swapped
    rw [← hz] at this
    exact this
  have same : afterTimers u = setProcessed (s.sched.second + 1) y := by
    rw [afterTimers, h.clock set early, hw, run, wsched]
    exact done.ends ring credit bell msg segments
  rw [plan, ← hz] at effect
  rw [same]
  refine ⟨x, done.taken.of_same bell roll gate msg segments control, done.effect, effect, roll, gate, msg, ?_, ?_⟩
  · rw [setProcessed_sched, swapSched]; exact seatCursor_seated _ _
  · rw [setProcessed_sched, swapSched]; rfl

end

/-! ### The clauses of the tick -/

/-- Schedules that agree but for what events move. -/
theorem of_fixedSched {u v : ScheduleUnit} (h : fixedSched u = fixedSched v) :
    u.day = v.day ∧ u.second = v.second ∧ u.clock = v.clock ∧ u.lastSecond = v.lastSecond ∧ u.lastDay = v.lastDay
      ∧ u.outstanding = v.outstanding :=
  ⟨congrArg (·.day) h, congrArg (·.second) h, congrArg (·.clock) h, congrArg (·.lastSecond) h,
    congrArg (·.lastDay) h, congrArg (·.outstanding) h⟩

/-- The schedule after a tick without a wrap, but for what events move. -/
theorem takeTick_moves {s : State} {v : ScheduleUnit} (set : s.sched.clock = .set)
    (moves : advanceClock s.sched = (v, false)) :
    fixedSched (takeTick s).sched = fixedSched { v with lastSecond := v.second, lastDay := v.day } := by
  have ticked := ticked_sched s
  rw [takeTick_afterTimers]
  exact afterTimers_fixed (by rw [ticked]; exact set) (by rw [ticked]; exact moves)

theorem takeTick_wraps {s : State} {v : ScheduleUnit} (set : s.sched.clock = .set)
    (wraps : advanceClock s.sched = (v, true)) :
    (takeTick s).sched = { dayOver v.day v with lastSecond := v.second, lastDay := v.day } := by
  have ticked := ticked_sched s
  rw [takeTick_afterTimers]
  exact afterTimers_wraps (by rw [ticked]; exact set) (by rw [ticked]; exact wraps)

theorem takeTick_unset {s : State} (unset : s.sched.clock = .unset) : (takeTick s).sched = s.sched := by
  have ticked := ticked_sched s
  rw [takeTick_afterTimers, afterTimers_sched, tickClock_unset (by rw [ticked]; exact unset), ticked]

/-- Without main power the clock alone moves (R30). -/
theorem exec_tick_unpowered {s : State} (off : s.office.powered = false) :
    exec .secondsTick s = .next { s with sched :=
      if s.sched.clock = .unset then s.sched
      else if s.sched.second < 86399 then { s.sched with second := s.sched.second + 1 }
      else if s.sched.day < 366 then { s.sched with second := 0, day := s.sched.day + 1 }
      else { s.sched with second := 0 } } := by
  show Host.Outcome.next (if s.office.powered then takeTick s else tickClockOnly s) = _
  rw [if_neg (by simp [off])]
  show Host.Outcome.next (withSched (advanceClock s.sched).1 s) = _
  unfold advanceClock withSched
  split
  · rfl
  · split
    · rename_i early
      rw [if_pos (show s.sched.second < 86399 from early)]
    · rename_i late
      rw [if_neg (show ¬s.sched.second < 86399 from late)]
      split
      · rename_i day
        rw [if_pos (show s.sched.day < 366 from day)]
      · rename_i day
        rw [if_neg (show ¬s.sched.day < 366 from day)]

/-- Settles O41: the clock's part by its branches, the quiet ticks by `TimersCount`, and the ticks with an event by
`TimersCount.oneEvent` and `TimersCount.swaps`. -/
theorem tickAdvancesClockAndTimers : Obligations.TickAdvancesClockAndTimers := by
  intro s
  have tick (on : s.office.powered = true) : exec .secondsTick s = .next (takeTick s) := exec_secondsTick on
  refine ⟨fun on set early => ?_, fun on set late day => ?_, fun on set late day => ?_, fun on unset => ?_,
    calendarPlan_outOfYear, exec_tick_unpowered, fun on waits runs offers => ?_,
    fun e on set early _ waits busy room credit number runs => ?_⟩
  · obtain ⟨day, second, clock, lastSecond, lastDay, outstanding⟩ :=
      of_fixedSched (takeTick_moves set (advanceClock_second set early))
    exact ⟨_, tick on, day, second, clock.trans set, lastSecond, lastDay, outstanding⟩
  · exact ⟨_, tick on, takeTick_wraps set (advanceClock_wraps set late day)⟩
  · obtain ⟨day', second, -, -, -, outstanding⟩ :=
      of_fixedSched (takeTick_moves set (advanceClock_stays set late day.ge))
    exact ⟨_, tick on, second, day'.trans day, outstanding⟩
  · exact ⟨_, tick on, takeTick_unset unset⟩
  · have counts := tickTimers_counts s
    have quiet : Quiet s := ⟨waits, offers⟩
    rw [tick on, takeTick_runs runs]
    refine ⟨fun unset => ⟨_, rfl, counts.unset quiet unset⟩, fun second set moves none => ⟨_, rfl, ?_⟩,
      fun set late day => ⟨fun held => ⟨_, rfl, counts.held quiet set late day held⟩, fun free => ⟨_, rfl, ?_⟩⟩⟩
    · refine counts.noEvent quiet set ?_ none
      rcases moves with ⟨early, rfl⟩ | ⟨late, day, rfl⟩
      · exact advanceClock_second set early
      · exact advanceClock_stays set late day
    · simp only [ne_eq, not_or, not_not] at free
      obtain ⟨normal, triggers, walks⟩ := free
      exact counts.settles quiet set late day normal triggers walks
  · have counts := tickTimers_counts s
    have ring : RingWaits s := ⟨waits, busy, room⟩
    intro sched takes
    have taken (t : State) (ht : takeTick s = t) (h : EventTaken s e t) : takes t :=
      ⟨by rw [tick on, ht], by rw [h.waiting, eventJob_toList], h.current, h.zones, h.inputs, h.soundings, h.notices,
        h.gates, h.excuses, h.families, h.gateRest, h.segments, h.control⟩
    refine ⟨fun i one => ?_, fun i p _ staged cursor here boundary due => ?_⟩
    · obtain ⟨event, effect, schedule⟩ := counts.oneEvent set early ring credit number one
      exact ⟨_, taken _ (takeTick_runs runs) event, effect, schedule⟩
    · obtain ⟨x, event, effect, swap, roll, gate, msg, seated, schedule⟩ :=
        counts.swaps set early ring credit number staged cursor here boundary due
      exact ⟨_, x, taken _ (takeTick_runs runs) event, effect, swap, roll, gate, msg, seated, schedule⟩

end Sys2Proof.Machine
end

section
/-! PROOFS. What of the state the agreement of clock, schedule and settlements depends on (R28 to R40, R173), and the
operations of the other blocks, which leave it. -/

namespace Sys2Proof.Machine

open Sys2Proof

variable (s : State)

/-- The schedule without the calendar, the plans, the last processed time and a plan load in progress. -/
def schedCore (u : ScheduleUnit) : ScheduleUnit :=
  { u with calendar := [], plans := [], lastSecond := 0, lastDay := 0, build := none }

/-- What the settlements outstanding are compared with, and catch-up. -/
def settling (s : State) : Nat × RollState × List Nat × Bool :=
  (s.sched.outstanding, s.roll.rollState, s.roll.heldTriggers, s.office.catchUp)

/-- What the agreement of the clock, the schedule state and the settlements outstanding depends on. -/
def timekeeping (s : State) : ScheduleUnit × (Nat × RollState × List Nat × Bool) := (schedCore s.sched, settling s)

/-! ### Changes that the views of the blocks describe -/

theorem time_of_line {s t : State} (h : exceptLine t = exceptLine s) : timekeeping t = timekeeping s :=
  show timekeeping (exceptLine t) = timekeeping (exceptLine s) from congrArg timekeeping h

theorem time_of_bell {s t : State} (h : exceptBell t = exceptBell s) : timekeeping t = timekeeping s :=
  show timekeeping (exceptBell t) = timekeeping (exceptBell s) from congrArg timekeeping h

theorem time_of_gates {s t : State} (h : exceptGates t = exceptGates s) : timekeeping t = timekeeping s :=
  show timekeeping (exceptGates t) = timekeeping (exceptGates s) from congrArg timekeeping h

theorem time_of_register {s t : State} (h : exceptRegister t = exceptRegister s) : timekeeping t = timekeeping s :=
  show timekeeping (exceptRegister t) = timekeeping (exceptRegister s) from congrArg timekeeping h

theorem NoticeWork.time {α : Type} {v : RollEntry → α} {s t : State} (h : NoticeWork v s t) :
    timekeeping t = timekeeping s :=
  show timekeeping (exceptNotices t) = timekeeping (exceptNotices s) from congrArg timekeeping h.rest

theorem EventWork.time {s t : State} (h : EventWork s t) : timekeeping t = timekeeping s :=
  show timekeeping (exceptEvent t) = timekeeping (exceptEvent s) from congrArg timekeeping h.rest

@[simp] theorem timekeeping_ite (c : Prop) [Decidable c] (a b : State) :
    timekeeping (if c then a else b) = if c then timekeeping a else timekeeping b := apply_ite timekeeping c a b

/-! ### Marks, on-site states and excuses (Chapters 1 and 6) -/

@[simp] theorem time_modEntry (slot : Nat) (f : RollEntry → RollEntry) :
    timekeeping (modEntry slot f s) = timekeeping s := by
  rw [modEntry_rest]; rfl

@[simp] theorem time_alert (a : Alert) : timekeeping (alert a s) = timekeeping s := time_of_line (exceptLine_alert s a)

@[simp] theorem time_offerReport (b : ReportBody) : timekeeping (offerReport b s) = timekeeping s :=
  time_of_line (exceptLine_offerReport s b)

@[simp] theorem time_handFrame (seg : Nat) (f : FieldFrame) : timekeeping (handFrame seg f s) = timekeeping s :=
  time_of_line (exceptLine_handFrame s seg f)

@[simp] theorem time_tryOffers : timekeeping (tryOffers s) = timekeeping s := (tryOffers_work s).time

@[simp] theorem time_adjustOnSite (old new : OnSite) : timekeeping (adjustOnSite old new s) = timekeeping s := by
  rw [adjustOnSite_eq]; rfl

@[simp] theorem time_setOnSite (slot : Nat) (st : OnSite) : timekeeping (setOnSite slot st s) = timekeeping s := by
  unfold setOnSite; split <;> simp

@[simp] theorem time_arriveOffSite (slot : Nat) : timekeeping (arriveOffSite slot s) = timekeeping s := by
  unfold arriveOffSite; split <;> simp

@[simp] theorem time_markChanged (slot : Nat) (x : Session) (old new : MarkCode) :
    timekeeping (markChanged slot x old new s) = timekeeping s := (markChanged_work s slot x old new).time

@[simp] theorem time_setDue (slot : Nat) (r : DueReason) : timekeeping (setDue slot r s) = timekeeping s :=
  (setDue_work s slot r).time

@[simp] theorem time_writeMark (slot : Nat) (x : Session) (old new : Mark) :
    timekeeping (writeMark slot x old new s) = timekeeping s := by
  simp [writeMark]

@[simp] theorem time_requestMark (slot : Nat) (x : Session) (k : MarkRequest) :
    timekeeping (requestMark slot x k s) = timekeeping s := by
  unfold requestMark
  split
  · rfl
  · dsimp only
    split <;> simp

@[simp] theorem time_requestExcuses (slot : Nat) (l : List Session) :
    timekeeping (requestExcuses slot l s) = timekeeping s := by
  induction l generalizing s with
  | nil => rfl
  | cons x xs ih => simp [requestExcuses, ih]

@[simp] theorem time_setExcuses (l : List Excuse) : timekeeping (setExcuses l s) = timekeeping s := rfl

@[simp] theorem time_applyToday (slot d1 d2 : Nat) (n : Sessions) :
    timekeeping (applyToday slot d1 d2 n s) = timekeeping s := by
  simp [applyToday]

@[simp] theorem time_settleRequests (slot day : Nat) (l : List Excuse) :
    timekeeping (settleRequests slot day l s) = timekeeping s := by
  induction l generalizing s with
  | nil => rfl
  | cons e es ih => simp [settleRequests, ih]

theorem time_insertReport (r : ParentReport) (slot : Nat) :
    timekeeping (insertReport r slot s).1 = timekeeping s := by
  unfold insertReport
  dsimp only
  split
  · rfl
  · split <;> simp

theorem time_judgeReport (bs : List Byte) : timekeeping (judgeReport bs s).1 = timekeeping s := by
  unfold judgeReport
  split
  · rfl
  · split
    · rfl
    · split
      · exact time_alert s _
      · split
        · rfl
        · exact time_insertReport s _ _

theorem time_takeParentReport (bs : List Byte) : timekeeping (takeParentReport bs s) = timekeeping s :=
  (time_tryOffers _).trans <| (time_of_line (exceptLine_handGateway _ _)).trans (time_judgeReport s bs)

/-- The settlement of one slot leaves the schedule and the triggers (R16 to R19). -/
theorem time_settleEntry (slot day : Nat) (e : RollEntry) :
    timekeeping (settleEntry slot day e s) = timekeeping s := by
  have cleared (x : Session) (old : MarkCode) (u : State) : timekeeping (notifyCleared slot x old u) = timekeeping u :=
    (notifyCleared_work u slot x old).time
  simp [settleEntry, settleExcuses, cleared]

theorem time_settleCursor (day : Nat) : timekeeping (settleCursor day s) = timekeeping s := by
  unfold settleCursor
  split
  · rfl
  · split
    · rfl
    · exact time_settleEntry s _ _ _

/-! ### Gates (Chapter 4) -/

@[simp] theorem time_recordMovement (m : Movement) (slot : Nat) (x : Option Session) :
    timekeeping (recordMovement m slot x s) = timekeeping s := time_of_gates (exceptGates_recordMovement s m slot x)

@[simp] theorem time_makeArrivalRequest (slot minutes : Nat) (r : Option (Session × MarkRequest)) :
    timekeeping (makeArrivalRequest slot minutes r s) = timekeeping s := by
  unfold makeArrivalRequest
  split
  · rfl
  · simp [addMinutes]

@[simp] theorem time_judgeLateDue (slot : Nat) (r : Option (Session × MarkRequest)) :
    timekeeping (judgeLateDue slot r s) = timekeeping s := by
  unfold judgeLateDue
  split
  · rfl
  · simp

@[simp] theorem time_applyArrival (slot g : Nat) (j : Judged) (t now : Nat) (referral : Option Nat) (excused : Bool) :
    timekeeping (applyArrival slot g j t now referral excused s).1 = timekeeping s := by
  unfold applyArrival
  dsimp only
  split <;> simp [setArrival]

@[simp] theorem time_applySignOut (slot g now : Nat) (referral : Option Nat) :
    timekeeping (applySignOut slot g now referral s) = timekeeping s := by
  simp [applySignOut]

@[simp] theorem time_decided (t : TapIn) (a : Answer) (j : Option Judged) :
    timekeeping (decided t a j s) = timekeeping s := time_of_gates (exceptGates_decided s t a j)

@[simp] theorem time_makeReferral (t : TapIn) (slot pupil : Nat) (why : ReferralReason) (x : Option Session)
    (j : Option Judged) : timekeeping (makeReferral t slot pupil why x j s) = timekeeping s :=
  time_of_gates (exceptGates_makeReferral s t slot pupil why x j)

@[simp] theorem time_answerTap (t : TapIn) (a : Answer) (j : Option Judged) :
    timekeeping (answerTap t a j s) = timekeeping s := time_of_line (exceptLine_answerTap s t a j)

@[simp] theorem time_knownTap (t : TapIn) (slot : Nat) (e : RollEntry) :
    timekeeping (knownTap t slot e s) = timekeeping s := by
  unfold knownTap
  dsimp only
  split
  · simp
  · split <;> simp

theorem time_takeTap (g : Nat) (d : Direction) (seg : Nat) (a : Byte) (bs : List Byte) :
    timekeeping (takeTap g d seg a bs s) = timekeeping s := by
  have fresh (t : TapIn) : timekeeping (freshTap t s) = timekeeping s := by
    unfold freshTap
    split
    · simp
    · split <;> simp
  unfold takeTap
  split
  · exact time_of_line (exceptLine_answerReader s _ _ _ _ _ _)
  · unfold decideTap
    split <;> simp [fresh]

theorem time_decideReferral (g : Nat) (r : Referral) (d : Decision) :
    timekeeping (decideReferral g r d s).1 = timekeeping s := by
  have admitted (excused : Bool) : timekeeping (letIn g r excused s).1 = timekeeping s := by
    unfold letIn
    split
    · simp
    · dsimp only
      split <;> simp
  cases d with
  | letIn => exact admitted false
  | letInExcused => exact admitted true
  | refuse => exact time_of_gates (exceptGates_refuseHeld s g r)

theorem time_reqAnswerReferral (g number : Nat) (d : Decision) :
    timekeeping (reqAnswerReferral g number d s).1 = timekeeping s := by
  unfold reqAnswerReferral
  split
  · rfl
  · split
    · rfl
    · split
      · rfl
      · split
        · rfl
        · refine (time_tryOffers _).trans ?_
          refine (time_of_line (exceptLine_answerHeld _ _ _)).trans ?_
          exact time_decideReferral (clearReferral g s) g _ d

/-! ### Registers and walks (Chapter 5) -/

@[simp] theorem time_setFormAt (x : Session) (g : Nat) (w : FormWindow) :
    timekeeping (setFormAt x g w s) = timekeeping s := rfl

@[simp] theorem time_setRoomAt (k slot room : Nat) : timekeeping (setRoomAt k slot room s) = timekeeping s := rfl

@[simp] theorem time_markRegistered (slot : Nat) (x : Session) (group : Nat) :
    timekeeping (markRegistered slot x group s) = timekeeping s := by
  unfold markRegistered
  split
  · rfl
  · simp

theorem time_applyEntry (t : RegisterTarget) (en : Nat × EntryMark) :
    timekeeping (applyEntry t en s).1 = timekeeping s := by
  cases t with
  | form x g =>
    simp only [applyEntry, formEntry]
    split
    · rfl
    · split_ifs <;> simp [setTaken]
  | lesson k room =>
    simp only [applyEntry, lessonEntry]
    split
    · rfl
    · split_ifs <;> simp

theorem time_applyEntries (t : RegisterTarget) (l : List (Nat × EntryMark)) :
    timekeeping (applyEntries t l s).1 = timekeeping s := by
  induction l generalizing s with
  | nil => rfl
  | cons en ens ih =>
    unfold applyEntries
    dsimp only
    split <;> exact (ih _).trans (time_applyEntry s t en)

theorem time_takeRegister (bs : List Byte) : timekeeping (takeRegister bs s).1 = timekeeping s := by
  unfold takeRegister
  split
  · rfl
  · unfold applyRegister
    split
    · rfl
    · rfl
    · exact time_applyEntries s _ _

theorem time_walkStep (close : Bool) : timekeeping (walkStep close s) = timekeeping s := by
  have advanced (u : State) : timekeeping (advanceWalk u) = timekeeping u := by
    unfold advanceWalk
    split
    · rfl
    · split
      · exact (walkRequest_work _).time
      · rfl
  have visited (w : Walk) : timekeeping (walkVisit w s) = timekeeping s := by
    unfold walkVisit
    split
    · unfold closeVisit
      split
      · rfl
      · split
        · rfl
        · split <;> simp
    · unfold periodVisit
      split
      · rfl
      · simp
  unfold walkStep
  split
  · rfl
  · split
    · exact (advanced _).trans (visited _)
    · rfl

/-! ### Field frames (Chapter 8) -/

theorem time_replyToPoll (seg : Nat) (a : Byte) (e : Station) (kind : Byte) (bs : List Byte) :
    timekeeping (replyToPoll seg a e kind bs s) = timekeeping s := by
  have tap (u : State) : timekeeping (deliverTap seg a e bs u) = timekeeping u := by
    unfold deliverTap
    split
    · rfl
    · split
      · exact time_of_line (exceptLine_answerBusy u _ _ _ _)
      · exact time_takeTap u _ _ _ _ _
  have register (u : State) : timekeeping (deliverRegister seg a e bs u) = timekeeping u := by
    unfold deliverRegister
    split
    · rfl
    · split
      · exact time_of_line (exceptLine_answerBusy u _ _ _ _)
      · exact (time_handFrame _ _ _).trans (time_takeRegister u bs)
  unfold replyToPoll
  extract_lets t u
  have delivered : timekeeping u = timekeeping t := by simp [u, tap, register]
  exact (time_of_line (exceptLine_closeExchange u seg)).trans <| delivered.trans
    (time_of_line (exceptLine_creditExchange s seg a true))

theorem time_fieldFrame (seg : Nat) (src kind : Byte) (bs : List Byte) :
    timekeeping (fieldFrame seg src kind bs s) = timekeeping s := by
  unfold fieldFrame
  split
  · rfl
  · split
    · exact time_of_bell (exceptBell_strangerFrame s _ _ _ _)
    · unfold classifiedFrame
      split
      · rfl
      · split
        · rfl
        · split
          · exact time_replyToPoll s _ _ _ _ _
          · unfold replyToBell
            split <;> exact time_of_bell (by simp)

/-! ### Requests that do not concern the schedule (Chapter 9) -/

theorem time_dropSlot (slot : Nat) (e : RollEntry) : timekeeping (dropSlot slot e s) = timekeeping s :=
  (leaveNotices_work (adjustOnSite e.day.onSite .offSite s) e.pupil _).time.trans (time_adjustOnSite s _ _)

theorem time_reqAddExcuse (a : AddExcuseArgs) : timekeeping (reqAddExcuse a s).1 = timekeeping s := by
  unfold reqAddExcuse
  split_ifs
  · rfl
  · rfl
  · rfl
  · split
    · rfl
    · dsimp only
      split_ifs
      · rfl
      · rfl
      · simp [insertOffice, served]

theorem time_reqLoadRoll (a : LoadRollArgs) : timekeeping (reqLoadRoll a s).1 = timekeeping s := by
  unfold reqLoadRoll
  iterate 3 split; · rfl
  split
  · split
    · rfl
    · exact time_modEntry s _ _
  · split
    · rfl
    · split <;> rfl

theorem time_reqDropRoll (n : Nat) : timekeeping (reqDropRoll n s).1 = timekeeping s := by
  unfold reqDropRoll
  split_ifs
  · rfl
  · rfl
  · split
    · rfl
    · split_ifs
      · rfl
      · exact (time_tryOffers _).trans (time_dropSlot s _ _)

theorem time_reqLoadFamily (f : Nat) (held : Bool) (cs : List Contact) :
    timekeeping (reqLoadFamily f held cs s).1 = timekeeping s := by
  unfold reqLoadFamily
  split_ifs
  · rfl
  · rfl
  · rfl
  · rfl
  · exact (time_tryOffers _).trans (reseatNotices_work (withFamily f ⟨held, cs⟩ s) _ _ _).time

theorem time_reqSetMark (n : Nat) (x : Session) (code : MarkCode) :
    timekeeping (reqSetMark n x code s).1 = timekeeping s := by
  unfold reqSetMark
  split_ifs
  · rfl
  · rfl
  · split
    · rfl
    · dsimp only
      split_ifs
      · rfl
      · exact (time_tryOffers _).trans (time_requestMark s _ x _)

theorem time_reqSendNotice (f t : Nat) (ps : List Nat) : timekeeping (reqSendNotice f t ps s).1 = timekeeping s := by
  unfold reqSendNotice
  iterate 5 split; · rfl
  split
  · rfl
  · split
    · rfl
    · exact time_tryOffers _

end Sys2Proof.Machine
end

section
/-! PROOFS. The clock, the schedule state and the settlements outstanding stay in agreement (R28 to R40, R173): the
agreement in two parts, runs of events within a day, triggers and settlements, and every command. -/

namespace Sys2Proof.Machine

open Sys2Proof

/-! ### The agreement -/

/-- The clock, the schedule state, the plans and the cursor agree. -/
structure SchedSound (u : ScheduleUnit) : Prop where
  day : u.day ≤ 366
  second : u.second ≤ 86399
  zero : u.clock = .unset → u.day = 0 ∧ u.second = 0
  unset : u.state = .unset ↔ u.clock = .unset
  ending : u.state = .ending ↔ u.outstanding ≠ 0
  active : u.state = .active ↔ u.active.isSome = true
  cursor : u.cursor = .absent ↔ u.active = none
  staged : u.staged.isSome = true → u.state = .active

/-- The schedule agrees in itself and with the triggers held and in progress. -/
structure ScheduleSound (s : State) : Prop where
  sched : SchedSound s.sched
  due : s.sched.outstanding = settlementsDue s

theorem scheduleConsistent_iff {s : State} :
    ScheduleConsistent s ↔ ScheduleSound s ∧ (s.office.catchUp = true → s.sched.outstanding ≠ 0) := by
  constructor
  · rintro ⟨day, second, zero, unset, ending, active, cursor, staged, due, catchUp⟩
    exact ⟨⟨⟨day, second, zero, unset, ending, active, cursor, staged⟩, due⟩, catchUp⟩
  · rintro ⟨⟨⟨day, second, zero, unset, ending, active, cursor, staged⟩, due⟩, catchUp⟩
    exact ⟨day, second, zero, unset, ending, active, cursor, staged, due, catchUp⟩

theorem schedSound_core {u : ScheduleUnit} : SchedSound (schedCore u) ↔ SchedSound u :=
  ⟨fun ⟨day, second, zero, unset, ending, active, cursor, staged⟩ =>
    ⟨day, second, zero, unset, ending, active, cursor, staged⟩,
   fun ⟨day, second, zero, unset, ending, active, cursor, staged⟩ =>
    ⟨day, second, zero, unset, ending, active, cursor, staged⟩⟩

/-- A day in which plans can run: the clock is set and no settlement is outstanding. -/
abbrev OpenDay (u : ScheduleUnit) : Prop :=
  u.clock = .set ∧ u.day ≤ 366 ∧ u.second ≤ 86399 ∧ u.outstanding = 0

section

variable {u : ScheduleUnit}

theorem SchedSound.clockSet (h : SchedSound u) (state : u.state ≠ .unset) : u.clock = .set := by
  cases hc : u.clock with
  | set => rfl
  | unset => exact absurd (h.unset.mpr hc) state

theorem SchedSound.openDay (h : SchedSound u) (unset : u.state ≠ .unset) (ending : u.state ≠ .ending) : OpenDay u :=
  ⟨h.clockSet unset, h.day, h.second, not_not.mp (mt h.ending.mpr ending)⟩

/-- Nothing is staged outside ACTIVE. -/
theorem SchedSound.unstaged (h : SchedSound u) (state : u.state ≠ .active) : u.staged = none :=
  Option.not_isSome_iff_eq_none.mp (mt h.staged state)

/-- An open day with an active plan. -/
theorem SchedSound.planned (day : OpenDay u) (state : u.state = .active) (active : u.active.isSome = true)
    (cursor : u.cursor ≠ .absent) : SchedSound u := by
  obtain ⟨clock, day, second, outstanding⟩ := day
  obtain ⟨p, hp⟩ := Option.isSome_iff_exists.mp active
  exact ⟨day, second, by simp [clock], by simp [state, clock], by simp [state, outstanding], by simp [state, hp],
    by simp [cursor, hp], fun _ => state⟩

/-- An open day without a plan. -/
theorem SchedSound.unplanned (day : OpenDay u) (state : u.state = .closedDay) (active : u.active = none)
    (cursor : u.cursor = .absent) (staged : u.staged = none) : SchedSound u := by
  obtain ⟨clock, day, second, outstanding⟩ := day
  exact ⟨day, second, by simp [clock], by simp [state, clock], by simp [state, outstanding], by simp [state, active],
    by simp [cursor, active], by simp [staged]⟩

/-- A day that has ended, with a settlement outstanding. -/
theorem SchedSound.ended (clock : u.clock = .set) (day : u.day ≤ 366) (second : u.second ≤ 86399)
    (state : u.state = .ending) (outstanding : u.outstanding ≠ 0) (active : u.active = none)
    (cursor : u.cursor = .absent) (staged : u.staged = none) : SchedSound u :=
  ⟨day, second, by simp [clock], by simp [state, clock], by simp [state, outstanding], by simp [state, active],
    by simp [cursor, active], by simp [staged]⟩

theorem SchedSound.withCursor (h : SchedSound u) (plan : u.active ≠ none) {c : Cursor} (hc : c ≠ .absent) :
    SchedSound { u with cursor := c } :=
  ⟨h.day, h.second, h.zero, h.unset, h.ending, h.active, by simp [hc, plan], h.staged⟩

theorem SchedSound.withSecond (h : SchedSound u) (set : u.clock = .set) {second : Nat} (hs : second ≤ 86399) :
    SchedSound { u with second := second } :=
  ⟨h.day, hs, by simp [set], h.unset, h.ending, h.active, h.cursor, h.staged⟩

end

section

variable {s t u : State}

theorem settling_of_time (h : timekeeping t = timekeeping s) : settling t = settling s := congrArg Prod.snd h

theorem outstanding_of_settling (h : settling t = settling s) : t.sched.outstanding = s.sched.outstanding :=
  congrArg Prod.fst h

theorem catchUp_of_settling (h : settling t = settling s) : t.office.catchUp = s.office.catchUp :=
  congrArg (fun x : Nat × RollState × List Nat × Bool => x.2.2.2) h

theorem settlementsDue_eq (s : State) :
    settlementsDue s = s.roll.heldTriggers.length + if s.roll.rollState = .normal then 0 else 1 := by
  by_cases h : s.roll.rollState = .normal <;> simp [settlementsDue, rollingOver, h]

theorem settlementsDue_of_settling (h : settling t = settling s) : settlementsDue t = settlementsDue s := by
  simp only [settling, Prod.mk.injEq] at h
  obtain ⟨-, rollState, held, -⟩ := h
  rw [settlementsDue_eq, settlementsDue_eq, rollState, held]

theorem ScheduleSound.of_settling (h : ScheduleSound s) (sched : SchedSound t.sched) (same : settling t = settling s) :
    ScheduleSound t :=
  ⟨sched, (outstanding_of_settling same).trans (h.due.trans (settlementsDue_of_settling same).symm)⟩

/-! ### What keeps the agreement -/

/-- A change that keeps the agreement. -/
structure ScheduleKept (s t : State) : Prop where
  keeps : ScheduleConsistent s → ScheduleConsistent t

theorem ScheduleKept.refl (s : State) : ScheduleKept s s := ⟨id⟩

theorem ScheduleKept.trans (h : ScheduleKept s t) (k : ScheduleKept t u) : ScheduleKept s u := ⟨k.keeps ∘ h.keeps⟩

/-- A change within the day: no settlement begins or ends. -/
structure DayRun (s t : State) : Prop where
  sound : SchedSound s.sched → SchedSound t.sched
  settling : settling t = settling s

theorem DayRun.of_time (h : timekeeping t = timekeeping s) : DayRun s t where
  sound hs := by
    have core : schedCore t.sched = schedCore s.sched := congrArg Prod.fst h
    exact schedSound_core.mp (core ▸ schedSound_core.mpr hs)
  settling := settling_of_time h

theorem DayRun.refl (s : State) : DayRun s s := .of_time rfl

theorem DayRun.trans (h : DayRun s t) (k : DayRun t u) : DayRun s u :=
  ⟨k.sound ∘ h.sound, k.settling.trans h.settling⟩

theorem DayRun.kept (h : DayRun s t) : ScheduleKept s t := by
  refine ⟨fun hs => ?_⟩
  obtain ⟨sound, catchUp⟩ := scheduleConsistent_iff.mp hs
  refine scheduleConsistent_iff.mpr ⟨sound.of_settling (h.sound sound.sched) h.settling, ?_⟩
  rw [outstanding_of_settling h.settling, catchUp_of_settling h.settling]
  exact catchUp

theorem ScheduleKept.of_time (h : timekeeping t = timekeeping s) : ScheduleKept s t := (DayRun.of_time h).kept

end

variable (s : State)

/-! ### Events and swaps within the day (R33 to R38) -/

theorem cursorAfter_ne_absent (es : List Event) (i : Nat) : cursorAfter es i ≠ .absent := by
  unfold cursorAfter; split <;> nofun

theorem seatCursor_ne_absent (es : List Event) (t : Nat) : seatCursor es t ≠ .absent := by
  unfold seatCursor; split <;> nofun

theorem firstCursor_ne_absent (es : List Event) : firstCursor es ≠ .absent := by
  unfold firstCursor; split <;> nofun

theorem DayRun.cursor (plan : SchedSound s.sched → s.sched.active ≠ none) {c : Cursor} (hc : c ≠ .absent) :
    DayRun s (s.modSched fun u => { u with cursor := c }) := ⟨fun h => h.withCursor (plan h) hc, rfl⟩

theorem settling_swapTo (p t : Nat) : settling (swapTo p t s) = settling s :=
  (settling_of_time (time_of_register (exceptRegister_swapTo p t s))).trans rfl

/-- A swap in an open day leaves the new plan active. -/
theorem swapTo_sound (p t : Nat) {s : State} (day : OpenDay s.sched) (state : s.sched.state = .active) :
    SchedSound (swapTo p t s).sched := by
  rw [swapTo_sched]
  exact .planned day state rfl (seatCursor_ne_absent _ t)

theorem swapStaged_run (t : Nat) : DayRun s (swapStaged t s) := by
  unfold swapStaged
  split
  · exact .refl s
  · rename_i p hp
    refine ⟨fun h => ?_, settling_swapTo s p t⟩
    have state : s.sched.state = .active := h.staged (by rw [hp]; rfl)
    exact swapTo_sound p t (h.openDay (by simp [state]) (by simp [state])) state

theorem swapAtEdge_run : DayRun s (swapAtEdge s) := by
  unfold swapAtEdge
  split
  · exact swapStaged_run s _
  · exact .refl s

theorem setProcessed_run (t : Nat) : DayRun s (setProcessed t s) := .of_time rfl

theorem takeEvent_time (sounding : Bool) (e : Event) : timekeeping (takeEvent sounding e s) = timekeeping s := by
  have job (j : BellJob) (u : State) : timekeeping (takeJob j u) = timekeeping u :=
    time_of_bell (exceptBell_takeJob u j)
  have side (u : State) : timekeeping (eventSide e.act u) = timekeeping u := (eventSide_work u e.act).time
  unfold takeEvent
  split
  · exact side s
  · split
    · dsimp only
      split
      · exact (side _).trans (job _ _)
      · exact (job _ _).trans (side _)
    · exact (job _ _).trans (side s)

/-- A cursor at an event is the cursor of an active plan. -/
theorem active_of_nextEvent {s : State} {i : Nat} {e : Event} (next : nextEvent s = some (i, e))
    (h : SchedSound s.sched) : s.sched.active ≠ none := by
  intro none
  have absent := h.cursor.mpr none
  rw [(nextEvent_eq_some.mp next).1] at absent
  cases absent

theorem takeNextEvent_run (sounding : Bool) {i : Nat} {e : Event} (next : nextEvent s = some (i, e)) :
    DayRun s (takeNextEvent sounding i e s) := by
  have taken : DayRun s ((takeEvent sounding e s).modSched fun u =>
      { u with cursor := cursorAfter (activeEvents s) i }) := by
    refine (DayRun.of_time (takeEvent_time s sounding e)).trans (.cursor _ (fun h => ?_) (cursorAfter_ne_absent _ _))
    rw [takeEvent_sched] at h ⊢
    exact active_of_nextEvent next h
  unfold takeNextEvent
  dsimp only
  split
  · exact taken.trans (swapStaged_run _ _)
  · exact taken

theorem runEvents_run (sounding : Bool) (t1 : Option Nat) (t2 fuel : Nat) :
    DayRun s (runEvents sounding t1 t2 fuel s) := by
  induction fuel generalizing s with
  | zero => exact .refl s
  | succ k ih =>
    unfold runEvents
    split
    · exact .refl s
    · rename_i i e next
      have taken := (takeNextEvent_run s sounding next).trans (ih _)
      have passed := (DayRun.cursor s (active_of_nextEvent next) (cursorAfter_ne_absent (activeEvents s) i)).trans
        (ih _)
      split
      · exact .refl s
      · cases t1 with
        | none => exact taken
        | some t =>
          dsimp only
          split
          · exact taken
          · exact passed

theorem silentRun_run (t1 : Option Nat) (t2 : Nat) : DayRun s (silentRun t1 t2 s) :=
  (runEvents_run s false t1 t2 65).trans <| (swapAtEdge_run _).trans (setProcessed_run _ t2)

theorem tickEvents_run : DayRun s (tickEvents s) :=
  (runEvents_run s true none s.sched.second 65).trans <| (swapAtEdge_run _).trans (setProcessed_run _ _)

/-! ### The new day (R40) -/

/-- A day begun is in agreement. -/
theorem beginDay_sound {s : State} (day : OpenDay s.sched) (staged : s.sched.staged = none) :
    SchedSound (beginDay s).sched ∧ settling (beginDay s) = settling s := by
  unfold beginDay
  split
  · rename_i p _
    let z := s.modSched fun u =>
      { u with active := some p, cursor := firstCursor (tabGet [] u.plans p), state := .active }
    have run := silentRun_run z none s.sched.second
    exact ⟨run.sound (.planned day rfl rfl (firstCursor_ne_absent _)), run.settling⟩
  · let z := s.modSched fun u => { u with active := none, cursor := .absent, state := .closedDay }
    have run := setProcessed_run z s.sched.second
    exact ⟨run.sound (.unplanned day rfl rfl rfl staged), run.settling⟩

/-! ### Triggers (R15, R39) -/

theorem dayEndNotice_run : DayRun s (dayEndNotice s) := by
  have ended := dayEndNotice_ends s
  obtain ⟨-, -, -, -, catchUp⟩ := ended.control
  refine .of_time ?_
  rw [timekeeping, settling, ended.sched, ended.roll, catchUp]
  rfl

theorem settlementsDue_startSettlement (day : Nat) :
    settlementsDue (startSettlement day s) = s.roll.heldTriggers.length + 1 := by
  let z := s.modRoll fun u => { u with rollState := .rollover day, cursor := 0 }
  exact (settlementsDue_of_settling (dayEndNotice_run z).settling).trans (settlementsDue_eq z)

theorem startSettlement_catchUp (day : Nat) : (startSettlement day s).office.catchUp = s.office.catchUp :=
  have same := catchUp_of_settling
    (dayEndNotice_run (s.modRoll fun u => { u with rollState := .rollover day, cursor := 0 })).settling
  same

theorem startSettlement_sched (day : Nat) : (startSettlement day s).sched = s.sched := (dayEndNotice_ends _).sched

theorem idle_of_maySettle {s : State} (h : maySettle s = true) : s.roll.rollState = .normal := by
  obtain ⟨idle, -⟩ := Bool.and_eq_true_iff.mp h
  simpa [rollingOver] using idle

/-- A settlement that starts or is held is one more due. -/
theorem settlementsDue_passTrigger (day : Nat) : settlementsDue (passTrigger day s) = settlementsDue s + 1 := by
  unfold passTrigger
  split
  · rename_i free
    obtain ⟨may, held⟩ := Bool.and_eq_true_iff.mp free
    rw [settlementsDue_startSettlement, settlementsDue_eq, if_pos (idle_of_maySettle may)]
  · rw [settlementsDue_eq, settlementsDue_eq]
    show (s.roll.heldTriggers ++ [day]).length + (if s.roll.rollState = .normal then 0 else 1) = _
    rw [List.length_append, List.length_singleton]
    omega

/-- A trigger ends the day: one more settlement is outstanding, and one more is due. -/
theorem rolloverTrigger_sound (day : Nat) {s : State} (set : s.sched.clock = .set) (h : ScheduleSound s) :
    ScheduleSound (rolloverTrigger day s) := by
  constructor
  · rw [rolloverTrigger_sched]
    exact .ended set h.sched.day h.sched.second rfl (Nat.succ_ne_zero _) rfl rfl rfl
  · rw [rolloverTrigger_sched, rolloverTrigger_eq, settlementsDue_passTrigger]
    exact congrArg (· + 1) h.due

theorem rolloverTrigger_kept (day : Nat) {s : State} (set : s.sched.clock = .set) (h : ScheduleSound s) :
    ScheduleConsistent (rolloverTrigger day s) := by
  refine scheduleConsistent_iff.mpr ⟨rolloverTrigger_sound day set h, fun _ => ?_⟩
  rw [rolloverTrigger_sched]
  exact Nat.succ_ne_zero _

theorem passTriggers_sound (l : List Nat) {s : State} (set : l ≠ [] → s.sched.clock = .set) (h : ScheduleSound s) :
    ScheduleSound (passTriggers l s) := by
  induction l generalizing s with
  | nil => exact h
  | cons d ds ih =>
    have clock := set (List.cons_ne_nil d ds)
    refine ih (fun _ => ?_) (rolloverTrigger_sound d clock h)
    rw [rolloverTrigger_sched]
    exact clock

/-! ### Settlements (R15, R40, R173) -/

/-- A held trigger whose settlement starts is still due. -/
theorem takeSettlementStart_kept : ScheduleKept s (takeSettlementStart s) := by
  unfold takeSettlementStart
  split
  · exact .refl s
  · rename_i d ds held
    split
    · rename_i may
      refine ⟨fun h => ?_⟩
      obtain ⟨⟨sched, due⟩, catchUp⟩ := scheduleConsistent_iff.mp h
      let z := s.modRoll fun u => { u with heldTriggers := ds }
      have same : settlementsDue (startSettlement d z) = settlementsDue s := by
        rw [settlementsDue_startSettlement, settlementsDue_eq, held, if_pos (idle_of_maySettle may)]
        rfl
      refine scheduleConsistent_iff.mpr ⟨⟨?_, ?_⟩, ?_⟩
      · rw [startSettlement_sched]; exact sched
      · rw [startSettlement_sched, same]; exact due
      · rw [startSettlement_sched, startSettlement_catchUp]; exact catchUp
    · exact .refl s

/-- A settlement complete: the next one waits, or the new day begins. -/
theorem completeSettlement_kept {day : Nat} (rolling : s.roll.rollState = .rollover day) :
    ScheduleKept s (completeSettlement s) := by
  refine ⟨fun h => ?_⟩
  obtain ⟨⟨sched, due⟩, -⟩ := scheduleConsistent_iff.mp h
  rw [settlementsDue_eq, rolling, if_neg nofun] at due
  have ending : s.sched.state = .ending := sched.ending.mpr (by omega)
  have clock := sched.clockSet (by simp [ending])
  have staged := sched.unstaged (by simp [ending])
  unfold completeSettlement
  extract_lets t
  have dueAfter : t.sched.outstanding = settlementsDue t := by
    rw [settlementsDue_eq]
    show s.sched.outstanding - 1 = s.roll.heldTriggers.length + 0
    omega
  split
  · rename_i last
    obtain ⟨begun, same⟩ := beginDay_sound (s := t) ⟨clock, sched.day, sched.second, last⟩ staged
    have sound : ScheduleSound (beginDay t) := by
      refine ⟨begun, ?_⟩
      rw [outstanding_of_settling same, settlementsDue_of_settling same, dueAfter]
    exact scheduleConsistent_iff.mpr ⟨⟨sound.sched, sound.due⟩, nofun⟩
  · rename_i more
    refine scheduleConsistent_iff.mpr ⟨⟨?_, dueAfter⟩, fun _ => more⟩
    have active : s.sched.active = none := by
      simpa [ending] using sched.active
    exact .ended clock sched.day sched.second ending more active (sched.cursor.mpr active) staged

theorem takeSettleSlot_kept : ScheduleKept s (takeSettleSlot s) := by
  unfold takeSettleSlot
  split
  · exact .refl s
  · rename_i day rolling
    extract_lets t
    have settled : timekeeping t = timekeeping s := by
      unfold t
      split
      · rfl
      · exact time_settleCursor s day
    split
    · let z := t.modRoll fun u => { u with cursor := Config.rollSlots }
      have rollState : z.roll.rollState = .rollover day :=
        (congrArg (fun x : ScheduleUnit × (Nat × RollState × List Nat × Bool) => x.2.2.1) settled).trans rolling
      exact (ScheduleKept.of_time settled).trans <| (ScheduleKept.of_time (s := t) (t := z) rfl).trans <|
        (completeSettlement_kept z rollState).trans (.of_time (time_tryOffers _))
    · exact .of_time settled

/-! ### The seconds tick (R28 to R30) -/

theorem advanceClock_clock (u : ScheduleUnit) : (advanceClock u).1.clock = u.clock := by
  unfold advanceClock; split_ifs <;> rfl

theorem advanceClock_sound {u : ScheduleUnit} (h : SchedSound u) : SchedSound (advanceClock u).1 := by
  unfold advanceClock
  split
  · exact h
  · rename_i set
    have unset (day second : Nat) : u.clock = .unset → day = 0 ∧ second = 0 := fun hc => absurd hc set
    split
    · rename_i hs
      have second : u.second + 1 ≤ 86399 := hs
      exact ⟨h.day, second, unset _ _, h.unset, h.ending, h.active, h.cursor, h.staged⟩
    · split
      · rename_i hd
        have day : u.day + 1 ≤ 366 := hd
        exact ⟨day, Nat.zero_le _, unset _ _, h.unset, h.ending, h.active, h.cursor, h.staged⟩
      · exact ⟨h.day, Nat.zero_le _, unset _ _, h.unset, h.ending, h.active, h.cursor, h.staged⟩

theorem advanceClock_outstanding (u : ScheduleUnit) : (advanceClock u).1.outstanding = u.outstanding := by
  unfold advanceClock; split_ifs <;> rfl

theorem tickClockOnly_run : DayRun s (tickClockOnly s) := by
  refine ⟨advanceClock_sound, ?_⟩
  show ((advanceClock s.sched).1.outstanding, _) = _
  rw [advanceClock_outstanding]
  rfl

theorem tickClock_kept : ScheduleKept s (tickClock s) := by
  unfold tickClock
  split
  · exact .refl s
  · rename_i set
    extract_lets wrapped t
    have moved : ScheduleKept s t := (tickClockOnly_run s).kept
    refine moved.trans (.trans (t := if wrapped then rolloverTrigger t.sched.day t else t) ?_ (tickEvents_run _).kept)
    split
    · refine ⟨fun h => ?_⟩
      have clock : t.sched.clock = .set := by
        rw [show t.sched.clock = s.sched.clock from advanceClock_clock s.sched]
        cases hc : s.sched.clock with
        | set => rfl
        | unset => exact absurd hc set
      exact rolloverTrigger_kept _ clock (scheduleConsistent_iff.mp h).1
    · exact .refl t

theorem takeTick_kept : ScheduleKept s (takeTick s) := by
  have gates (t : State) (f : Nat → State → State) (hf : ∀ g s, exceptGates (f g s) = exceptGates s) :
      timekeeping (eachGate f (List.range 8) t) = timekeeping t :=
    time_of_gates (exceptGates_eachGate t hf _)
  have expiries : timekeeping (takeExpiries s) = timekeeping s :=
    (takeTimeouts_work _ _).time.trans (gates s _ fun g s => exceptGates_takeReferralExpiry s g)
  have timers (t : State) : timekeeping (tickTimers t) = timekeeping t :=
    (time_of_bell (exceptBell_tickSounding _)).trans <|
      (modMsg_work _ _).time.trans (gates t _ fun g s => exceptGates_tickGate s g)
  exact (ScheduleKept.of_time expiries).trans <| (ScheduleKept.of_time (timers _)).trans <| (tickClock_kept _).trans <|
    (ScheduleKept.of_time (time_of_bell (exceptBell_bellRun _))).trans (.of_time (time_tryOffers _))

end Sys2Proof.Machine
end

section
/-! PROOFS. The agreement of clock, schedule and settlements through clock setting, staging, restarts and every command
(R37, R41 to R44, R168 to R173). -/

namespace Sys2Proof.Machine

open Sys2Proof

variable (s : State)

/-! ### Setting the clock and staging (R37, R41 to R44) -/

theorem setUnsetClock_kept {day second : Nat} (hd : day ≤ 365) (hs : second ≤ 86399) (unset : s.sched.clock = .unset) :
    ScheduleKept s (setUnsetClock day second s) := by
  refine ⟨fun h => ?_⟩
  obtain ⟨⟨sched, due⟩, catchUp⟩ := scheduleConsistent_iff.mp h
  have state := sched.unset.mpr unset
  have none : s.sched.outstanding = 0 := not_not.mp (mt sched.ending.mpr (by simp [state]))
  have staged := sched.unstaged (by simp [state])
  let z := (s.modSched fun u => { u with clock := .set, day := day, second := second }).modRoll fun u =>
    { u with roll := u.roll.map fun p => (p.1, { p.2 with recordDay := day }) }
  obtain ⟨begun, same⟩ := beginDay_sound (s := z) ⟨rfl, by show day ≤ 366; omega, hs, none⟩ staged
  have old : settling z = settling s := rfl
  refine scheduleConsistent_iff.mpr ⟨ScheduleSound.of_settling ⟨sched, due⟩ begun (same.trans old), ?_⟩
  show (beginDay z).office.catchUp = true → (beginDay z).sched.outstanding ≠ 0
  rw [catchUp_of_settling same, outstanding_of_settling same]
  exact catchUp

theorem setOtherDay_kept {day second : Nat} (hd : day ≤ 365) (hs : second ≤ 86399) (set : s.sched.clock = .set) :
    ScheduleKept s (setOtherDay day second s) := by
  refine ⟨fun h => ?_⟩
  obtain ⟨⟨sched, due⟩, -⟩ := scheduleConsistent_iff.mp h
  let z := s.modSched fun u => { u with day := day, second := second }
  have sound : ScheduleSound z := by
    refine ⟨⟨by show day ≤ 366; omega, hs, fun unset => ?_, sched.unset, sched.ending, sched.active, sched.cursor,
      sched.staged⟩, due⟩
    rw [show s.sched.clock = .unset from unset] at set
    cases set
  exact rolloverTrigger_kept day (s := z) set sound

theorem withSecond_run {second : Nat} (hs : second ≤ 86399) (set : s.sched.clock = .set) :
    DayRun s (s.modSched fun u => { u with second := second }) := ⟨fun h => h.withSecond set hs, rfl⟩

theorem setForward_run {second : Nat} (hs : second ≤ 86399) (set : s.sched.clock = .set) :
    DayRun s (setForward second s) := by
  unfold setForward
  dsimp only
  split
  · exact (withSecond_run s hs set).trans (silentRun_run _ _ _)
  · exact withSecond_run s hs set

theorem setBackward_run {second : Nat} (hs : second ≤ 86399) (set : s.sched.clock = .set) :
    DayRun s (setBackward second s) := by
  unfold setBackward
  extract_lets es t
  have moved : DayRun s t := withSecond_run s hs set
  split
  · rename_i active
    have seated : DayRun t (t.modSched fun u => { u with cursor := seatCursor es second }) := by
      refine .cursor t (fun h => ?_) (seatCursor_ne_absent es second)
      exact Option.ne_none_iff_isSome.mpr (h.active.mp active)
    exact moved.trans <| seated.trans <| (setProcessed_run _ second).trans (swapAtEdge_run _)
  · exact moved

theorem setClock_kept {day second : Nat} (hd : day ≤ 365) (hs : second ≤ 86399) :
    ScheduleKept s (setClock day second s) := by
  unfold setClock
  split
  · exact setUnsetClock_kept s hd hs ‹_›
  · rename_i clock
    have set : s.sched.clock = .set := by
      cases hc : s.sched.clock with
      | set => rfl
      | unset => exact absurd hc clock
    split
    · exact setOtherDay_kept s hd hs set
    · split
      · exact (setForward_run s hs set).kept
      · split
        · exact (setBackward_run s hs set).kept
        · exact .refl s

theorem reqSetClock_kept (day second : Nat) : ScheduleKept s (reqSetClock day second s).1 := by
  unfold reqSetClock
  split
  · exact .refl s
  · rename_i legal
    have hd : day ≤ 365 := by by_contra h; simp_all
    have hs : second ≤ 86399 := by
      by_contra h
      have : Config.lastSecond < second := Nat.lt_of_not_le h
      simp_all
    split
    · exact .refl s
    · exact (setClock_kept s hd hs).trans (.of_time (time_tryOffers _))

theorem stageActive_kept (p : Nat) (active : s.sched.state = .active) : ScheduleKept s (stageActive p s).1 := by
  have staged (x : Option Nat) : DayRun s (s.modSched fun u => { u with staged := x }) :=
    ⟨fun h => ⟨h.day, h.second, h.zero, h.unset, h.ending, h.active, h.cursor, fun _ => active⟩, rfl⟩
  unfold stageActive
  split
  · exact (staged none).kept
  · exact (staged (some p)).kept.trans <| (swapAtEdge_run _).kept.trans (.of_time (time_tryOffers _))

/-- A plan made active on a closed day (R37). -/
theorem swapClosedDay_kept (p second : Nat) (closed : s.sched.state = .closedDay) :
    ScheduleKept s (swapTo p second (s.modSched fun u => { u with state := .active })) := by
  have same : settling (swapTo p second (s.modSched fun u => { u with state := .active })) = settling s :=
    (settling_swapTo _ p second).trans rfl
  refine DayRun.kept ⟨fun sched => ?_, same⟩
  have day : OpenDay s.sched := sched.openDay (by simp [closed]) (by simp [closed])
  exact swapTo_sound p second day rfl

theorem reqStagePlan_kept (p : Nat) : ScheduleKept s (reqStagePlan p s).1 := by
  unfold reqStagePlan
  split
  · exact .refl s
  · split
    · exact .refl s
    · split
      · exact .refl s
      · exact .refl s
      · exact stageActive_kept s p ‹_›
      · exact (swapClosedDay_kept s p _ ‹_›).trans (.of_time (time_tryOffers _))

/-! ### Restarts and power (R168 to R173) -/

theorem time_restartSecond : timekeeping (restartSecond s) = timekeeping s := by
  have gates (t : State) : timekeeping (gateRestart t) = timekeeping t := time_of_gates (exceptGates_gateRestart t)
  have messages (t : State) : timekeeping (messageRestart t) = timekeeping t := (messageRestart_work t).time
  have both (t : State) : timekeeping (restartGateMessage t) = timekeeping t := by
    unfold restartGateMessage
    split
    · dsimp only
      split
      · exact (gates _).trans (messages _)
      · exact (messages _).trans (gates _)
    · exact (messages _).trans (gates _)
  exact (time_of_register (exceptRegister_registerRestart _)).trans <| (both _).trans
    (time_of_bell (exceptBell_bellRestart s))

theorem resumeSettlement_run : DayRun s (resumeSettlement s) := by
  unfold resumeSettlement
  split
  · exact dayEndNotice_run s
  · exact .refl s

theorem catchUpEvents_run : DayRun s (catchUpEvents s) := by
  unfold catchUpEvents
  split
  · exact silentRun_run s _ _
  · exact setProcessed_run s _

theorem clockSet_of_missedDays {s : State} (h : missedDays s ≠ []) : s.sched.clock = .set := by
  unfold missedDays at h
  split at h
  · assumption
  · exact absurd rfl h

/-- The third stage of a restart: a trigger for each missed day, and catch-up for as long as one is outstanding. -/
theorem beginCatchUp_kept : ScheduleKept s (beginCatchUp s) := by
  refine ⟨fun h => ?_⟩
  have start : ScheduleSound s := (scheduleConsistent_iff.mp h).1
  unfold beginCatchUp
  extract_lets days t u
  have caught : ScheduleSound t := ⟨start.sched, start.due⟩
  have resumed : ScheduleSound (resumeSettlement t) :=
    caught.of_settling ((resumeSettlement_run t).sound caught.sched) (resumeSettlement_run t).settling
  have clock : (resumeSettlement t).sched.clock = s.sched.clock := by
    unfold resumeSettlement
    split
    · rw [(dayEndNotice_ends t).sched]; rfl
    · rfl
  have passed : ScheduleSound u := passTriggers_sound days (fun h => clock.trans (clockSet_of_missedDays h)) resumed
  split
  · have run := catchUpEvents_run u
    have sound := passed.of_settling (run.sound passed.sched) run.settling
    exact scheduleConsistent_iff.mpr ⟨⟨sound.sched, sound.due⟩, nofun⟩
  · exact scheduleConsistent_iff.mpr ⟨passed, fun _ => ‹_›⟩

theorem time_chooseAll (l : List Nat) : timekeeping (chooseAll l s) = timekeeping s :=
  time_of_line (exceptLine_chooseAll s l)

theorem restartFirst_run : DayRun s (restartFirst s) := .of_time rfl

theorem restartSecond_run : DayRun s (restartSecond s) := .of_time (time_restartSecond s)

theorem restoreRetention_run : DayRun s (s.modOffice fun o =>
    { o with retentionValid := o.retentionValid || !o.backupLow }) := .of_time rfl

theorem chooseAll_run (l : List Nat) : DayRun s (chooseAll l s) := .of_time (time_chooseAll s l)

theorem served_kept {s t : State} (d : ReplyData) (h : ScheduleKept s t) : ScheduleKept s (served d t).1 := h

theorem reqRestart_kept : ScheduleKept s (reqRestart s).1 := by
  unfold reqRestart
  extract_lets s1 lost s2 triggers s3 s4 s5
  exact served_kept _ <| (restartFirst_run s).kept.trans <| (restartSecond_run s1).kept.trans <|
    (beginCatchUp_kept s2).trans <| (restoreRetention_run s3).kept.trans (chooseAll_run s4 _).kept

theorem takePowerFail_time : timekeeping (takePowerFail s) = timekeeping s := by
  unfold takePowerFail
  split
  · exact (time_of_bell (exceptBell_openRelays (cutFrames s)) : timekeeping (openRelays (cutFrames s)) = _)
  · rfl

/-- A part at its cold start is in agreement, whatever it was before. -/
theorem scheduleConsistent_of_reset {t : State} (h : timekeeping t = timekeeping State.reset) : ScheduleConsistent t :=
  (ScheduleKept.of_time h).keeps (by decide)

theorem takePowerUp_kept : ScheduleKept s (takePowerUp s) := by
  unfold takePowerUp
  split
  · exact .refl s
  · split
    · let z := s.modOffice fun o => { o with powered := true, agent := .idle, reply := none }
      have stages : timekeeping (restartSecond (restartFirst z)) = timekeeping s :=
        (time_restartSecond (restartFirst z)).trans rfl
      exact (ScheduleKept.of_time stages).trans <| (beginCatchUp_kept _).trans (.of_time (time_chooseAll _ _))
    · exact ⟨fun _ => scheduleConsistent_of_reset rfl⟩

/-! ### Requests (Chapter 9) -/

theorem reqLoadPlan_time (p start : Nat) (es : List Event) (final : Bool) :
    timekeeping (reqLoadPlan p start es final s).1 = timekeeping s := by
  unfold reqLoadPlan
  split
  · rfl
  · split
    · rfl
    · split
      · rfl
      · unfold acceptPart
        split_ifs <;> rfl

theorem reqRemoveExcuse_time (n first last : Nat) : timekeeping (reqRemoveExcuse n first last s).1 = timekeeping s := by
  unfold reqRemoveExcuse
  split
  · rfl
  · split
    · rfl
    · split
      · rfl
      · dsimp only
        split <;> rfl

theorem reqAdjustCounts_time (a : AdjustArgs) : timekeeping (reqAdjustCounts a s).1 = timekeeping s := by
  unfold reqAdjustCounts
  split
  · rfl
  · split
    · rfl
    · dsimp only
      split
      · rfl
      · exact time_modEntry s _ _

/-- Every request keeps the agreement. -/
theorem serve_kept (r : Request) : ScheduleKept s (serve r s).1 := by
  have quiet {t : State} (h : timekeeping t = timekeeping s) : ScheduleKept s t := .of_time h
  cases r with
  | setClock day second => exact reqSetClock_kept s day second
  | stagePlan p => exact reqStagePlan_kept s p
  | restart => exact reqRestart_kept s
  | clearAll => exact ⟨fun _ => scheduleConsistent_of_reset rfl⟩
  | loadPlan p start es final => exact quiet (reqLoadPlan_time s p start es final)
  | loadCalendar first es => simp only [serve, reqLoadCalendar]; split <;> exact quiet rfl
  | loadRoll a => exact quiet (time_reqLoadRoll s a)
  | dropRoll n => exact quiet (time_reqDropRoll s n)
  | loadFamily f held cs => exact quiet (time_reqLoadFamily s f held cs)
  | setMark n x code => exact quiet (time_reqSetMark s n x code)
  | adjustCounts a => exact quiet (reqAdjustCounts_time s a)
  | answerReferral g n d => exact quiet (time_reqAnswerReferral s g n d)
  | addExcuse a => exact quiet (time_reqAddExcuse s a)
  | removeExcuse n first last => exact quiet (reqRemoveExcuse_time s n first last)
  | sendNotice f t ps => exact quiet (time_reqSendNotice s f t ps)
  | setGateMode m g => exact quiet (time_of_gates (exceptGates_applyGateMode s m g))
  | readClock => exact .refl s
  | readGates => exact .refl s
  | readParams => exact .refl s
  | readPortsPorts clear => exact quiet rfl
  | ring z tone d o =>
    simp only [serve, reqRing]
    split
    · exact .refl s
    · split
      · exact .refl s
      · exact quiet (time_of_bell (exceptBell_takeJob s _))
  | loadInputs es =>
    simp only [serve, reqLoadInputs]
    split
    · exact .refl s
    · split
      · exact .refl s
      · exact quiet (time_of_bell (exceptBell_loadInputs s es))
  | loadPollList g as =>
    simp only [serve, reqLoadPollList]
    split
    · exact .refl s
    · split
      · exact .refl s
      · exact quiet (time_of_line (by rw [served, exceptLine_segmentChoose, exceptLine_setSegmentAt]))
  | readRoll sel =>
    simp only [serve, reqReadRoll]
    split
    · exact .refl s
    · split <;> exact .refl s
  | readFamily f =>
    simp only [serve, reqReadFamily]
    split
    · exact .refl s
    · split <;> exact .refl s
  | readPlanPlan p start => simp only [serve, reqReadPlan]; split <;> exact .refl s
  | readPlanCalendar first count => simp only [serve, reqReadCalendar]; split <;> exact .refl s
  | setRelay n o z => simp only [serve, reqSetRelay]; split_ifs <;> exact quiet rfl
  | readMovements start count => simp only [serve, reqReadMovements]; split <;> exact .refl s
  | readWindows x first count => simp only [serve, reqReadWindows]; split <;> exact .refl s
  | readExcuses sel start count =>
    simp only [serve, reqReadExcuses]
    split
    · exact .refl s
    · split <;> exact .refl s
  | readNotices sel start count => simp only [serve, reqReadNotices]; split <;> exact .refl s
  | loadTemplates es =>
    simp only [serve, reqLoadTemplates]
    split
    · exact .refl s
    · split <;> exact quiet rfl
  | loadStation a => simp only [serve, reqLoadStation]; split <;> exact quiet rfl
  | readPortsStations first count => simp only [serve, reqReadStations]; split <;> exact .refl s
  | readPortsPollList g => simp only [serve, reqReadPollList]; split <;> exact .refl s
  | setParams items =>
    simp only [serve, reqSetParams]
    split
    · exact .refl s
    · split <;> exact quiet rfl

theorem judgeFrame_kept (f : UplinkIn) : ScheduleKept s (judgeFrame f s).1 := by
  unfold judgeFrame
  split
  · split
    · exact serve_kept s _
    · exact .refl s
  · unfold judgeRaw
    split
    · exact .refl s
    · split
      · exact .refl s
      · split
        · exact .refl s
        · exact serve_kept s _

/-- Placing a reply concerns the Office Agent and the line only. -/
theorem time_placeReply (free : Bool) (reply : Reply) : timekeeping (placeReply free reply s) = timekeeping s := by
  have chosen (t : State) : timekeeping (uplinkChoose t) = timekeeping t := time_of_line (exceptLine_uplinkChoose t)
  unfold placeReply
  extract_lets t
  have buffered : timekeeping t = timekeeping s := rfl
  split
  · split <;> rfl
  · exact buffered
  · exact (chosen t).trans buffered
  · exact (chosen t).trans buffered

theorem takeUplink_kept (f : UplinkIn) : ScheduleKept s (takeUplink f s) :=
  (ScheduleKept.of_time rfl : ScheduleKept s (s.modOffice _)).trans <|
    (judgeFrame_kept _ f).trans (.of_time (time_placeReply _ _ _))

theorem uplinkArrive_kept (f : UplinkIn) : ScheduleKept s (uplinkArrive f s) := by
  unfold uplinkArrive
  split
  · exact takeUplink_kept s f
  · split
    · exact .of_time rfl
    · exact .of_time (time_of_line (exceptLine_countInvalid s _ _ _))

theorem takeHeld_kept : ScheduleKept s (takeHeld s) := by
  unfold takeHeld
  split
  · exact .refl s
  · exact (ScheduleKept.of_time rfl : ScheduleKept s (s.modLine fun u => { u with upHeld := none })).trans
      (takeUplink_kept _ _)

theorem takeUplinkSent_kept : ScheduleKept s (takeUplinkSent s) := by
  have chosen (t : State) : timekeeping (uplinkChoose t) = timekeeping t := time_of_line (exceptLine_uplinkChoose t)
  unfold takeUplinkSent
  split
  · exact .refl s
  · exact .of_time ((chosen _).trans rfl)
  · refine .trans (t := uplinkChoose ((s.modLine fun u => { u with upSending := none }).modOffice
      fun o => { o with agent := .idle, reply := none })) ?_ (takeHeld_kept _)
    exact .of_time ((chosen _).trans rfl)

/-! ### Commands -/

theorem gatewayFrame_kept (src kind : Byte) (bs : List Byte) {f : State → State} (hf : ScheduleKept s (f s)) :
    ScheduleKept s (gatewayFrame src kind bs f s) := by
  unfold gatewayFrame
  split
  · exact .of_time (time_of_line (exceptLine_countInvalid s _ _ _))
  · exact hf

theorem whenPowered_kept {f : State → State} (hf : ScheduleKept s (f s)) :
    ∃ t, whenPowered f s = .next t ∧ ScheduleKept s t := by
  refine ⟨_, rfl, ?_⟩
  split
  · exact hf
  · exact .refl s

/-- Every command completes and keeps the agreement. -/
theorem exec_kept (c : Instr) : ∃ t, exec c s = .next t ∧ ScheduleKept s t := by
  have powered {f : State → State} (hf : ScheduleKept s (f s)) := whenPowered_kept s hf
  have timed {f : State → State} (hf : timekeeping (f s) = timekeeping s) := whenPowered_kept s (.of_time hf)
  have request (h : UpHeader) (r : Request) : ∃ t, whenPowered (requestArrives h r) s = .next t ∧ ScheduleKept s t :=
    powered (uplinkArrive_kept s _)
  cases c with
  | secondsTick =>
    refine ⟨_, rfl, ?_⟩
    split
    · exact takeTick_kept s
    · exact (tickClockOnly_run s).kept
  | settlementStart => exact powered (takeSettlementStart_kept s)
  | settleSlot => exact powered (takeSettleSlot_kept s)
  | closeWalkVisit => exact timed (time_walkStep s true)
  | periodEndWalkVisit => exact timed (time_walkStep s false)
  | noticeWalkVisit => exact timed (noticeVisit_work s).time
  | tap seg src bs => exact timed (time_fieldFrame s seg src _ bs)
  | referralExpiry g => exact timed (time_of_gates (exceptGates_takeReferralExpiry s g))
  | register seg src bs => exact timed (time_fieldFrame s seg src _ bs)
  | nothing seg src => exact timed (time_fieldFrame s seg src _ [])
  | bellAck seg src => exact timed (time_fieldFrame s seg src _ [])
  | wrongKindReply seg src kind bs => exact timed (time_fieldFrame s seg src kind bs)
  | outOfTurnFrame seg src kind bs => exact timed (time_fieldFrame s seg src kind bs)
  | strangerFrame seg src kind bs => exact timed (time_fieldFrame s seg src kind bs)
  | invalidFrame p f h => exact timed (time_of_line (exceptLine_takeInvalid s p f h))
  | exchangeMiss seg => exact timed (time_of_bell (exceptBell_takeExchangeMiss s seg))
  | fieldFrameSent seg => exact timed (time_of_line (exceptLine_takeFrameSent s seg))
  | outputQueueAdmit seg => exact timed (time_of_bell (exceptBell_takeAdmit s seg))
  | soundingCountExpiry z => exact timed (time_of_bell (exceptBell_takeSoundingExpiry s z))
  | inputChange n level held => exact timed (time_of_bell (exceptBell_takeInputChange s n level held))
  | firstLevelTaken n level => exact timed (time_of_bell (exceptBell_takeFirstLevel s n level))
  | ready src bs => exact powered (gatewayFrame_kept s _ _ _ (.of_time (takeReady_work s bs).time))
  | notBeforeReached n => exact timed (takeNotBefore_work s n).time
  | outcome src bs => exact powered (gatewayFrame_kept s _ _ _ (.of_time (takeOutcomeFrame_work s bs).time))
  | outcomeTimeout n => exact timed (takeTimeout_work s n).time
  | parentReport src bs => exact powered (gatewayFrame_kept s _ _ _ (.of_time (time_takeParentReport s bs)))
  | gatewayOtherFrame src kind bs => exact powered (gatewayFrame_kept s _ _ _ (.refl s))
  | gatewayFrameSent => exact timed (time_of_line (exceptLine_takeGatewaySent s))
  | uplinkFrameSent => exact powered (takeUplinkSent_kept s)
  | unknownRequest h kind bs => exact powered (uplinkArrive_kept s _)
  | powerFail => exact ⟨_, rfl, .of_time (takePowerFail_time s)⟩
  | powerUp => exact ⟨_, rfl, takePowerUp_kept s⟩
  | backupLow below => exact ⟨_, rfl, .of_time rfl⟩
  | _ => exact request _ _

/-- The queue of waiting commands is no part of the agreement. -/
theorem step_kept {s t : State} (h : step s = .next t) : ScheduleKept s t := by
  unfold step at h
  split at h
  · cases h; exact .refl s
  · rename_i c rest _
    obtain ⟨u, hu, kept⟩ := exec_kept (s.withPending rest) c
    rw [hu] at h
    cases h
    exact (ScheduleKept.of_time rfl : ScheduleKept s (s.withPending rest)).trans kept

/-- Settles O14: every command is `ScheduleKept`. -/
theorem stepKeepsSchedule : Obligations.StepKeepsSchedule := fun _ _ consistent h => (step_kept h).keeps consistent

end Sys2Proof.Machine
end

section
/-! PROOFS. The state after reset (R169). -/

namespace Sys2Proof.Machine

open Sys2Proof

theorem calendarEntry_reset (d : Nat) : calendarEntry State.reset d = .closed := by
  have closed : calendarPlan State.reset d = none := ite_self none
  rw [calendarEntry, closed]

/-- No station is enabled after reset. -/
theorem outOfService_reset (g : Nat) : outOfService State.reset g = true := by
  have disabled (n : Nat) : (stationAt State.reset n).enabled = false := rfl
  simp [outOfService, disabled]

theorem gateStateAt_reset (g : Nat) : gateStateAt State.reset g = .offline := by
  have free : (gateAt State.reset g).referral = none := rfl
  rw [gateStateAt, free, outOfService_reset]
  rfl

theorem formState_reset (x : Session) : formState State.reset x = .notOpened := by cases x <;> rfl

theorem formAt_reset (x : Session) (g : Nat) : formAt State.reset x g = coldForm := by cases x <;> rfl

/-- Only the grace depends on the gate, and it has one cold start value for every gate. -/
theorem paramValue_cold (name : ParamName) (g : Nat) :
    paramValue Params.cold name g = paramValue Params.cold name 0 := by
  cases name <;> rfl

theorem paramsInRange_reset : ParamsInRange State.reset := by
  intro name g
  show _ ≤ paramValue Params.cold name g ∧ paramValue Params.cold name g ≤ _
  rw [paramValue_cold]
  cases name <;> decide

theorem excusesDisjoint_reset : ExcusesDisjoint State.reset := ⟨⟨.nil, nofun⟩, Nat.zero_le _⟩

theorem registersCounted_reset : RegistersCounted State.reset := by
  refine ⟨fun x opened => ?_, fun _ x => formState_reset x⟩
  rw [formState_reset] at opened
  cases opened

/-- Settles O2: the records are read off the reset state, whose tables list nothing. -/
theorem resetIsAColdStart : Obligations.ResetIsAColdStart := by
  refine ⟨⟨fun _ => rfl, fun _ => rfl, rfl, rfl, rfl, rfl⟩, ?schedule, ?bells, ?gates, ?registers, rfl, ?line, rfl,
    fun _ => rfl, rfl, rfl, ?invariants⟩
  case schedule =>
    exact ⟨rfl, rfl, rfl, calendarEntry_reset, fun _ => rfl, rfl, rfl, rfl, rfl, rfl, rfl, rfl, rfl⟩
  case bells => exact ⟨rfl, rfl, fun _ => rfl, fun _ => rfl, fun _ => rfl, fun _ => rfl⟩
  case gates => exact ⟨fun _ => rfl, gateStateAt_reset, rfl, rfl, rfl, rfl⟩
  case registers => exact ⟨formState_reset, formAt_reset, fun _ => rfl, fun _ _ => rfl, rfl⟩
  case line => exact ⟨fun _ => rfl, fun _ => rfl, fun _ => rfl, rfl, rfl, rfl, rfl, rfl⟩
  case invariants =>
    have terms : TermsInRange State.reset := by decide
    have onSite : OnSiteCounted State.reset := by decide
    have relays : RelaysFollow State.reset := by decide
    have queues : QueuesBounded State.reset := by decide
    have consistent : ScheduleConsistent State.reset := by decide
    have notices : NoticesOrderly State.reset := by decide
    have sorted : TablesSorted State.reset := by decide
    have ordered : RollOrdered State.reset := by decide
    exact ⟨terms, onSite, relays, queues, paramsInRange_reset, consistent, notices, excusesDisjoint_reset, sorted,
      ordered, registersCounted_reset⟩

end Sys2Proof.Machine
end

section
/-! PROOFS. LOAD_CALENDAR and LOAD_PLAN (R31, R32, R45, R46). -/

namespace Sys2Proof.Machine

open Sys2Proof

/-! ### Calendar entries (R31) -/

/-- What an entry makes its day read as. -/
def entryPlan : CalEntry → Option Nat
  | .plan p => some p
  | .closed => none

theorem tabFind_writeCalendar (first : Nat) (es : List CalEntry) (t : Table Nat) (d : Nat) :
    tabFind (writeCalendar first es t) d
      = if first ≤ d then (es[d - first]?).elim (tabFind t d) entryPlan else tabFind t d := by
  induction es generalizing first t with
  | nil => simp [writeCalendar]
  | cons x es ih =>
    have written : tabFind (writeCalendar first (x :: es) t) d
        = if first + 1 ≤ d then (es[d - (first + 1)]?).elim (if d = first then entryPlan x else tabFind t d) entryPlan
          else if d = first then entryPlan x else tabFind t d := by
      cases x with
      | plan p => rw [writeCalendar, ih, tabFind_tabInsert]; rfl
      | closed => rw [writeCalendar, ih, tabFind_tabErase]; rfl
    rw [written]
    rcases Nat.lt_trichotomy d first with before | rfl | after
    · rw [if_neg (by omega), if_neg (by omega), if_neg (by omega)]
    · rw [if_neg (by omega), if_pos rfl, if_pos (le_refl d), Nat.sub_self]
      rfl
    · obtain ⟨k, rfl⟩ : ∃ k, d = first + 1 + k := ⟨d - (first + 1), by omega⟩
      have next : first + 1 + k - first = k + 1 := by omega
      rw [if_pos (show first + 1 ≤ first + 1 + k by omega), if_pos (show first ≤ first + 1 + k by omega),
        if_neg (show ¬first + 1 + k = first by omega), Nat.add_sub_cancel_left, next, List.getElem?_cons_succ]

theorem calendarEntry_eq (s : State) {d : Nat} (hd : d ≤ 365) :
    calendarEntry s d = (tabFind s.sched.calendar d).elim .closed .plan := by
  rw [calendarEntry, calendarPlan, if_neg (by omega)]
  cases tabFind s.sched.calendar d <;> rfl

/-- A state with another calendar. -/
def withCalendar (c : Table Nat) (s : State) : State := s.modSched fun u => { u with calendar := c }

/-- A loaded calendar reads as its entries on their days, and as before on the others. -/
theorem calendarEntry_loaded {s : State} {first : Nat} {es : List CalEntry} (year : first + es.length ≤ 366) :
    let t := withCalendar (writeCalendar first es s.sched.calendar) s
    (∀ i (hi : i < es.length), calendarEntry t (first + i) = es[i])
      ∧ ∀ d, d < first ∨ first + es.length ≤ d → calendarEntry t d = calendarEntry s d := by
  intro t
  have find (d : Nat) : tabFind t.sched.calendar d = _ := tabFind_writeCalendar first es s.sched.calendar d
  refine ⟨fun i hi => ?_, fun d hd => ?_⟩
  · rw [calendarEntry_eq t (by omega), find, if_pos (by omega), Nat.add_sub_cancel_left, List.getElem?_eq_getElem hi]
    cases es[i] <;> rfl
  · have same : tabFind t.sched.calendar d = tabFind s.sched.calendar d := by
      rw [find]
      rcases hd with before | after
      · rw [if_neg (by omega)]
      · rw [if_pos (by omega), List.getElem?_eq_none (by omega)]
        rfl
    simp only [calendarEntry, calendarPlan, same]

theorem reqLoadCalendar_loads {s : State} {first : Nat} {es : List CalEntry} (some : 1 ≤ es.length)
    (count : es.length ≤ 200) (year : first + es.length ≤ 366) (plans : ∀ p, .plan p ∈ es → p ≤ 7) :
    reqLoadCalendar first es s = served .none (withCalendar (writeCalendar first es s.sched.calendar) s) := by
  have good : es.any badCalEntry = false := by
    rw [List.any_eq_false]
    intro x hx
    cases x with
    | plan p => simpa [badCalEntry] using plans p hx
    | closed => nofun
  have nonempty : es ≠ [] := by rintro rfl; cases some
  unfold reqLoadCalendar
  rw [if_neg]
  · rfl
  · simp only [good, List.isEmpty_iff, nonempty, Bool.or_eq_true, decide_eq_true_eq, Bool.false_eq_true, or_false,
      false_or]
    omega

/-! ### Parts of a plan (R45) -/

theorem badEvent_eq_false {e : Event} : badEvent e = false ↔ e.time ≤ 86399 ∧ e.tone ≤ 7 ∧ 1 ≤ e.duration
    ∧ e.duration ≤ 30 ∧ ∀ k, e.act = .periodStart k ∨ e.act = .periodEnd k → 1 ≤ k ∧ k ≤ 10 := by
  have act : ∀ k, (k = 0 || decide (10 < k)) = false ↔ 1 ≤ k ∧ k ≤ 10 := by
    intro k
    simp only [Bool.or_eq_false_iff, decide_eq_false_iff_not]
    omega
  have fields : (Config.lastSecond < e.time || 7 < e.tone || e.duration = 0 || 30 < e.duration) = false
      ↔ e.time ≤ 86399 ∧ e.tone ≤ 7 ∧ 1 ≤ e.duration ∧ e.duration ≤ 30 := by
    have : Config.lastSecond = 86399 := rfl
    simp only [Bool.or_eq_false_iff, decide_eq_false_iff_not]
    omega
  rw [badEvent, Bool.or_eq_false_iff, fields]
  cases e.act with
  | periodStart k => simp [act, and_assoc]
  | periodEnd k => simp [act, and_assoc]
  | _ => simp

theorem badPart_eq_false {plan start : Nat} {es : List Event} {final : Bool} :
    badPart plan start es final = false ↔ partLegal plan start es final := by
  simp only [badPart, partLegal, Bool.or_eq_false_iff, decide_eq_false_iff_not, Nat.not_lt, Bool.and_eq_false_iff,
    List.isEmpty_eq_false_iff, Bool.not_eq_false', Bool.and_eq_true, decide_eq_true_eq, List.any_eq_false,
    Bool.not_eq_true, badEvent_eq_false]
  tauto

/-! ### The plan's conditions (R32) -/

theorem timesRise_iff {es : List Event} : timesRise es = true ↔ es.Pairwise fun e f => e.time < f.time := by
  rw [← List.isChain_iff_pairwise (R := fun e f : Event => e.time < f.time)]
  induction es using timesRise.induct with
  | case1 => simp [timesRise]
  | case2 => simp [timesRise]
  | case3 a b es ih => simp [timesRise, ih]

theorem allBefore_iff {a b : EventAct} {es : List Event} : allBefore a b es = true
    ↔ ∀ e ∈ es, ∀ f ∈ es, e.act = a → f.act = b → e.time < f.time := by
  simp only [allBefore, timesOf, List.all_eq_true, List.mem_map, List.mem_filter, beq_iff_eq, decide_eq_true_eq]
  constructor
  · intro h e he f hf ha hb
    exact h _ ⟨e, ⟨he, ha⟩, rfl⟩ _ ⟨f, ⟨hf, hb⟩, rfl⟩
  · rintro h _ ⟨e, ⟨he, ha⟩, rfl⟩ _ ⟨f, ⟨hf, hb⟩, rfl⟩
    exact h e he f hf ha hb

theorem atMostOnce_iff {a : EventAct} {es : List Event} :
    atMostOnce a es = true ↔ (es.countP fun e => e.act = a) ≤ 1 := by
  simp [atMostOnce, timesOf, List.countP_eq_length_filter, beq_eq_decide]

theorem planOk_iff {es : List Event} : planOk es = true ↔ planKeeps es := by
  have sessions : (sessionOk es .am = true ∧ sessionOk es .pm = true) ↔ ∀ x, sessionOk es x = true :=
    ⟨fun ⟨am, pm⟩ x => by cases x; exacts [am, pm], fun h => ⟨h .am, h .pm⟩⟩
  have periods : ((List.range 10).all fun i => periodOk es (i + 1)) = true
      ↔ ∀ k, 1 ≤ k → k ≤ 10 → periodOk es k = true := by
    simp only [List.all_eq_true, List.mem_range]
    refine ⟨fun h k low high => ?_, fun h i hi => h (i + 1) (by omega) (by omega)⟩
    have := h (k - 1) (by omega)
    rwa [Nat.sub_add_cancel low] at this
  simp only [planOk, Bool.and_eq_true, periods, timesRise_iff, and_assoc, allBefore_iff]
  rw [← and_assoc (a := sessionOk es .am = true), sessions]
  simp only [sessionOk, periodOk, Bool.and_eq_true, atMostOnce_iff, allBefore_iff, and_assoc]

/-! ### LOAD_PLAN (R45, R46) -/

section

variable {s : State} {p start : Nat} {es before : List Event} {final : Bool}

theorem buildBefore_eq (fresh : start = 0 → before = [])
    (held : start ≠ 0 → s.sched.build = some ⟨p, before⟩ ∧ before.length = start) :
    buildBefore s p start = some before := by
  unfold buildBefore
  split
  · rw [fresh ‹_›]
  · obtain ⟨build, length⟩ := held ‹_›
    simp [build, length]

theorem buildBefore_none (later : start ≠ 0)
    (other : ∀ b, s.sched.build = some b → b.plan ≠ p ∨ b.events.length ≠ start) : buildBefore s p start = none := by
  unfold buildBefore
  rw [if_neg later]
  cases hb : s.sched.build with
  | none => rfl
  | some b => exact if_neg fun ⟨plan, length⟩ => (other b hb).elim (· plan) (· length)

theorem reqLoadPlan_illegal (illegal : ¬partLegal p start es final) :
    reqLoadPlan p start es final s = refuse .badArg s :=
  if_pos (by simpa using mt badPart_eq_false.mp illegal)

theorem reqLoadPlan_legal (legal : partLegal p start es final) (active : s.sched.active ≠ some p)
    (staged : s.sched.staged ≠ some p) (build : buildBefore s p start = some before) :
    reqLoadPlan p start es final s = acceptPart p (before ++ es) final s := by
  simp only [reqLoadPlan, badPart_eq_false.mpr legal, active, staged, build, Bool.false_eq_true, decide_false,
    Bool.or_self, if_false]

/-- A plan in use, and a part that continues no build, are refused. -/
theorem reqLoadPlan_state (legal : partLegal p start es final)
    (held : s.sched.active = some p ∨ s.sched.staged = some p ∨ buildBefore s p start = none) :
    reqLoadPlan p start es final s = refuse .state s := by
  simp only [reqLoadPlan, badPart_eq_false.mpr legal, Bool.false_eq_true, if_false]
  split
  · rfl
  · rename_i free
    have none : buildBefore s p start = none := by simp_all
    rw [none]

end

theorem countsOk_loadPlan {p start : Nat} {es : List Event} {final : Bool} :
    countsOk (.loadPlan p start es final) = true ↔ es.length ≤ 16 := decide_eq_true_iff

/-- A state with other plans and no plan being built. -/
def withPlans (plans : Table (List Event)) (s : State) : State :=
  s.modSched fun u => { u with plans := plans, build := none }

/-- Settles O30, through `calendarEntry_loaded` for the calendar, and `badPart_eq_false` and `planOk_iff` for the
plans. -/
theorem calendarAndPlanLoads : Obligations.CalendarAndPlanLoads := by
  intro h s take
  refine ⟨fun first es some count year plans => ?calendar, fun p start es final illegal => ?illegal,
    fun p start es final before legal active staged fresh held => ?legal, fun p start es final legal busy => ?state⟩
  case calendar =>
    obtain ⟨loaded, others⟩ := calendarEntry_loaded (s := s) year
    refine ⟨_, exec_quiet (r := .loadCalendar first es) (s' := withCalendar (writeCalendar first es s.sched.calendar) s)
      take (by simp [countsOk, some, count]) ?_ rfl, loaded, others, rfl⟩
    exact reqLoadCalendar_loads some count year plans
  case illegal =>
    by_cases layout : es.length ≤ 16
    · exact exec_refused (r := .loadPlan p start es final) take (countsOk_loadPlan.mpr layout)
        (reqLoadPlan_illegal illegal)
    · exact exec_layout (r := .loadPlan p start es final) take
        (Bool.eq_false_iff.mpr (mt countsOk_loadPlan.mp layout))
  case legal =>
    have ⟨_, layout, _⟩ := legal
    have ok : countsOk (.loadPlan p start es final) = true := countsOk_loadPlan.mpr layout
    have accepted : serve (.loadPlan p start es final) (working s) = acceptPart p (before ++ es) final (working s) :=
      reqLoadPlan_legal (s := working s) legal active staged (buildBefore_eq fresh held)
    refine ⟨fun part => ?_, fun whole keeps => ?_, fun whole broken => ?_⟩
    · refine exec_quiet (s' := s.modSched fun u => { u with build := some ⟨p, before ++ es⟩ }) take ok ?_ rfl
      rw [accepted, part]
      rfl
    · refine ⟨_, exec_quiet (s' := withPlans (tabSet [] p (before ++ es) s.sched.plans) s)
        (d := .eventCount (before ++ es).length) (st := .ok) take ok ?_ rfl, ?_, fun q hq => ?_, rfl, rfl⟩
      · rw [accepted, whole, acceptPart, planOk_iff.mpr keeps]
        rfl
      · exact (tabGet_tabSet [] p p _ _).trans (if_pos rfl)
      · exact (tabGet_tabSet [] p q _ _).trans (if_neg hq)
    · refine exec_refused take ok ?_
      rw [accepted, whole, acceptPart, Bool.eq_false_iff.mpr (mt planOk_iff.mp broken)]
      rfl
  case state =>
    have ⟨_, layout, _⟩ := legal
    refine exec_refused (r := .loadPlan p start es final) take (countsOk_loadPlan.mpr layout)
      (reqLoadPlan_state (s := working s) legal ?_)
    rcases busy with active | staged | ⟨later, other⟩
    · exact .inl active
    · exact .inr (.inl staged)
    · exact .inr (.inr (buildBefore_none later other))

end Sys2Proof.Machine
end

section
/-! PROOFS. STAGE_PLAN (R37, R38, R106): the reports of a swap's closes, what the closes depend on, and the offers. -/

namespace Sys2Proof.Machine

open Sys2Proof

/-! ### Offers (R135) -/

/-- What offers leave as it was. -/
def exceptOffers (s : State) : State :=
  { s with
    msg := { s.msg with notices := [] }
    line := { s.line with gwSending := none, gwWaiting := [] } }

theorem exceptOffers_tryOffers (s : State) : exceptOffers (tryOffers s) = exceptOffers s := by
  have offered (n : Notice) (s : State) : exceptOffers (offerNotice n s) = exceptOffers s := by
    unfold offerNotice
    split
    · rfl
    · rw [handGateway_eq]; rfl
  unfold tryOffers
  generalize s.msg.creditLimit = fuel
  induction fuel generalizing s with
  | zero => rfl
  | succ k ih =>
    unfold makeOffers
    split
    · rfl
    · rw [ih, offered]

section

variable (s : State)

theorem tryOffers_sched : (tryOffers s).sched = s.sched := congrArg (·.sched) (exceptOffers_tryOffers s)

theorem tryOffers_reg : (tryOffers s).reg = s.reg := congrArg (·.reg) (exceptOffers_tryOffers s)

theorem tryOffers_bell : (tryOffers s).bell = s.bell := congrArg (·.bell) (exceptOffers_tryOffers s)

theorem tryOffers_gate : (tryOffers s).gate = s.gate := congrArg (·.gate) (exceptOffers_tryOffers s)

theorem tryOffers_office : (tryOffers s).office = s.office := congrArg (·.office) (exceptOffers_tryOffers s)

theorem tryOffers_segments : (tryOffers s).line.segments = s.line.segments :=
  congrArg (·.line.segments) (exceptOffers_tryOffers s)

theorem tryOffers_msg (l : List Notice) : { (tryOffers s).msg with notices := l } = { s.msg with notices := l } :=
  congrArg (fun u : State => { u.msg with notices := l }) (exceptOffers_tryOffers s)

end

/-! ### The reports of a swap's closes (R100) -/

section

variable {s t u : State}

theorem reportsMade_refl (s : State) : reportsMade 0 s s := rfl

theorem reportsMade_trans {j k : Nat} (h : reportsMade j s t) (m : reportsMade k t u) : reportsMade (j + k) s u := by
  unfold reportsMade at *
  split_ifs at * <;> omega

theorem reportsMade_alert (a : Alert) (s : State) : reportsMade 1 s (alert a s) := offerReport_reportNumber _ s

theorem notTakenAlerts_made (x : Session) (l : List Nat) (s : State) :
    reportsMade (l.countP fun g => (formAt s x g).expected != 0 && !(formAt s x g).taken) s (notTakenAlerts x l s) := by
  induction l generalizing s with
  | nil => exact reportsMade_refl s
  | cons g gs ih =>
    rw [notTakenAlerts, List.countP_cons, Nat.add_comm]
    split
    · rename_i untaken
      have forms (k : Nat) : formAt (alert (.registerNotTaken x g) s) x k = formAt s x k := by
        rw [formAt, alert, offerReport_reg]; rfl
      have rest := ih (alert (.registerNotTaken x g) s)
      simp only [forms] at rest
      rw [if_pos (by simpa using untaken)]
      exact reportsMade_trans (reportsMade_alert _ s) rest
    · rename_i taken
      rw [if_neg (by simpa using taken), Nat.zero_add]
      exact ih s

theorem closeSession_made {x : Session} (h : formState s x = .opened) :
    reportsMade (notTakenGroups s x) s (closeSession x s) := by
  have groups (g : Nat) : formAt (s.modReg (formClosed x)) x g = formAt s x g := by simp [formAt, formClosed]
  have made := notTakenAlerts_made x (List.range 128) (s.modReg (formClosed x))
  simp only [groups] at made
  obtain ⟨k, closed⟩ : ∃ k, closeSession x s
      = addWalk k (notTakenAlerts x (List.range 128) (s.modReg (formClosed x))) := by
    simp only [closeSession, h]
    exact ⟨_, rfl⟩
  rw [closed]
  exact made

theorem swapClose_made {es : List Event} (time : Nat) (x : Session) (events : activeEvents s = es) :
    reportsMade (if closesForm es time s x then notTakenGroups s x else 0) s (swapClose time x s) := by
  unfold swapClose
  rw [gone_eq_behind events]
  by_cases passed : behind es time (.sessionClose x) = true
  · rw [if_pos passed]
    by_cases opened : formState s x = .opened
    · rw [if_pos ⟨opened, passed⟩]
      exact closeSession_made opened
    · rw [if_neg fun closes => opened closes.1, closeSession_stands opened]
      exact reportsMade_refl s
  · rw [if_neg passed, if_neg fun closes => passed closes.2]
    exact reportsMade_refl s

/-- One session's close leaves the other's form windows, and every group's record. -/
theorem swapClose_forms (time : Nat) (x : Session) (s : State) :
    (∀ y, y ≠ x → formState (swapClose time x s) y = formState s y)
      ∧ ∀ y g, formAt (swapClose time x s) y g = formAt s y g := by
  unfold swapClose
  split
  · by_cases opened : formState s x = .opened
    · have reg := (closeSession_opened opened).1
      refine ⟨fun y hy => ?_, fun y g => ?_⟩
      · rw [formState, reg]
        simp [formClosed, AmPm_get_set, hy, formState]
      · rw [formAt, reg]
        simp only [formClosed, AmPm_get_set]
        split
        · subst_vars; rfl
        · rfl
    · rw [closeSession_stands opened]
      exact ⟨fun _ _ => rfl, fun _ _ => rfl⟩
  · exact ⟨fun _ _ => rfl, fun _ _ => rfl⟩

theorem closePeriods_number {es : List Event} {time : Nat} {ks : List Nat} (nodup : ks.Nodup)
    (events : activeEvents s = es) :
    (closePeriods time ks s).office.reportNumber = s.office.reportNumber := by
  obtain ⟨-, -, -, -, office⟩ := closePeriods_closes (time := time) nodup events
  rw [office]

/-- The reports of a swap: one for each group not taken in each session closed. -/
theorem swapTo_made (p time : Nat) (s : State) : reportsMade
    ((if closesForm (planAt s p) time s .am then notTakenGroups s .am else 0)
      + if closesForm (planAt s p) time s .pm then notTakenGroups s .pm else 0) s (swapTo p time s) := by
  let z := withPlan p time s
  let am := swapClose time .am z
  let pm := swapClose time .pm am
  have events : activeEvents z = planAt s p := rfl
  have events' : activeEvents am = planAt s p :=
    (activeEvents_of_exceptRegister (exceptRegister_swapClose time .am z)).trans events
  have events'' : activeEvents pm = planAt s p :=
    (activeEvents_of_exceptRegister (exceptRegister_swapClose time .pm am)).trans events'
  obtain ⟨others, groups⟩ := swapClose_forms time .am z
  have pmForm : formState am .pm = formState s .pm := others .pm (by decide)
  have pmGroups : notTakenGroups am .pm = notTakenGroups s .pm := by
    simp only [notTakenGroups, am, groups]; rfl
  have first : reportsMade (if closesForm (planAt s p) time s .am then notTakenGroups s .am else 0) s am :=
    swapClose_made time .am events
  have second := swapClose_made time .pm events'
  simp only [pmGroups, closesForm, pmForm] at second
  have both := reportsMade_trans first second
  rw [swapTo_eq]
  exact (closePeriods_number (by decide) events'').trans both

end

/-! ### What a swap's closes depend on -/

/-- Two states in which a swap finds the same windows, walks and plans. -/
structure SwapBasis (s t : State) : Prop where
  reg : t.reg = s.reg
  sched : t.sched = s.sched

section

variable {s t : State}

theorem SwapBasis.lookupTime (h : SwapBasis s t) (a : EventAct) : lookupTime t a = lookupTime s a := by
  simp only [Machine.lookupTime, activeEvents, planAt, h.sched]

theorem SwapBasis.gone (h : SwapBasis s t) (a : EventAct) (time : Nat) : gone t a time = gone s a time := by
  simp only [Machine.gone, h.lookupTime]

theorem SwapBasis.closeSession (h : SwapBasis s t) (x : Session) :
    SwapBasis (closeSession x s) (closeSession x t) := by
  have form : formState t x = formState s x := by simp only [formState, h.reg]
  by_cases opened : formState s x = .opened
  · refine ⟨?_, ?_⟩
    · rw [(closeSession_opened opened).1, (closeSession_opened (form.trans opened)).1, h.reg, h.lookupTime]
    · rw [sched_of_exceptRegister (exceptRegister_closeSession s x),
        sched_of_exceptRegister (exceptRegister_closeSession t x), h.sched]
  · rw [closeSession_stands opened, closeSession_stands (form ▸ opened)]
    exact h

theorem SwapBasis.endPeriod (h : SwapBasis s t) (k : Nat) : SwapBasis (endPeriod k s) (endPeriod k t) := by
  have lesson : lessonAt t k = lessonAt s k := by simp only [lessonAt, h.reg]
  by_cases opened : lessonAt s k = .opened
  · rw [endPeriod_opened opened, endPeriod_opened (lesson.trans opened)]
    exact ⟨congrArg (fun u : RegisterUnit => { u with
      lessons := tabSet .notOpened k .closed u.lessons, walks := u.walks ++ [Walk.mk (.periodEnd k) 0] }) h.reg,
      h.sched⟩
  · rw [endPeriod_stands opened, endPeriod_stands (lesson ▸ opened)]
    exact h

theorem SwapBasis.closeSessions (h : SwapBasis s t) (time : Nat) (l : List Session) :
    SwapBasis (closeSessions time l s) (closeSessions time l t) := by
  induction l generalizing s t with
  | nil => exact h
  | cons x xs ih =>
    rw [Machine.closeSessions, Machine.closeSessions, h.gone]
    split
    · exact ih (h.closeSession x)
    · exact ih h

theorem SwapBasis.closePeriods (h : SwapBasis s t) (time : Nat) (l : List Nat) :
    SwapBasis (closePeriods time l s) (closePeriods time l t) := by
  induction l generalizing s t with
  | nil => exact h
  | cons k ks ih =>
    rw [Machine.closePeriods, Machine.closePeriods, h.gone]
    split
    · exact ih (h.endPeriod k)
    · exact ih h

theorem SwapBasis.swapTo (h : SwapBasis s t) (p time : Nat) : SwapBasis (swapTo p time s) (swapTo p time t) := by
  have planned : SwapBasis (withPlan p time s) (withPlan p time t) :=
    ⟨h.reg, congrArg (fun u : ScheduleUnit =>
      { u with active := some p, staged := none, cursor := seatCursor (tabGet [] u.plans p) time }) h.sched⟩
  exact (planned.closeSessions time _).closePeriods time _

end

/-- A state in which no report has been made. -/
def unreported (s : State) : State := s.modOffice fun o => { o with reportNumber := 0 }

/-- A swap's effect on the windows and walks is read from the Register Unit alone. -/
theorem swapEffect_of_reg {es : List Event} {time : Nat} {s s' t t' : State} (effect : swapEffect es time s' t')
    (before : s'.reg = s.reg) (after : t'.reg = t.reg)
    (made : reportsMade ((if closesForm es time s .am then notTakenGroups s .am else 0)
      + if closesForm es time s .pm then notTakenGroups s .pm else 0) s t) : swapEffect es time s t := by
  simp only [swapEffect, formState, formAt, lessonAt, before, after] at effect ⊢
  obtain ⟨forms, lessons, rooms, walks, -⟩ := effect
  exact ⟨forms, lessons, rooms, walks, made⟩

/-- A swap's effect, whatever the report number it finds. -/
theorem swapTo_swaps (p time : Nat) (s : State) : swapEffect (planAt s p) time s (swapTo p time s) := by
  have basis : SwapBasis (unreported s) s := ⟨rfl, rfl⟩
  have effect : swapEffect (planAt s p) time (unreported s) (swapTo p time (unreported s)) :=
    swapTo_effect p time (Nat.zero_le _)
  exact swapEffect_of_reg effect rfl (basis.swapTo p time).reg.symm (swapTo_made p time s)

/-! ### STAGE_PLAN (R37) -/

section

variable {h : UpHeader} {p : Nat} {s t : State}

/-- The schedule with a plan swapped in at the time of day (R37, R38). -/
def swappedIn (p : Nat) (s : State) : ScheduleUnit :=
  { s.sched with
    active := some p, staged := none, cursor := seatCursor (planAt s p) s.sched.second, state := .active }

/-- A plan swapped in at the time of day, and the offers after it. -/
structure PlanSwapped (p : Nat) (s t : State) : Prop where
  sched : t.sched = swappedIn p s
  effect : swapEffect (planAt s p) s.sched.second s t
  idle : s.msg.creditLimit = 0 → t.msg = s.msg
  msg : { t.msg with notices := s.msg.notices } = s.msg
  segments : t.line.segments = s.line.segments
  roll : t.roll = s.roll
  bell : t.bell = s.bell
  gate : t.gate = s.gate
  control : sameControl s t

/-- A swap from a state that differs from `s` in its schedule only. -/
theorem swapTo_planSwapped {v : ScheduleUnit}
    (planned : withPlan p s.sched.second (withSched v (working s)) = withSched (swappedIn p s) (working s)) :
    PlanSwapped p s (tryOffers (swapTo p s.sched.second (withSched v (working s)))) := by
  have effect := swapTo_swaps p s.sched.second (withSched v (working s))
  have swapped := exceptRegister_swapTo p s.sched.second (withSched v (working s))
  have plan : planAt (withSched v (working s)) p = planAt s p := by
    have plans := congrArg (fun u => planAt u p) planned
    exact plans
  rw [planned] at swapped
  rw [plan] at effect
  revert swapped effect
  generalize swapTo p s.sched.second (withSched v (working s)) = y
  intro effect swapped
  have msg : y.msg = s.msg := (msg_of_exceptRegister swapped).trans rfl
  refine ⟨?_, ?_, fun idle => ?_, ?_, ?_, ?_, ?_, ?_, ?_⟩
  · rw [tryOffers_sched, sched_of_exceptRegister swapped]; rfl
  · obtain ⟨-, -, -, -, made⟩ := id effect
    refine swapEffect_of_reg effect rfl (tryOffers_reg y).symm ?_
    rw [reportsMade, tryOffers_office]
    exact made
  · rw [tryOffers_idle (.inr (msg ▸ idle)), msg]
  · rw [tryOffers_msg, msg]
  · rw [tryOffers_segments, segments_of_exceptRegister swapped]; rfl
  · rw [tryOffers_roll, roll_of_exceptRegister swapped]; rfl
  · rw [tryOffers_bell, bell_of_exceptRegister swapped]; rfl
  · rw [tryOffers_gate, gate_of_exceptRegister swapped]; rfl
  · have control : sameControl (withSched (swappedIn p s) (working s)) y := sameControl_of_exceptRegister swapped
    exact sameControl_trans (t := y) control (tryOffers_work y).control

theorem segments_of_exceptReply (h : exceptReply t = exceptReply s) : t.line.segments = s.line.segments :=
  congrArg (·.line.segments) h

/-- The reply leaves what the swap did. -/
theorem PlanSwapped.replied {u : State} (swapped : PlanSwapped p s u) (left : exceptReply t = exceptReply u) :
    PlanSwapped p s t where
  sched := (sched_of_exceptReply left).trans swapped.sched
  effect := by
    obtain ⟨-, -, -, -, made⟩ := swapped.effect
    refine swapEffect_of_reg swapped.effect rfl (reg_of_exceptReply left).symm ?_
    rw [reportsMade, reportNumber_of_exceptReply left]
    exact made
  idle idle := (msg_of_exceptReply left).trans (swapped.idle idle)
  msg := by rw [msg_of_exceptReply left]; exact swapped.msg
  segments := (segments_of_exceptReply left).trans swapped.segments
  roll := (roll_of_exceptReply left).trans swapped.roll
  bell := (bell_of_exceptReply left).trans swapped.bell
  gate := (gate_of_exceptReply left).trans swapped.gate
  control := sameControl_trans swapped.control (sameControl_of_exceptReply left)

/-- A request that swaps is answered with the swap flag set. -/
theorem PlanSwapped.answers {u : State} (swapped : PlanSwapped p s u) (take : takesRequests s)
    (hs : serve (.stagePlan p) (working s) = served (.stage true) u) :
    ∃ t, exec (.stagePlan h p) s = .next t ∧ answered h (.stagePlan p) .ok (.stage true) t
      ∧ seatedAfter (planAt s p) s.sched.second t.sched.cursor
      ∧ t.sched = { s.sched with active := some p, staged := none, cursor := t.sched.cursor, state := .active }
      ∧ swapEffect (planAt s p) s.sched.second s t ∧ (s.msg.creditLimit = 0 → t.msg = s.msg)
      ∧ { t.msg with notices := s.msg.notices } = s.msg ∧ t.line.segments = s.line.segments
      ∧ t.roll = s.roll ∧ t.bell = s.bell ∧ t.gate = s.gate ∧ sameControl s t := by
  obtain ⟨t, run, reply, left⟩ := exec_carried (h := h) take rfl hs
  have done := swapped.replied left
  refine ⟨t, run, reply, ?_, ?_, done.effect, done.idle, done.msg, done.segments, done.roll, done.bell, done.gate,
    done.control⟩
  · rw [done.sched]; exact seatCursor_seated _ _
  · rw [done.sched]; rfl

theorem reqStagePlan_closedDay (small : p ≤ 7) (awake : s.office.catchUp = false)
    (closed : s.sched.state = .closedDay) : reqStagePlan p s = served (.stage true)
      (tryOffers (swapTo p s.sched.second (s.modSched fun u => { u with state := .active }))) := by
  rw [reqStagePlan, if_neg (by omega), if_neg (by simp [awake]), closed]

theorem reqStagePlan_active (small : p ≤ 7) (awake : s.office.catchUp = false) (active : s.sched.state = .active) :
    reqStagePlan p s = stageActive p s := by
  rw [reqStagePlan, if_neg (by omega), if_neg (by simp [awake]), active]

theorem reqStagePlan_refused (small : p ≤ 7) (awake : s.office.catchUp = false)
    (none : s.sched.state = .unset ∨ s.sched.state = .ending) : reqStagePlan p s = refuse .state s := by
  rw [reqStagePlan, if_neg (by omega), if_neg (by simp [awake])]
  rcases none with none | none <;> rw [none]

/-- A state with a plan staged. -/
def withStaged (x : Option Nat) (s : State) : State := s.modSched fun u => { u with staged := x }

theorem stageActive_same (same : s.sched.active = some p) :
    stageActive p s = served (.stage false) (withStaged none s) := if_pos same

theorem stageActive_other (other : s.sched.active ≠ some p) : stageActive p s
    = served (.stage (atEdge s.sched.cursor)) (tryOffers (swapAtEdge (withStaged (some p) s))) := if_neg other

theorem swapAtEdge_edge (edge : atEdge s.sched.cursor = true) (staged : s.sched.staged = some p) :
    swapAtEdge s = swapTo p s.sched.second s := by
  rw [swapAtEdge, if_pos edge, swapStaged, staged]

theorem swapAtEdge_middle (middle : atEdge s.sched.cursor = false) : swapAtEdge s = s := by
  rw [swapAtEdge, middle]; rfl

end

/-- Settles O31: the swaps are `PlanSwapped`, and the other cases only write which plan is staged. -/
theorem stagePlanStages : Obligations.StagePlanStages := by
  intro h p s take small awake
  dsimp only
  refine ⟨fun closed => ?closed, fun active other edge => ?edge, fun active other middle => ?middle,
    fun active same => ?same, fun none => ?none⟩
  case closed =>
    exact (swapTo_planSwapped (v := { s.sched with state := .active }) rfl).answers take
      (reqStagePlan_closedDay (s := working s) small awake closed)
  case edge =>
    have edged : atEdge s.sched.cursor = true := by rcases edge with edge | edge <;> rw [edge] <;> rfl
    refine (swapTo_planSwapped (v := { s.sched with staged := some p }) ?_).answers take ?_
    · rw [swappedIn, ← active]
      rfl
    · refine (reqStagePlan_active (s := working s) small awake active).trans ?_
      rw [stageActive_other (s := working s) other, swapAtEdge_edge (s := withStaged (some p) (working s)) edged rfl,
        show atEdge (working s).sched.cursor = true from edged]
      rfl
  case middle =>
    obtain ⟨i, middle⟩ := middle
    have inside : atEdge s.sched.cursor = false := by rw [middle]; rfl
    have hs : serve (.stagePlan p) (working s)
        = served (.stage false) (tryOffers (withStaged (some p) (working s))) := by
      refine (reqStagePlan_active (s := working s) small awake active).trans ?_
      rw [stageActive_other (s := working s) other, swapAtEdge_middle (s := withStaged (some p) (working s)) inside,
        show atEdge (working s).sched.cursor = false from inside]
    obtain ⟨t, run, reply, left⟩ := exec_carried (h := h) take rfl hs
    refine ⟨t, run, reply, ?_, ?_, ?_, ?_, ?_, ?_⟩
    · rw [sched_of_exceptReply left, tryOffers_sched]; rfl
    · rw [roll_of_exceptReply left, tryOffers_roll]; rfl
    · rw [bell_of_exceptReply left, tryOffers_bell]; rfl
    · rw [gate_of_exceptReply left, tryOffers_gate]; rfl
    · rw [reg_of_exceptReply left, tryOffers_reg]; rfl
    · have offers := (tryOffers_work (withStaged (some p) (working s))).control
      exact sameControl_trans (t := tryOffers (withStaged (some p) (working s))) offers
        (sameControl_of_exceptReply left)
  case same =>
    refine exec_quiet (r := .stagePlan p) (s' := withStaged none s) take rfl ?_ rfl
    refine (reqStagePlan_active (s := working s) small awake active).trans ?_
    exact stageActive_same (s := working s) same
  case none =>
    exact exec_refused (r := .stagePlan p) take rfl (reqStagePlan_refused (s := working s) small awake none)

end Sys2Proof.Machine
end

section
/-! PROOFS. SET_CLOCK (R41 to R44): what no setting of the clock touches, and its four cases. -/

namespace Sys2Proof.Machine

open Sys2Proof

/-! ### What the events and swaps of a set clock leave (R34) -/

/-- The clock, the bells and the part's control stand. -/
structure ClockKept (s t : State) : Prop where
  clock : t.sched.clock = s.sched.clock
  day : t.sched.day = s.sched.day
  second : t.sched.second = s.sched.second
  bell : t.bell = s.bell
  control : sameControl s t

section

variable {s t u : State}

theorem ClockKept.refl (s : State) : ClockKept s s := ⟨rfl, rfl, rfl, rfl, rfl, rfl, rfl, rfl, rfl⟩

theorem ClockKept.trans (h : ClockKept s t) (k : ClockKept t u) : ClockKept s u :=
  ⟨k.clock.trans h.clock, k.day.trans h.day, k.second.trans h.second, k.bell.trans h.bell,
    sameControl_trans h.control k.control⟩

theorem ClockKept.of_sched (sched : fixedSched t.sched = fixedSched s.sched) (bell : t.bell = s.bell)
    (control : sameControl s t) : ClockKept s t :=
  ⟨congrArg (·.clock) sched, congrArg (·.day) sched, congrArg (·.second) sched, bell, control⟩

theorem EventWork.clockKept (h : EventWork s t) : ClockKept s t :=
  .of_sched (congrArg fixedSched h.sched) h.bell h.control

end

variable (s : State)

theorem modSched_clockKept (f : ScheduleUnit → ScheduleUnit) (clock : (f s.sched).clock = s.sched.clock)
    (day : (f s.sched).day = s.sched.day) (second : (f s.sched).second = s.sched.second) :
    ClockKept s (s.modSched f) := ⟨clock, day, second, rfl, rfl, rfl, rfl, rfl, rfl⟩

theorem setProcessed_clockKept (t : Nat) : ClockKept s (setProcessed t s) := modSched_clockKept s _ rfl rfl rfl

theorem swapTo_clockKept (p t : Nat) : ClockKept s (swapTo p t s) := by
  have swapped := exceptRegister_swapTo p t s
  have planned : ClockKept s (withPlan p t s) := modSched_clockKept s _ rfl rfl rfl
  exact planned.trans <| .of_sched (congrArg fixedSched (sched_of_exceptRegister swapped))
    (bell_of_exceptRegister swapped) (sameControl_of_exceptRegister swapped)

theorem swapStaged_clockKept (t : Nat) : ClockKept s (swapStaged t s) := by
  unfold swapStaged
  split
  · exact .refl s
  · exact swapTo_clockKept s _ t

theorem swapAtEdge_clockKept : ClockKept s (swapAtEdge s) := by
  unfold swapAtEdge
  split
  · exact swapStaged_clockKept s _
  · exact .refl s

theorem takeNextEvent_clockKept (i : Nat) (e : Event) : ClockKept s (takeNextEvent false i e s) := by
  have side : ClockKept s (takeEvent false e s) := (eventSide_work s e.act).clockKept
  have moved := side.trans <|
    modSched_clockKept _ (fun u => { u with cursor := cursorAfter (activeEvents s) i }) rfl rfl rfl
  unfold takeNextEvent
  dsimp only
  split
  · exact moved.trans (swapStaged_clockKept _ _)
  · exact moved

theorem runEvents_clockKept (t1 : Option Nat) (t2 fuel : Nat) : ClockKept s (runEvents false t1 t2 fuel s) := by
  induction fuel generalizing s with
  | zero => exact .refl s
  | succ k ih =>
    unfold runEvents
    split
    · exact .refl s
    · rename_i i e _
      have taken := (takeNextEvent_clockKept s i e).trans (ih _)
      have moved := modSched_clockKept s (fun u => { u with cursor := cursorAfter (activeEvents s) i }) rfl rfl rfl
      have passed := moved.trans (ih _)
      split
      · exact .refl s
      · cases t1 with
        | none => exact taken
        | some t =>
          dsimp only
          split
          · exact taken
          · exact passed

theorem silentRun_clockKept (t1 : Option Nat) (t2 : Nat) : ClockKept s (silentRun t1 t2 s) :=
  (runEvents_clockKept s t1 t2 65).trans <| (swapAtEdge_clockKept _).trans (setProcessed_clockKept _ t2)

theorem beginDay_clockKept : ClockKept s (beginDay s) := by
  unfold beginDay
  split
  · exact (modSched_clockKept s _ rfl rfl rfl).trans (silentRun_clockKept _ _ _)
  · exact (modSched_clockKept s _ rfl rfl rfl).trans (setProcessed_clockKept _ _)

theorem dayEndNotice_clockKept : ClockKept s (dayEndNotice s) :=
  have ended := dayEndNotice_ends s
  .of_sched (congrArg fixedSched ended.sched) ended.bell ended.control

theorem modRoll_clockKept (f : RollStore → RollStore) : ClockKept s (s.modRoll f) :=
  ⟨rfl, rfl, rfl, rfl, rfl, rfl, rfl, rfl, rfl⟩

theorem startSettlement_clockKept (day : Nat) : ClockKept s (startSettlement day s) := by
  have started := modRoll_clockKept s fun u => { u with rollState := .rollover day, cursor := 0 }
  exact started.trans (dayEndNotice_clockKept _)

theorem rolloverTrigger_clockKept (day : Nat) : ClockKept s (rolloverTrigger day s) := by
  have ended : ClockKept s (withSched (dayOver day s.sched) s) := modSched_clockKept s _ rfl rfl rfl
  refine ended.trans ?_
  rw [rolloverTrigger_eq, passTrigger]
  split
  · exact startSettlement_clockKept _ day
  · exact modRoll_clockKept _ _

theorem swapAtEdge_fixed : fixedSched (swapAtEdge s).sched = fixedSched s.sched := by
  unfold swapAtEdge
  split
  · exact swapStaged_fixed _ s
  · rfl

/-! ### The time set -/

/-- A state whose clock stands at another second. -/
def withSecond (second : Nat) (s : State) : State := s.modSched fun u => { u with second := second }

/-- A state whose clock stands at another time. -/
def withTime (day second : Nat) (s : State) : State :=
  s.modSched fun u => { u with clock := .set, day := day, second := second }

/-- A roll whose day records are all of one day. -/
def withRecordDays (day : Nat) (s : State) : State :=
  s.modRoll fun u => { u with roll := u.roll.map fun p => (p.1, { p.2 with recordDay := day }) }

section

variable {s : State} {day second : Nat}

theorem setClock_unset (unset : s.sched.clock = .unset) :
    setClock day second s = beginDay (withRecordDays day (withTime day second s)) := if_pos unset

theorem setClock_otherDay (set : s.sched.clock = .set) (other : day ≠ s.sched.day) :
    setClock day second s = rolloverTrigger day (s.modSched fun u => { u with day := day, second := second }) := by
  rw [setClock, if_neg (by simp [set]), if_pos other, setOtherDay]

/-- The same date outside ACTIVE changes only the second (log 18). -/
theorem setClock_inactive (set : s.sched.clock = .set) (same : day = s.sched.day) (inactive : s.sched.state ≠ .active) :
    setClock day second s = withSecond second s := by
  rw [setClock, if_neg (by simp [set]), if_neg (by simp [same])]
  split
  · exact if_neg inactive
  · split
    · exact if_neg inactive
    · rw [show second = s.sched.second by omega]; rfl

theorem setClock_forward (set : s.sched.clock = .set) (same : day = s.sched.day) (active : s.sched.state = .active)
    (later : s.sched.second < second) :
    setClock day second s = silentRun (some s.sched.second) second (withSecond second s) := by
  rw [setClock, if_neg (by simp [set]), if_neg (by simp [same]), if_pos later]
  exact if_pos active

theorem setClock_backward (set : s.sched.clock = .set) (same : day = s.sched.day) (active : s.sched.state = .active)
    (earlier : second < s.sched.second) :
    setClock day second s = swapAtEdge (setProcessed second ((withSecond second s).modSched fun u =>
      { u with cursor := seatCursor (activeEvents s) second })) := by
  rw [setClock, if_neg (by simp [set]), if_neg (by simp [same]), if_neg (by omega), if_pos earlier]
  exact if_pos active

theorem setClock_same (set : s.sched.clock = .set) (same : day = s.sched.day) (now : second = s.sched.second) :
    setClock day second s = s := by
  rw [setClock, if_neg (by simp [set]), if_neg (by simp [same]), if_neg (by omega), if_neg (by omega)]

/-- A set clock reads the time set, and no bell has rung (R41 to R44). -/
structure ClockSet (day second : Nat) (s t : State) : Prop where
  clock : t.sched.clock = .set
  day : t.sched.day = day
  second : t.sched.second = second
  bell : t.bell = s.bell
  control : sameControl s t

theorem ClockSet.of_kept {t u : State} (clock : t.sched.clock = .set) (hd : t.sched.day = day)
    (hs : t.sched.second = second) (bell : t.bell = s.bell) (control : sameControl s t) (kept : ClockKept t u) :
    ClockSet day second s u :=
  ⟨kept.clock.trans clock, kept.day.trans hd, kept.second.trans hs, kept.bell.trans bell,
    sameControl_trans control kept.control⟩

theorem sameControl_refl (s : State) : sameControl s s := ⟨rfl, rfl, rfl, rfl, rfl⟩

theorem setClock_sets (day second : Nat) (s : State) : ClockSet day second s (setClock day second s) := by
  cases clock : s.sched.clock with
  | unset =>
    rw [setClock_unset clock]
    exact .of_kept (t := withRecordDays day (withTime day second s)) rfl rfl rfl rfl (sameControl_refl s)
      (beginDay_clockKept _)
  | set =>
    by_cases same : day = s.sched.day
    · have moved {t : State} (kept : ClockKept (withSecond second s) t) : ClockSet day second s t :=
        .of_kept (t := withSecond second s) clock same.symm rfl rfl (sameControl_refl s) kept
      by_cases active : s.sched.state = .active
      · rcases Nat.lt_trichotomy s.sched.second second with later | now | earlier
        · rw [setClock_forward clock same active later]
          exact moved (silentRun_clockKept _ _ _)
        · rw [setClock_same clock same now.symm]
          exact ⟨clock, same.symm, now, rfl, sameControl_refl s⟩
        · rw [setClock_backward clock same active earlier]
          exact moved <| (modSched_clockKept _ _ rfl rfl rfl).trans <| (setProcessed_clockKept _ second).trans
            (swapAtEdge_clockKept _)
      · rw [setClock_inactive clock same active]
        exact moved (.refl _)
    · rw [setClock_otherDay clock same]
      exact .of_kept (t := s.modSched fun u => { u with day := day, second := second }) clock rfl rfl rfl
        (sameControl_refl s) (rolloverTrigger_clockKept _ day)

/-- The time last processed is the second set, in ACTIVE (R43, R44). -/
theorem setClock_processed (set : s.sched.clock = .set) (same : day = s.sched.day) (active : s.sched.state = .active)
    (other : second ≠ s.sched.second) : (setClock day second s).sched.lastSecond = second := by
  rcases Nat.lt_or_gt_of_ne other with earlier | later
  · rw [setClock_backward set same active earlier]
    let seated := (withSecond second s).modSched fun u => { u with cursor := seatCursor (activeEvents s) second }
    have fixed := congrArg (·.lastSecond) (swapAtEdge_fixed (setProcessed second seated))
    exact fixed
  · rw [setClock_forward set same active later]
    rfl

/-- A clock set for the first time begins the calendar's day (R41). -/
structure FirstDay (day second : Nat) (s t : State) : Prop where
  records : ∀ n, (entryAt t n).map (·.recordDay) = (entryAt s n).map fun _ => day
  active : t.sched.active = tabFind s.sched.calendar day
  state : t.sched.state = if (tabFind s.sched.calendar day).isSome then .active else .closedDay
  lastSecond : t.sched.lastSecond = second
  lastDay : t.sched.lastDay = day

theorem setClock_firstDay (hd : day ≤ 365) (unset : s.sched.clock = .unset) (unstaged : s.sched.staged = none) :
    FirstDay day second s (setClock day second s) := by
  rw [setClock_unset unset]
  have plan : calendarPlan (withRecordDays day (withTime day second s)) day = tabFind s.sched.calendar day :=
    if_neg (by omega)
  obtain ⟨u, run, begun⟩ := beginDay_work (s := withRecordDays day (withTime day second s)) unstaged
  have sched := run.sched
  refine ⟨fun n => ?_, ?_, ?_, ?_, ?_⟩
  · have entries := (run.roll.coarser (w := (·.recordDay)) (·.recordDay) fun _ => rfl).find n
    rw [begun]
    refine Eq.trans entries ?_
    show (tabFind (s.roll.roll.map fun p => (p.1, { p.2 with recordDay := day })) n).map (·.recordDay) = _
    rw [tabFind_map (fun e => { e with recordDay := day }), Option.map_map]
    rfl
  · rw [begun, ← plan]; exact congrArg (·.active) sched
  · rw [begun, ← plan]; exact congrArg (·.state) sched
  · rw [begun]; rfl
  · rw [begun]; exact congrArg (·.day) sched

end

end Sys2Proof.Machine
end

section
/-! PROOFS. SET_CLOCK over one event of the active plan (R33, R34, R43), and the request as a whole (R41). -/

namespace Sys2Proof.Machine

open Sys2Proof

/-! ### A silent run over one event (R34, R43) -/

section

variable {s : State} {i : Nat} {e : Event} {since upTo : Nat}

/-- A run stops at an event whose time has not come. -/
theorem runEvents_stops (sounding : Bool) (t1 : Option Nat)
    (h : ∀ i e, nextEvent s = some (i, e) → upTo < e.time) (fuel : Nat) : runEvents sounding t1 upTo fuel s = s := by
  cases fuel with
  | zero => rfl
  | succ k =>
    unfold runEvents
    split
    · rfl
    · rename_i i e next
      exact if_pos (h i e next)

/-- An event taken silent, and the cursor past it. -/
def silentEvent (i : Nat) (e : Event) (s : State) : State :=
  (eventSide e.act s).modSched fun u => { u with cursor := cursorAfter (activeEvents s) i }

theorem takeNextEvent_silentEvent (unstaged : s.sched.staged = none) :
    takeNextEvent false i e s = silentEvent i e s := by
  have after : (silentEvent i e s).sched.staged = none :=
    (RunWork.of_event (eventSide_work s e.act)).staged.trans unstaged
  show (if e.boundary then swapStaged e.time (silentEvent i e s) else silentEvent i e s) = _
  rw [swapStaged_none _ after, ite_self]

theorem silentEvent_sched (i : Nat) (e : Event) (s : State) :
    (silentEvent i e s).sched = { s.sched with cursor := cursorAfter (activeEvents s) i } :=
  congrArg (fun u : ScheduleUnit => { u with cursor := cursorAfter (activeEvents s) i }) (eventSide_work s e.act).sched

theorem silentRun_oneEvent (one : oneEvent s i e since upTo) :
    silentRun (some since) upTo s = setProcessed upTo (silentEvent i e s) := by
  obtain ⟨-, unstaged, cursor, here, after, due, last⟩ := one
  have next : nextEvent s = some (i, e) := nextEvent_eq_some.mpr ⟨cursor, here⟩
  have sched := silentEvent_sched i e s
  have stops : ∀ j f, nextEvent (silentEvent i e s) = some (j, f) → upTo < f.time := by
    intro j f following
    obtain ⟨atNext, found⟩ := nextEvent_eq_some.mp following
    rw [sched] at atNext
    rw [cursorAfter_next atNext, activeEvents_of_sched (congrArg (·.active) sched) (congrArg (·.plans) sched)] at found
    exact last f found
  have first : runEvents false (some since) upTo (64 + 1) s
      = runEvents false (some since) upTo 64 (silentEvent i e s) := by
    rw [runEvents, next]
    simp only [if_neg (Nat.not_lt.mpr due), decide_eq_true after, if_true, takeNextEvent_silentEvent unstaged]
  have edge : swapAtEdge (silentEvent i e s) = silentEvent i e s := swapAtEdge_none (by rw [sched]; exact unstaged)
  show setProcessed upTo (swapAtEdge (runEvents false (some since) upTo (64 + 1) s)) = _
  rw [first, runEvents_stops false _ stops, edge]

/-- What an event taken silent leaves. -/
structure SilentlyTaken (e : Event) (s t : State) : Prop where
  effect : eventEffect e.act s t
  excuses : t.roll.excuses = s.roll.excuses
  families : t.roll.families = s.roll.families
  gateRest : { t.gate with gates := s.gate.gates } = s.gate
  notices : t.msg.notices = s.msg.notices
  credit : t.msg.creditLimit = s.msg.creditLimit
  segments : t.line.segments = s.line.segments

theorem silentEvent_taken (i : Nat) (e : Event) (number : s.office.reportNumber ≤ 65535) :
    SilentlyTaken e s (silentEvent i e s) where
  effect := eventEffect_of_result (eventSide_effect e.act s number) rfl rfl rfl rfl rfl
  excuses := congrArg (·.excuses) (eventSide_work s e.act).rollRest
  families := congrArg (·.families) (eventSide_work s e.act).rollRest
  gateRest := (eventSide_work s e.act).gateRest
  notices := congrArg (·.notices) (eventSide_windowless e.act s)
  credit := congrArg (·.creditLimit) (eventSide_windowless e.act s)
  segments := (eventSide_work s e.act).segments

theorem SilentlyTaken.processed {t : State} (h : SilentlyTaken e s t) (second : Nat) :
    SilentlyTaken e s (setProcessed second t) :=
  ⟨eventEffect_of_result h.effect rfl rfl rfl rfl rfl, h.excuses, h.families, h.gateRest, h.notices, h.credit,
    h.segments⟩

/-- A forward set of the clock over one event takes it silent (R43). -/
theorem setClock_event {day second : Nat} (set : s.sched.clock = .set) (same : day = s.sched.day)
    (one : oneEvent s i e s.sched.second second) :
    setClock day second s = setProcessed second (silentEvent i e (withSecond second s)) := by
  obtain ⟨active, -, -, -, after, due, -⟩ := id one
  rw [setClock_forward set same active (by omega)]
  exact silentRun_oneEvent (s := withSecond second s) one

end

/-! ### SET_CLOCK (R41) -/

section

variable {day second : Nat} {s : State}

theorem reqSetClock_sets (hd : day ≤ 365) (hs : second ≤ 86399) (state : s.sched.state ≠ .ending)
    (awake : s.office.catchUp = false) : reqSetClock day second s
      = served (.clock day second (setClock day second s).sched.state) (tryOffers (setClock day second s)) := by
  have legal : ¬(365 < day || Config.lastSecond < second) = true := by
    have : Config.lastSecond = 86399 := rfl
    simp only [Bool.or_eq_true, decide_eq_true_eq]
    omega
  have sets := setClock_sets day second s
  rw [reqSetClock, if_neg legal, if_neg (by simp [state, awake])]
  dsimp only
  rw [sets.day, sets.second]

theorem reqSetClock_illegal (illegal : 365 < day ∨ 86399 < second) :
    reqSetClock day second s = refuse .badArg s := by
  refine if_pos ?_
  rw [Bool.or_eq_true, decide_eq_true_eq, decide_eq_true_eq]
  exact illegal

theorem reqSetClock_busy (hd : day ≤ 365) (hs : second ≤ 86399)
    (busy : s.sched.state = .ending ∨ s.office.catchUp = true) : reqSetClock day second s = refuse .busy s := by
  have legal : ¬(365 < day || Config.lastSecond < second) = true := by
    have : Config.lastSecond = 86399 := rfl
    simp only [Bool.or_eq_true, decide_eq_true_eq]
    omega
  rw [reqSetClock, if_neg legal, if_pos]
  simpa using busy

/-- The event of a forward set is taken, and the reply leaves what it did. -/
theorem setClock_takes {t : State} {i : Nat} {e : Event} (set : s.sched.clock = .set) (same : day = s.sched.day)
    (one : oneEvent s i e s.sched.second second) (credit : s.msg.creditLimit = 0)
    (number : s.office.reportNumber ≤ 65535)
    (left : exceptReply t = exceptReply (tryOffers (setClock day second (working s)))) :
    SilentlyTaken e s t ∧ t.sched = { s.sched with
      second := second, cursor := cursorAfter (activeEvents s) i, lastSecond := second, lastDay := day } := by
  let y := setProcessed second (silentEvent i e (withSecond second (working s)))
  have taken : SilentlyTaken e (withSecond second (working s)) y :=
    (silentEvent_taken (s := withSecond second (working s)) i e number).processed second
  have basis : EventBasis s (withSecond second (working s)) := ⟨rfl, rfl, rfl, rfl, fun _ _ => rfl, rfl⟩
  have idle : tryOffers y = y := tryOffers_idle (.inr (taken.credit.trans credit))
  rw [setClock_event (s := working s) set same one, idle] at left
  have sched : t.sched = y.sched := sched_of_exceptReply left
  have roll : t.roll = y.roll := roll_of_exceptReply left
  have gate : t.gate = y.gate := gate_of_exceptReply left
  have msg : t.msg = y.msg := msg_of_exceptReply left
  have effect := eventEffect_of_result (basis.effect taken.effect) (reg_of_exceptReply left) roll
    (reportNumber_of_exceptReply left) gate msg
  refine ⟨⟨effect, ?_, ?_, ?_, ?_, ?_, ?_⟩, ?_⟩
  · rw [roll]; exact taken.excuses
  · rw [roll]; exact taken.families
  · rw [gate]; exact taken.gateRest
  · rw [msg]; exact taken.notices
  · rw [msg]; exact taken.credit
  · exact (segments_of_exceptReply left).trans taken.segments
  · rw [sched, setProcessed_sched, silentEvent_sched, same]; rfl

end

/-- Settles O32: the clock and the bells by `setClock_sets`, and each case by the lemma that says what it makes of the
schedule. -/
theorem setClockSets : Obligations.SetClockSets := by
  intro h day second s take
  refine ⟨fun hd hs state awake => ?sets, fun illegal => ?illegal, fun hd hs busy => ?busy⟩
  case sets =>
    obtain ⟨t, run, reply, left⟩ := exec_carried (h := h) (r := .setClock day second) take rfl
      (reqSetClock_sets (s := working s) hd hs state awake)
    have sets := setClock_sets day second (working s)
    have schedule : t.sched = (setClock day second (working s)).sched :=
      (sched_of_exceptReply left).trans (tryOffers_sched _)
    have roll : t.roll = (setClock day second (working s)).roll := (roll_of_exceptReply left).trans (tryOffers_roll _)
    have gate : t.gate = (setClock day second (working s)).gate := (gate_of_exceptReply left).trans (tryOffers_gate _)
    have reg : t.reg = (setClock day second (working s)).reg := (reg_of_exceptReply left).trans (tryOffers_reg _)
    have bell : t.bell = (setClock day second (working s)).bell := (bell_of_exceptReply left).trans (tryOffers_bell _)
    refine ⟨t, run, ?_, ?_, ?_, ?_, ?_, ?_, fun unset unstaged => ?first, fun set other => ?other,
      fun set same inactive => ?inactive, fun set same active other => ?processed,
      fun i e set same normal one credit number => ?event⟩
    · rw [schedule]; exact reply
    · rw [schedule]; exact sets.day
    · rw [schedule]; exact sets.second
    · rw [schedule]; exact sets.clock
    · exact bell.trans sets.bell
    · exact sameControl_trans (t := setClock day second (working s)) sets.control <|
        sameControl_trans (tryOffers_work _).control (sameControl_of_exceptReply left)
    case first =>
      have first := setClock_firstDay (second := second) (s := working s) hd unset unstaged
      rw [schedule]
      refine ⟨fun n => ?_, first.active, first.state, first.lastSecond, first.lastDay⟩
      rw [entryAt, roll]
      exact first.records n
    case other =>
      rw [schedule, setClock_otherDay (s := working s) set other, rolloverTrigger_sched]
      rfl
    case inactive =>
      rw [schedule, roll, gate, reg, setClock_inactive (s := working s) set same inactive]
      exact ⟨rfl, rfl, rfl, rfl⟩
    case processed =>
      rw [schedule]
      exact setClock_processed (s := working s) set same active other
    case event =>
      obtain ⟨taken, sched⟩ := setClock_takes set same one credit number left
      exact ⟨taken.effect, sched, taken.excuses, taken.families, taken.gateRest, taken.notices, taken.segments⟩
  case illegal => exact exec_refused (r := .setClock day second) take rfl (reqSetClock_illegal illegal)
  case busy => exact exec_refused (r := .setClock day second) take rfl (reqSetClock_busy (s := working s) hd hs busy)

end Sys2Proof.Machine
end

section
/-! PROOFS. What a step keeps of the capacities, widths and ranges (R50, R83, R125, R152, R162 to R164) and of the
relays' positions (R60), and the reports, the lines, the Bell Sequencer and the gates. -/

namespace Sys2Proof.Machine

open Sys2Proof

/-! ### What is kept, block by block -/

/-- The gateway port holds no frame, and no output queue is over its capacity (R136, R152). -/
def LineBounded (u : LineUnit) : Prop := u.gwHeld = none ∧ ∀ x ∈ u.segments, x.2.queue.length ≤ 16

/-- The report queue and its counters lie within capacity and width (R162, R163). -/
def ReportsBounded (o : OfficeAgent) : Prop := o.reports.length ≤ 64 ∧ o.lost ≤ 65535 ∧ o.reportNumber ≤ 65535

/-- The movement list and the referral counter lie within capacity and width (R79, R83). -/
def MovementsBounded (u : GateUnit) : Prop := u.movements.length ≤ 1024 ∧ u.referralCounter ≤ 255

/-- The notice queue and the next notice number lie within capacity and width (R124, R125). -/
def NoticesBounded (m : MessageUnit) : Prop := m.notices.length ≤ 256 ∧ m.nextNumber ≤ 65535

/-- On main power, each relay stands as its override and its zone's sounding count give (R60). -/
def RelaysDriven (s : State) : Prop :=
  s.office.powered = true ∧ ∀ r, r < 2 → (relayAt s r).position = relayPosition s (relayAt s r)

/-- A change of state that keeps every block within its bounds, and the relays driven while main power is present. -/
structure Within (s t : State) : Prop where
  line : LineBounded s.line → LineBounded t.line
  reports : ReportsBounded s.office → ReportsBounded t.office
  jobs : s.bell.waiting.length ≤ 4 → t.bell.waiting.length ≤ 4
  gate : MovementsBounded s.gate → MovementsBounded t.gate
  msg : NoticesBounded s.msg → NoticesBounded t.msg
  params : ParamsInRange s → ParamsInRange t
  relays : RelaysDriven s → RelaysDriven t

theorem Within.refl (s : State) : Within s s := ⟨id, id, id, id, id, id, id⟩

theorem Within.trans {s t u : State} (h : Within s t) (k : Within t u) : Within s u :=
  ⟨k.line ∘ h.line, k.reports ∘ h.reports, k.jobs ∘ h.jobs, k.gate ∘ h.gate, k.msg ∘ h.msg, k.params ∘ h.params,
    k.relays ∘ h.relays⟩

theorem paramsInRange_of_same {s t : State} (h : t.office.params = s.office.params) :
    ParamsInRange s → ParamsInRange t := by
  unfold ParamsInRange; rw [h]; exact id

/-- The relays' positions depend on main power, the relays and the sounding counts. -/
theorem relaysDriven_of_same {s t : State} (powered : t.office.powered = s.office.powered)
    (relays : t.bell.relays = s.bell.relays) (sounding : t.bell.sounding = s.bell.sounding) :
    RelaysDriven s → RelaysDriven t := by
  unfold RelaysDriven relayAt relayPosition soundingAt
  rw [powered, relays, sounding]; exact id

/-- A change that leaves the five bounded blocks. -/
theorem Within.of_same {s t : State} (line : t.line = s.line) (office : t.office = s.office) (bell : t.bell = s.bell)
    (gate : t.gate = s.gate) (msg : t.msg = s.msg) : Within s t :=
  ⟨by rw [line]; exact id, by rw [office]; exact id, by rw [bell]; exact id, by rw [gate]; exact id,
    by rw [msg]; exact id, paramsInRange_of_same (by rw [office]),
    relaysDriven_of_same (by rw [office]) (by rw [bell]) (by rw [bell])⟩

section

variable (s : State)

theorem modRoll_bounded (f : RollStore → RollStore) : Within s (s.modRoll f) := .of_same rfl rfl rfl rfl rfl

theorem modSched_bounded (f : ScheduleUnit → ScheduleUnit) : Within s (s.modSched f) := .of_same rfl rfl rfl rfl rfl

theorem modReg_bounded (f : RegisterUnit → RegisterUnit) : Within s (s.modReg f) := .of_same rfl rfl rfl rfl rfl

theorem countChoice_bounded : Within s s.countChoice := .of_same rfl rfl rfl rfl rfl

theorem modEntry_bounded (slot : Nat) (f : RollEntry → RollEntry) : Within s (modEntry slot f s) :=
  .of_same (modEntry_line ..) (modEntry_office ..) (modEntry_bell ..) (modEntry_gate ..) (modEntry_msg ..)

variable {s}

theorem modLine_bounded {f : LineUnit → LineUnit} (hf : LineBounded s.line → LineBounded (f s.line)) :
    Within s (s.modLine f) := ⟨hf, id, id, id, id, id, id⟩

theorem modGate_bounded {f : GateUnit → GateUnit} (hf : MovementsBounded s.gate → MovementsBounded (f s.gate)) :
    Within s (s.modGate f) := ⟨id, id, id, hf, id, id, id⟩

theorem modMsg_bounded {f : MessageUnit → MessageUnit} (hf : NoticesBounded s.msg → NoticesBounded (f s.msg)) :
    Within s (s.modMsg f) := ⟨id, id, id, id, hf, id, id⟩

theorem modOffice_bounded {f : OfficeAgent → OfficeAgent} (hf : ReportsBounded s.office → ReportsBounded (f s.office))
    (params : (f s.office).params = s.office.params) (powered : (f s.office).powered = s.office.powered) :
    Within s (s.modOffice f) :=
  ⟨id, hf, id, id, id, paramsInRange_of_same params, relaysDriven_of_same powered rfl rfl⟩

theorem modBell_bounded {f : BellUnit → BellUnit} (hf : s.bell.waiting.length ≤ 4 → (f s.bell).waiting.length ≤ 4)
    (relays : (f s.bell).relays = s.bell.relays) (sounding : (f s.bell).sounding = s.bell.sounding) :
    Within s (s.modBell f) := ⟨id, id, hf, id, id, id, relaysDriven_of_same rfl relays sounding⟩

end

/-! ### Relays (R60) -/

theorem refreshRelays_drives {s : State} (powered : s.office.powered = true) : RelaysDriven (refreshRelays s) :=
  ⟨powered, fun r hr => by rw [relayAt_refreshRelays s hr]; rfl⟩

/-- A change of the Bell Sequencer after which the relays are brought up. -/
theorem refreshed_bounded {s : State} {f : BellUnit → BellUnit}
    (hf : s.bell.waiting.length ≤ 4 → (f s.bell).waiting.length ≤ 4) : Within s (refreshRelays (s.modBell f)) :=
  ⟨id, id, hf, id, id, id, fun h => refreshRelays_drives h.1⟩

variable (s : State)

theorem refreshRelays_bounded : Within s (refreshRelays s) :=
  ⟨id, id, id, id, id, id, fun h => refreshRelays_drives h.1⟩

/-! ### Reports (R161 to R163) -/

theorem uplinkChoose_bounded : Within s (uplinkChoose s) := by
  unfold uplinkChoose
  split
  · exact .refl s
  · split
    · exact modLine_bounded id
    · split
      · exact .refl s
      · rename_i r rest hr
        have shorter : ReportsBounded s.office → ReportsBounded { s.office with reports := rest } := fun h => by
          have := h.1
          rw [hr, List.length_cons] at this
          exact ⟨by dsimp only; omega, h.2⟩
        exact (modOffice_bounded shorter rfl rfl).trans (modLine_bounded id)

theorem offerReport_bounded (b : ReportBody) : Within s (offerReport b s) := by
  unfold offerReport
  dsimp only
  split
  · rename_i room
    have room : s.office.reports.length < 64 := of_decide_eq_true room
    refine .trans (modOffice_bounded (fun h => ⟨?_, h.2.1, ?_⟩) rfl rfl) (uplinkChoose_bounded _)
    · simpa using room
    · dsimp only; omega
  · exact modOffice_bounded (fun h => ⟨h.1, min_le_left _ _, by dsimp only; omega⟩) rfl rfl

theorem alert_bounded (a : Alert) : Within s (alert a s) := offerReport_bounded s _

/-! ### The lines (Chapter 8, R136) -/

theorem queue_le {u : LineUnit} (h : LineBounded u) (seg : Nat) :
    (tabGet coldSegment u.segments seg).queue.length ≤ 16 := by
  unfold tabGet
  cases hf : tabFind u.segments seg with
  | none => exact Nat.zero_le _
  | some g => exact h.2 _ (mem_of_tabFind hf)

variable {s} in
theorem setSegmentAt_bounded {seg : Nat} {g : Segment}
    (hg : (segmentAt s seg).queue.length ≤ 16 → g.queue.length ≤ 16) : Within s (setSegmentAt seg g s) :=
  modLine_bounded fun h => ⟨h.1, fun x hx => by
    unfold tabSet at hx
    split at hx
    · exact h.2 x (List.mem_filter.mp hx).1
    · rcases mem_tabInsert hx with rfl | hx
      · exact hg (queue_le h seg)
      · exact h.2 x hx⟩

theorem setStationAt_bounded (n : Nat) (e : Station) : Within s (setStationAt n e s) := modLine_bounded id

theorem setErrorsAt_bounded (p : Port) (x : ErrorRecord) : Within s (setErrorsAt p x s) := modLine_bounded id

theorem takeClass_length {c : Nat} {q rest : List FieldFrame} {f : FieldFrame} (h : takeClass c q = some (f, rest)) :
    rest.length ≤ q.length := by
  obtain ⟨x, -, hx⟩ := Option.map_eq_some_iff.mp h
  cases hx
  exact List.length_eraseP_le

theorem takeNext_length {q rest : List FieldFrame} {f : FieldFrame} (h : takeNext q = some (f, rest)) :
    rest.length ≤ q.length := by
  unfold takeNext at h
  rcases (Option.orElse_eq_some _ _ _).mp h with h | ⟨-, h⟩
  · exact takeClass_length h
  · rcases (Option.orElse_eq_some _ _ _).mp h with h | ⟨-, h⟩ <;> exact takeClass_length h

theorem considerPolls_queue (skipped : Byte → Bool) (fuel : Nat) (g : Segment) :
    (considerPolls skipped fuel g).queue = g.queue := by
  have advance (g : Segment) : (advancePoll g).queue = g.queue := by unfold advancePoll; split <;> rfl
  induction fuel generalizing g with
  | zero => rfl
  | succ k ih =>
    unfold considerPolls
    split
    · rfl
    · split
      · rw [ih, advance]
      · exact advance g

/-- The controller's choice takes frames out of the queue only (R153). -/
theorem chooseNext_length (skipped : Byte → Bool) (g : Segment) :
    (chooseNext skipped g).queue.length ≤ g.queue.length := by
  unfold chooseNext
  split
  · exact takeNext_length ‹_›
  · rw [considerPolls_queue]

theorem segmentChoose_bounded (seg : Nat) : Within s (segmentChoose seg s) := by
  unfold segmentChoose
  dsimp only
  split
  · exact .refl s
  · exact setSegmentAt_bounded (chooseNext_length _ _).trans

/-- A frame joins a queue that has a place, or takes the place of a BELL in it (R152). -/
theorem joinQueue_length {g : Segment} (f : FieldFrame) (place : g.queue.any (sameBell f) = true ∨ g.queue.length < 16)
    (h : g.queue.length ≤ 16) : (joinQueue g f).queue.length ≤ 16 := by
  unfold joinQueue
  split
  · simpa using h
  · rename_i fresh
    simpa using place.resolve_left fresh

theorem handFrame_bounded (seg : Nat) (f : FieldFrame) : Within s (handFrame seg f s) := by
  unfold handFrame
  dsimp only
  split
  · rename_i takes
    have place : (segmentAt s seg).queue.any (sameBell f) = true ∨ (segmentAt s seg).queue.length < 16 := by
      simp only [queueTakes, Bool.or_eq_true, Bool.and_eq_true, decide_eq_true_eq] at takes
      exact takes.imp_right And.right
    exact (setSegmentAt_bounded (joinQueue_length f place)).trans (segmentChoose_bounded _ _)
  · exact setSegmentAt_bounded id

theorem handGateway_bounded (f : GatewayFrame) : Within s (handGateway f s) := by
  unfold handGateway; split <;> exact modLine_bounded id

theorem countInvalid_bounded (p : Port) (f : FrameFault) (h : FrameHeader) : Within s (countInvalid p f h s) := by
  unfold countInvalid
  dsimp only
  split
  · exact (setErrorsAt_bounded s _ _).trans (alert_bounded _ _)
  · exact setErrorsAt_bounded s _ _

theorem takeInvalid_bounded (p : Port) (f : FrameFault) (h : FrameHeader) : Within s (takeInvalid p f h s) := by
  unfold takeInvalid
  split
  · exact .refl s
  · exact countInvalid_bounded s p f h

theorem creditExchange_bounded (seg : Nat) (a : Byte) (reply : Bool) : Within s (creditExchange seg a reply s) := by
  unfold creditExchange
  split
  · exact .refl s
  · rename_i n _
    have credited := setStationAt_bounded s n (presenceAfter (stationAt s n) reply)
    dsimp only
    split
    · exact credited.trans (alert_bounded _ _)
    · exact credited.trans (alert_bounded _ _)
    · exact credited
    · exact credited

theorem closeExchange_bounded (seg : Nat) : Within s (closeExchange seg s) :=
  (setSegmentAt_bounded (g := { segmentAt s seg with exchange := none }) id).trans (segmentChoose_bounded _ seg)

theorem takeFrameSent_bounded (seg : Nat) : Within s (takeFrameSent seg s) := by
  unfold takeFrameSent
  dsimp only
  split
  · exact .refl s
  · rename_i f _
    have sent : Within s (setSegmentAt seg { segmentAt s seg with
        sending := none, exchange := (opens f).map fun k => ⟨f.dest, k⟩ } s) := setSegmentAt_bounded id
    exact sent.trans (segmentChoose_bounded _ seg)

theorem takeGatewaySent_bounded : Within s (takeGatewaySent s) := by
  unfold takeGatewaySent
  split
  · exact .refl s
  · split <;> exact modLine_bounded id

theorem chooseAll_bounded (l : List Nat) : Within s (chooseAll l s) := by
  induction l generalizing s with
  | nil => exact .refl s
  | cons n ns ih => exact (segmentChoose_bounded s n).trans (ih _)

/-! ### The Bell Sequencer (Chapter 3) -/

theorem setCurrent_bounded (c : Option CurrentJob) : Within s (setCurrent c s) := modBell_bounded id rfl rfl

theorem writeZone_bounded (z : Nat) (o : ZoneOutcome) (origin : Origin) (sent acked : Nat) :
    Within s (writeZone z o origin sent acked s) :=
  modBell_bounded (f := fun u => { u with zones := tabSet coldZone z _ u.zones }) id rfl rfl

theorem setInputAt_bounded (n : Nat) (x : ContactInput) : Within s (setInputAt n x s) := modBell_bounded id rfl rfl

/-- A job joins the list, which then holds at most four (R50). -/
theorem joinJob_bounded (j : BellJob) : Within s (joinJob j s) := by
  unfold joinJob
  split
  · exact modBell_bounded id rfl rfl
  · exact modBell_bounded (fun _ => by simp) rfl rfl
  · rename_i w ws hw
    split
    · rename_i room
      have room : (w :: ws).length < 4 := room
      exact modBell_bounded (fun _ => by rw [List.length_append, hw]; exact room) rfl rfl
    · have shorter : Within s (s.modBell fun u => { u with waiting := ws }) := modBell_bounded (fun h => by
        rw [hw, List.length_cons] at h; exact Nat.le_of_succ_le h) rfl rfl
      have alerted := alert_bounded (s.modBell fun u => { u with waiting := ws }) (.bellDropped w.zones w.tone w.origin)
      have same : (alert (.bellDropped w.zones w.tone w.origin) (s.modBell fun u => { u with waiting := ws })).bell
          = { s.bell with waiting := ws } := offerReport_bell _ _
      refine ⟨(shorter.trans alerted).line, (shorter.trans alerted).reports, fun h => ?_, (shorter.trans alerted).gate,
        (shorter.trans alerted).msg, (shorter.trans alerted).params, fun h => ?_⟩
      · rw [hw, List.length_cons] at h
        simpa [same] using h
      · exact relaysDriven_of_same rfl rfl rfl ((shorter.trans alerted).relays h)

theorem promote_bounded : Within s (promote s) := by
  unfold promote
  split
  · rename_i j js _ hw
    exact modBell_bounded (fun h => by rw [hw, List.length_cons] at h; exact Nat.le_of_succ_le h) rfl rfl
  · exact .refl s
  · exact .refl s

theorem joinInputJobs_bounded (l : List Nat) : Within s (joinInputJobs l s) := by
  induction l generalizing s with
  | nil => exact .refl s
  | cons n ns ih => exact (joinJob_bounded s _).trans (ih _)

theorem endJob_bounded : Within s (endJob s) :=
  (setCurrent_bounded s none).trans <| (promote_bounded _).trans (joinInputJobs_bounded _ _)

theorem beginSounding_bounded (z duration : Nat) : Within s (beginSounding z duration s) := refreshed_bounded id

theorem visitZone_bounded (c : CurrentJob) : Within s (visitZone c s) := by
  unfold visitZone
  dsimp only
  split
  · exact setCurrent_bounded s _
  · split
    · exact (writeZone_bounded s _ _ _ _ _).trans (setCurrent_bounded _ _)
    · exact (beginSounding_bounded s _ _).trans (setCurrent_bounded _ _)

/-- Every move of the sequencer is kept within bounds. -/
theorem bellStep_bounded {s t : State} (h : bellStep s = some t) : Within s t := by
  unfold bellStep at h
  split at h
  · split at h
    · cases h
    · cases h; exact promote_bounded s
  · split at h
    · split at h <;> cases h
      · exact endJob_bounded s
      · exact visitZone_bounded s _
    · split at h
      · split at h <;> cases h
        exact (writeZone_bounded s _ _ _ _ _).trans (setCurrent_bounded _ _)
      · split at h
        · cases h
        · split at h <;> cases h
          · exact (handFrame_bounded s _ _).trans (setCurrent_bounded _ _)
          · exact handFrame_bounded s _ _

theorem bellMoves_bounded (fuel : Nat) : Within s (bellMoves fuel s) := by
  induction fuel generalizing s with
  | zero => exact .refl s
  | succ n ih =>
    unfold bellMoves
    split
    · exact .refl s
    · exact (bellStep_bounded ‹_›).trans (ih _)

theorem bellRun_bounded : Within s (bellRun s) := bellMoves_bounded s _

theorem takeJob_bounded (j : BellJob) : Within s (takeJob j s) := (joinJob_bounded s j).trans (bellRun_bounded _)

theorem bellReport_bounded (seg : Nat) (a : Byte) (n : Nat) (acked : Bool) : Within s (bellReport seg a n acked s) := by
  unfold bellReport
  split
  · exact .refl s
  · split
    · exact .refl s
    · extract_lets ring t
      have reported : Within s t := setCurrent_bounded s _
      refine reported.trans (.trans ?_ (bellRun_bounded _))
      split
      · exact .refl t
      · exact alert_bounded t _

theorem bellAdmitted_bounded : Within s (bellAdmitted s) := by
  unfold bellAdmitted
  split
  · exact .refl s
  · exact (setCurrent_bounded s _).trans (bellRun_bounded _)

theorem takeInputChange_bounded (n : Nat) (level : Level) (held : Nat) : Within s (takeInputChange n level held s) := by
  unfold takeInputChange changeLevel
  dsimp only
  split
  · split
    · exact (setInputAt_bounded s _ _).trans (takeJob_bounded _ _)
    · exact setInputAt_bounded s _ _
  · exact .refl s

theorem takeFirstLevel_bounded (n : Nat) (level : Level) : Within s (takeFirstLevel n level s) := by
  unfold takeFirstLevel
  dsimp only
  split
  · exact .refl s
  · split
    · exact (setInputAt_bounded s _ _).trans (takeJob_bounded _ _)
    · exact setInputAt_bounded s _ _

theorem takeSoundingExpiry_bounded (z : Nat) : Within s (takeSoundingExpiry z s) := by
  unfold takeSoundingExpiry
  split
  · exact refreshRelays_bounded s
  · exact .refl s

theorem loadInputs_bounded (l : List (Nat × InputConfig)) : Within s (loadInputs l s) := by
  induction l generalizing s with
  | nil => exact .refl s
  | cons x xs ih => exact (setInputAt_bounded s _ _).trans (ih _)

theorem missExchange_bounded (seg : Nat) (x : Exchange) (credited : Bool) :
    Within s (missExchange seg x credited s) := by
  unfold missExchange
  extract_lets t
  have missed : Within s t := by
    unfold t reportMissed
    split
    · exact .refl s
    · exact bellReport_bounded s _ _ _ _
  refine missed.trans (.trans ?_ (closeExchange_bounded _ seg))
  split
  · exact creditExchange_bounded t _ _ _
  · exact .refl t

theorem takeExchangeMiss_bounded (seg : Nat) : Within s (takeExchangeMiss seg s) := by
  unfold takeExchangeMiss
  split
  · exact .refl s
  · exact missExchange_bounded s _ _ _

theorem takeAdmit_bounded (seg : Nat) : Within s (takeAdmit seg s) := by
  unfold takeAdmit
  dsimp only
  split
  · exact .refl s
  · rename_i f fs _
    split
    · rename_i room
      have admitted : Within s (segmentChoose seg
          (setSegmentAt seg (joinQueue { segmentAt s seg with outside := fs } f) s)) :=
        (setSegmentAt_bounded (joinQueue_length (g := { segmentAt s seg with outside := fs }) f (.inr room))).trans
          (segmentChoose_bounded _ seg)
      split
      · exact admitted.trans (bellAdmitted_bounded _)
      · exact admitted
    · exact .refl s

theorem strangerEnds_bounded (seg : Nat) (src : Byte) : Within s (strangerEnds seg src s) := by
  unfold strangerEnds
  split
  · exact .refl s
  · split
    · exact missExchange_bounded s _ _ _
    · exact .refl s

theorem strangerFrame_bounded (seg : Nat) (src kind : Byte) (bs : List Byte) :
    Within s (strangerFrame seg src kind bs s) := by
  unfold strangerFrame
  dsimp only
  split
  · refine (countChoice_bounded s).trans ?_
    split
    · exact (strangerEnds_bounded _ seg src).trans (countInvalid_bounded _ _ _ _)
    · exact (countInvalid_bounded _ _ _ _).trans (strangerEnds_bounded _ seg src)
  · exact (countInvalid_bounded s _ _ _).trans (strangerEnds_bounded _ seg src)

end Sys2Proof.Machine
end

section
/-! PROOFS. The bounds and the relays through the Message Unit, the roll, the gates, the registers and the field
frames. -/

namespace Sys2Proof.Machine

open Sys2Proof

variable (s : State)

/-! ### The Message Unit (Chapter 7) -/

/-- A change of the Message Unit that leaves the notice records and their numbering. -/
theorem modMsg_notices {f : MessageUnit → MessageUnit} (notices : (f s.msg).notices = s.msg.notices)
    (number : (f s.msg).nextNumber = s.msg.nextNumber) : Within s (s.modMsg f) :=
  modMsg_bounded fun h => by rw [NoticesBounded, notices, number]; exact h

theorem replaceNotice_length (old new : Notice) (l : List Notice) : (replaceNotice old new l).length = l.length := by
  induction l with
  | nil => rfl
  | cons n ns ih =>
    unfold replaceNotice
    split
    · rfl
    · rw [List.length_cons, List.length_cons, ih]

theorem modNotice_bounded (n : Notice) (f : Notice → Notice) : Within s (modNotice n f s) :=
  modMsg_bounded fun h => ⟨(replaceNotice_length n (f n) _).le.trans h.1, h.2⟩

theorem walkRequest_bounded : Within s (walkRequest s) := by
  unfold walkRequest
  split
  · exact .refl s
  · split <;> exact modMsg_notices s rfl rfl

theorem releaseDeferred_bounded : Within s (releaseDeferred s) := by
  unfold releaseDeferred
  split
  · exact (modMsg_notices s rfl rfl).trans (walkRequest_bounded _)
  · exact .refl s

theorem resumeWalk_bounded : Within s (resumeWalk s) := by
  unfold resumeWalk
  split
  · exact modMsg_notices s rfl rfl
  · exact .refl s
  · exact .refl s

theorem setDone_bounded (slot : Nat) (r : DueReason) (b : Bool) : Within s (setDone slot r b s) :=
  modEntry_bounded s slot _

theorem clearListed_bounded (r : DueReason) (ps : List (Nat × Bool)) : Within s (clearListed r ps s) := by
  induction ps generalizing s with
  | nil => exact .refl s
  | cons p ps ih =>
    unfold clearListed
    split
    · refine .trans ?_ (ih _)
      split
      · exact .refl s
      · exact setDone_bounded s _ _ _
    · exact ih s

theorem departureEffect_bounded (n : Notice) (res : NoticeResult) : Within s (departureEffect n res s) := by
  unfold departureEffect
  split
  · exact .refl s
  · exact .refl s
  · exact alert_bounded s _
  · split
    · exact .refl s
    · split
      · exact (clearListed_bounded s _ _).trans (walkRequest_bounded _)
      · exact .refl s

theorem leaveQueue_bounded (n : Notice) (res : NoticeResult) : Within s (leaveQueue n res s) := by
  have taken : Within s (s.modMsg fun m => { m with notices := m.notices.erase n }) :=
    modMsg_bounded fun h => ⟨(List.length_erase_le ..).trans h.1, h.2⟩
  exact taken.trans <| (offerReport_bounded _ _).trans <| (departureEffect_bounded _ n res).trans <|
    (resumeWalk_bounded _).trans (releaseDeferred_bounded _)

theorem leavePupil_bounded (n : Notice) (pupil : Nat) : Within s (leavePupil n pupil s) := by
  unfold leavePupil
  extract_lets rest m m' t
  refine (modNotice_bounded s n fun _ => m').trans ?_
  split
  · exact leaveQueue_bounded _ _ _
  · exact releaseDeferred_bounded _

theorem withdrawEach_bounded (pupil : Nat) (l : List Notice) : Within s (withdrawEach pupil l s) := by
  induction l generalizing s with
  | nil => exact .refl s
  | cons n ns ih =>
    refine .trans ?_ (ih _)
    unfold withdrawFrom
    split
    · exact leavePupil_bounded s n pupil
    · exact modNotice_bounded s n _
    · exact modNotice_bounded s n _

theorem withdraw_bounded (slot : Nat) (r : DueReason) : Within s (withdraw slot r s) :=
  (withdrawEach_bounded s _ _).trans (setDone_bounded _ _ _ _)

theorem markChanged_bounded (slot : Nat) (x : Session) (old new : MarkCode) :
    Within s (markChanged slot x old new s) := by
  unfold markChanged
  extract_lets t u
  have absence : Within s t := by
    unfold t
    split
    · exact withdraw_bounded s _ _
    · exact .refl s
  have late : Within t u := by
    unfold u
    split
    · exact withdraw_bounded t _ _
    · exact .refl t
  split
  · exact (absence.trans late).trans (walkRequest_bounded u)
  · exact absence.trans late

theorem setDue_bounded (slot : Nat) (r : DueReason) : Within s (setDue slot r s) := by
  unfold setDue
  split
  · exact .refl s
  · split
    · exact .refl s
    · exact (modEntry_bounded s slot _).trans (walkRequest_bounded _)

theorem tryOffers_bounded : Within s (tryOffers s) := by
  have offered (t : State) (n : Notice) : Within t (offerNotice n t) := by
    unfold offerNotice
    split
    · exact .refl t
    · exact (handGateway_bounded t _).trans (modNotice_bounded _ n _)
  have made (fuel : Nat) (t : State) : Within t (makeOffers fuel t) := by
    induction fuel generalizing t with
    | zero => exact .refl t
    | succ k ih =>
      unfold makeOffers
      split
      · exact .refl t
      · exact (offered t _).trans (ih _)
  exact made _ s

theorem escalate_bounded (n : Notice) : Within s (escalate n s) := by
  unfold escalate
  split
  · exact (modNotice_bounded s n _).trans (releaseDeferred_bounded _)
  · exact leaveQueue_bounded s n _

theorem badContactAlert_bounded (n : Notice) : Within s (badContactAlert n s) := by
  unfold badContactAlert
  split
  · exact alert_bounded s _
  · exact .refl s

theorem takeOutcome_bounded (number attempt : Nat) (r : OutcomeResult) : Within s (takeOutcome number attempt r s) := by
  unfold takeOutcome
  split
  · exact .refl s
  · refine .trans ?_ (tryOffers_bounded _)
    unfold applyOutcome
    split
    · exact .refl s
    · exact leaveQueue_bounded s _ _
    · exact escalate_bounded s _
    · exact (escalate_bounded s _).trans (badContactAlert_bounded _ _)
    · exact leaveQueue_bounded s _ _
    · exact (leaveQueue_bounded s _ _).trans (badContactAlert_bounded _ _)

theorem takeTimeout_bounded (number : Nat) : Within s (takeTimeout number s) := by
  unfold takeTimeout
  split
  · exact .refl s
  · refine .trans ?_ (tryOffers_bounded _)
    unfold outcomeTimedOut
    split
    · exact .refl s
    · exact escalate_bounded s _
    · exact leaveQueue_bounded s _ _

theorem takeTimeouts_bounded (l : List Notice) : Within s (takeTimeouts l s) := by
  induction l generalizing s with
  | nil => exact .refl s
  | cons n ns ih => exact (takeTimeout_bounded s _).trans (ih _)

variable {s} in
/-- A record joins a queue that has room (R125). -/
theorem appendNotice_bounded (n : Notice) (room : s.msg.notices.length < 256) : Within s (appendNotice n s) :=
  modMsg_bounded fun h => ⟨by rw [List.length_append]; exact room, by dsimp only; omega⟩

theorem dealWith_bounded (slot : Nat) (e : RollEntry) (r : DueReason) : Within s (dealWith slot e r s) := by
  unfold dealWith
  split
  · exact (alert_bounded s _).trans (setDone_bounded _ _ _ _)
  · split
    · split
      · exact (modNotice_bounded s _ _).trans (setDone_bounded _ _ _ _)
      · exact modMsg_notices s rfl rfl
    · split
      · exact (appendNotice_bounded _ ‹_›).trans (setDone_bounded _ _ _ _)
      · exact modMsg_notices s rfl rfl

theorem visitSlot_bounded (slot : Nat) : Within s (visitSlot slot s) := by
  have considered (t : State) (r : DueReason) : Within t (considerReason slot r t) := by
    unfold considerReason
    split
    · exact .refl t
    · split
      · exact dealWith_bounded t slot _ r
      · exact .refl t
  have all (l : List DueReason) (t : State) : Within t (considerReasons slot l t) := by
    induction l generalizing t with
    | nil => exact .refl t
    | cons r rs ih =>
      unfold considerReasons
      split
      · exact .refl t
      · exact (considered t r).trans (ih _)
  unfold visitSlot
  split
  · exact .refl s
  · split
    · exact .refl s
    · exact all _ s

theorem passEnd_bounded : Within s (passEnd s) := by
  unfold passEnd
  extract_lets again t
  have offers : Within s t := (modMsg_notices s rfl rfl).trans (tryOffers_bounded _)
  split
  · exact offers.trans (modMsg_notices t rfl rfl)
  · exact offers

theorem noticeVisit_bounded : Within s (noticeVisit s) := by
  unfold noticeVisit
  split
  · exact .refl s
  · split
    · exact passEnd_bounded s
    · refine (visitSlot_bounded s s.msg.cursor).trans ?_
      dsimp only
      split
      · exact tryOffers_bounded _
      · split
        · exact passEnd_bounded _
        · exact modMsg_notices _ rfl rfl

theorem openNoticeWindow_bounded : Within s (openNoticeWindow s) :=
  (modMsg_notices s rfl rfl).trans (walkRequest_bounded _)

theorem closeNoticeWindow_bounded : Within s (closeNoticeWindow s) := by
  have idle (c : Prop) [Decidable c] (m : MessageUnit) : (if c then m else idleWalk m).notices = m.notices
      ∧ (if c then m else idleWalk m).nextNumber = m.nextNumber := by
    split <;> exact ⟨rfl, rfl⟩
  unfold closeNoticeWindow
  split
  · exact modMsg_notices s (idle _ _).1 (idle _ _).2
  · exact .refl s

theorem messageDayEnd_bounded : Within s (messageDayEnd s) := by
  have dropped (l : List Notice) (t : State) : Within t (dropNotices l t) := by
    induction l generalizing t with
    | nil => exact .refl t
    | cons n ns ih => exact (leaveQueue_bounded t n _).trans (ih _)
  exact (dropped _ s).trans (modMsg_notices _ rfl rfl)

theorem messageRestart_bounded : Within s (messageRestart s) := by
  have removed (l : List Notice) (t : State) : Within t (removePending l t) := by
    induction l generalizing t with
    | nil => exact .refl t
    | cons n ns ih =>
      refine .trans ?_ (ih _)
      split
      · exact leaveQueue_bounded t n _
      · exact .refl t
  unfold messageRestart
  extract_lets t u
  have queued : Within s t := modMsg_bounded fun h => ⟨by simpa using h.1, h.2⟩
  refine queued.trans <| (removed _ t).trans (modMsg_bounded fun h => ?_)
  dsimp only
  split <;> exact h

theorem leaveNotices_bounded (pupil : Nat) (l : List Notice) : Within s (leaveNotices pupil l s) := by
  induction l generalizing s with
  | nil => exact .refl s
  | cons n ns ih =>
    refine .trans ?_ (ih _)
    split
    · exact leavePupil_bounded s n pupil
    · exact .refl s

theorem reseatNotices_bounded (family : Nat) (position : Option Nat) (l : List Notice) :
    Within s (reseatNotices family position l s) := by
  induction l generalizing s with
  | nil => exact .refl s
  | cons n ns ih =>
    refine .trans ?_ (ih _)
    split
    · split
      · exact modNotice_bounded s n _
      · exact leaveQueue_bounded s n _
    · exact .refl s

theorem takeReady_bounded (bs : List Byte) : Within s (takeReady bs s) := by
  unfold takeReady
  split
  · exact .refl s
  · exact (modMsg_notices s rfl rfl).trans (tryOffers_bounded _)

theorem takeOutcomeFrame_bounded (bs : List Byte) : Within s (takeOutcomeFrame bs s) := by
  unfold takeOutcomeFrame
  split
  · exact .refl s
  · exact takeOutcome_bounded s _ _ _

theorem takeNotBefore_bounded (number : Nat) : Within s (takeNotBefore number s) := by
  unfold takeNotBefore
  split
  · exact .refl s
  · exact tryOffers_bounded s

/-! ### Marks, on-site states and excuses (Chapters 1 and 6) -/

theorem adjustOnSite_bounded (old new : OnSite) : Within s (adjustOnSite old new s) := by
  rw [adjustOnSite_eq]; exact modGate_bounded id

theorem setOnSite_bounded (slot : Nat) (st : OnSite) : Within s (setOnSite slot st s) := by
  unfold setOnSite
  split
  · exact .refl s
  · exact (modEntry_bounded s slot _).trans (adjustOnSite_bounded _ _ _)

theorem arriveOffSite_bounded (slot : Nat) : Within s (arriveOffSite slot s) := by
  unfold arriveOffSite
  split
  · exact .refl s
  · split
    · exact setOnSite_bounded s slot _
    · exact .refl s

theorem writeMark_bounded (slot : Nat) (x : Session) (old new : Mark) : Within s (writeMark slot x old new s) := by
  unfold writeMark
  extract_lets t u
  have shown : Within t u := by
    unfold u
    split
    · exact arriveOffSite_bounded t slot
    · exact .refl t
  have written : Within s u := (modEntry_bounded s slot _).trans shown
  split
  · exact written
  · exact written.trans (markChanged_bounded u _ _ _ _)

theorem requestMark_bounded (slot : Nat) (x : Session) (k : MarkRequest) : Within s (requestMark slot x k s) := by
  unfold requestMark
  split
  · exact .refl s
  · dsimp only
    split
    · exact writeMark_bounded s slot x _ _
    · split
      · exact alert_bounded s _
      · exact .refl s

theorem requestExcuses_bounded (slot : Nat) (l : List Session) : Within s (requestExcuses slot l s) := by
  induction l generalizing s with
  | nil => exact .refl s
  | cons x xs ih => exact (requestMark_bounded s slot x _).trans (ih _)

theorem applyToday_bounded (slot d1 d2 : Nat) (n : Sessions) : Within s (applyToday slot d1 d2 n s) := by
  unfold applyToday
  split
  · exact requestExcuses_bounded s slot _
  · exact .refl s

theorem setExcuses_bounded (l : List Excuse) : Within s (setExcuses l s) := modRoll_bounded s _

theorem settleRequests_bounded (slot day : Nat) (l : List Excuse) : Within s (settleRequests slot day l s) := by
  induction l generalizing s with
  | nil => exact .refl s
  | cons e es ih =>
    refine .trans ?_ (ih _)
    split
    · exact requestExcuses_bounded s slot _
    · exact .refl s

theorem judgeReport_bounded (bs : List Byte) : Within s (judgeReport bs s).1 := by
  have inserted (r : ParentReport) (slot : Nat) : Within s (insertReport r slot s).1 := by
    unfold insertReport
    dsimp only
    split
    · exact .refl s
    · split
      · exact alert_bounded s _
      · exact (setExcuses_bounded s _).trans (applyToday_bounded _ _ _ _ _)
  unfold judgeReport
  split
  · exact .refl s
  · split
    · exact .refl s
    · split
      · exact alert_bounded s _
      · split
        · exact .refl s
        · exact inserted _ _

theorem takeParentReport_bounded (bs : List Byte) : Within s (takeParentReport bs s) :=
  (judgeReport_bounded s bs).trans <| (handGateway_bounded _ _).trans (tryOffers_bounded _)

/-! ### Gates (Chapter 4) -/

theorem setGateAt_bounded (g : Nat) (x : Gate) : Within s (setGateAt g x s) := modGate_bounded id

theorem applyGateMode_bounded (mask : GateMask) (mode : GateMode) : Within s (applyGateMode mask mode s) := by
  have set (l : List Nat) (t : State) : Within t (setModes mask mode l t) := by
    induction l generalizing t with
    | nil => exact .refl t
    | cons g gs ih =>
      refine .trans ?_ (ih _)
      unfold setGateMode
      split
      · split
        · exact .refl t
        · exact setGateAt_bounded t g _
      · exact .refl t
  exact set _ s

/-- A movement joins a list that has room, or goes unlisted (R83). -/
theorem listMovement_bounded (m : Movement) : Within s (listMovement m s) := by
  unfold listMovement
  split
  · rename_i room
    exact modGate_bounded fun h => ⟨by rw [List.length_append]; exact room, h.2⟩
  · split
    · exact .refl s
    · exact .trans (t := s.modGate fun u => { u with movementsFull := true }) (modGate_bounded id) (alert_bounded _ _)

theorem recordMovement_bounded (m : Movement) (slot : Nat) (x : Option Session) :
    Within s (recordMovement m slot x s) :=
  (listMovement_bounded s m).trans (offerReport_bounded _ _)

theorem decided_bounded (t : TapIn) (a : Answer) (j : Option Judged) : Within s (decided t a j s) :=
  (handFrame_bounded s _ _).trans (setGateAt_bounded _ _ _)

theorem makeReferral_bounded (t : TapIn) (slot pupil : Nat) (why : ReferralReason) (x : Option Session)
    (j : Option Judged) : Within s (makeReferral t slot pupil why x j s) := by
  unfold makeReferral
  extract_lets r u v
  split
  · have numbered : Within u v := modGate_bounded fun h => ⟨h.1, Nat.le_of_lt_succ (Nat.mod_lt _ (by omega))⟩
    exact ((alert_bounded s _).trans numbered).trans <| (setGateAt_bounded v _ _).trans (decided_bounded _ _ _ _)
  · exact (recordMovement_bounded s _ _ _).trans (decided_bounded _ _ _ _)

theorem recordExpired_bounded (g : Nat) (r : Referral) : Within s (recordExpired g r s) :=
  recordMovement_bounded s _ _ _

theorem answerHeld_bounded (r : Referral) (a : Answer) : Within s (answerHeld r a s) := handFrame_bounded s _ _

theorem clearReferral_bounded (g : Nat) : Within s (clearReferral g s) := setGateAt_bounded s g _

theorem takeReferralExpiry_bounded (g : Nat) : Within s (takeReferralExpiry g s) := by
  unfold takeReferralExpiry
  split
  · exact .refl s
  · split
    · exact (clearReferral_bounded s g).trans <| (answerHeld_bounded _ _ _).trans <|
        (recordExpired_bounded _ _ _).trans <|
        (alert_bounded _ _).trans (setGateAt_bounded _ _ _)
    · exact .refl s

theorem eachGate_bounded {f : Nat → State → State} (hf : ∀ g s, Within s (f g s)) (l : List Nat) :
    Within s (eachGate f l s) := by
  induction l generalizing s with
  | nil => exact .refl s
  | cons g gs ih => exact (hf g s).trans (ih _)

theorem gateDayEnd_bounded : Within s (gateDayEnd s) := by
  have cancelled (g : Nat) (t : State) : Within t (cancelAtDayEnd g t) := by
    unfold cancelAtDayEnd
    split
    · exact .refl t
    · exact (clearReferral_bounded t g).trans (answerHeld_bounded _ _ _)
  have emptied (t : State) : Within t (t.modGate fun u => { u with movements := [], movementsFull := false }) :=
    modGate_bounded fun h => ⟨Nat.zero_le _, h.2⟩
  exact (eachGate_bounded s cancelled _).trans <| (emptied _).trans <|
    eachGate_bounded _ (fun g t => setGateAt_bounded t g _) _

theorem gateRestart_bounded : Within s (gateRestart s) := by
  have cancelled (g : Nat) (t : State) : Within t (cancelAtRestart g t) := by
    unfold cancelAtRestart
    split
    · exact .refl t
    · exact (clearReferral_bounded t g).trans (recordExpired_bounded _ _ _)
  exact (eachGate_bounded s cancelled _).trans (eachGate_bounded _ (fun g t => setGateAt_bounded t g _) _)

theorem makeArrivalRequest_bounded (slot minutes : Nat) (r : Option (Session × MarkRequest)) :
    Within s (makeArrivalRequest slot minutes r s) := by
  unfold makeArrivalRequest
  split
  · exact .refl s
  · exact (requestMark_bounded s slot _ _).trans (modEntry_bounded _ slot _)

theorem judgeLateDue_bounded (slot : Nat) (r : Option (Session × MarkRequest)) : Within s (judgeLateDue slot r s) := by
  unfold judgeLateDue
  split
  · exact .refl s
  · split
    · exact setDue_bounded s slot _
    · exact .refl s

theorem applyArrival_bounded (slot g : Nat) (j : Judged) (t now : Nat) (referral : Option Nat) (excused : Bool) :
    Within s (applyArrival slot g j t now referral excused s).1 := by
  unfold applyArrival
  extract_lets k s1 r s2 s3 s4
  have arrived : Within s s1 := (modEntry_bounded s slot _).trans (setOnSite_bounded _ slot _)
  have requested : Within s1 s2 := makeArrivalRequest_bounded s1 slot j.minutes r
  have due : Within s2 s3 := by
    unfold s3
    split
    · exact .refl s2
    · exact judgeLateDue_bounded s2 slot r
  have moved : Within s s4 := (arrived.trans requested).trans <| due.trans (recordMovement_bounded s3 _ slot _)
  split
  · exact (moved.trans (requestMark_bounded _ slot _ _)).trans (judgeLateDue_bounded _ slot r)
  · exact moved.trans (judgeLateDue_bounded _ slot r)
  · exact moved

theorem applySignOut_bounded (slot g now : Nat) (referral : Option Nat) :
    Within s (applySignOut slot g now referral s) :=
  (setOnSite_bounded s slot .signedOut).trans (recordMovement_bounded _ _ slot _)

theorem knownTap_bounded (t : TapIn) (slot : Nat) (e : RollEntry) : Within s (knownTap t slot e s) := by
  unfold knownTap
  dsimp only
  split
  · split
    · exact makeReferral_bounded s _ _ _ _ _ _
    · exact (applySignOut_bounded s slot _ _ _).trans (decided_bounded _ _ _ _)
  · split
    · exact makeReferral_bounded s _ _ _ _ _ _
    · exact (applyArrival_bounded s slot _ _ _ _ _ _).trans (decided_bounded _ _ _ _)

theorem takeTap_bounded (g : Nat) (d : Direction) (seg : Nat) (a : Byte) (bs : List Byte) :
    Within s (takeTap g d seg a bs s) := by
  have answered (t : TapIn) (x : Answer) : Within s (answerTap t x none s) := handFrame_bounded s _ _
  unfold takeTap
  split
  · exact handFrame_bounded s _ _
  · unfold decideTap
    split
    · exact answered _ _
    · split
      · exact answered _ _
      · unfold freshTap
        split
        · exact answered _ _
        · split
          · exact (alert_bounded s _).trans (decided_bounded _ _ _ _)
          · split
            · exact decided_bounded s _ _ _
            · exact knownTap_bounded s _ _ _

theorem decideReferral_bounded (g : Nat) (r : Referral) (d : Decision) : Within s (decideReferral g r d s).1 := by
  have admitted (excused : Bool) : Within s (letIn g r excused s).1 := by
    unfold letIn
    split
    · exact (modEntry_bounded s r.slot _).trans (applyArrival_bounded _ _ _ _ _ _ _ _)
    · have out := applySignOut_bounded s r.slot g s.sched.second (some r.number)
      dsimp only
      split
      · exact out.trans (requestMark_bounded _ _ _ _)
      · exact out
      · exact out
  cases d with
  | letIn => exact admitted false
  | letInExcused => exact admitted true
  | refuse => exact recordMovement_bounded s _ _ _

/-! ### Registers and walks (Chapter 5) -/

theorem closeSession_bounded (x : Session) : Within s (closeSession x s) := by
  have alerts (l : List Nat) (t : State) : Within t (notTakenAlerts x l t) := by
    induction l generalizing t with
    | nil => exact .refl t
    | cons g gs ih =>
      refine .trans ?_ (ih _)
      split
      · exact alert_bounded t _
      · exact .refl t
  unfold closeSession
  split
  · exact (modReg_bounded s _).trans <| (alerts _ _).trans (modReg_bounded _ _)
  · exact .refl s
  · exact .refl s

theorem endPeriod_bounded (k : Nat) : Within s (endPeriod k s) := by
  unfold endPeriod
  split
  · exact (modReg_bounded s _).trans (modReg_bounded _ _)
  · exact .refl s
  · exact .refl s

theorem markRegistered_bounded (slot : Nat) (x : Session) (group : Nat) : Within s (markRegistered slot x group s) := by
  unfold markRegistered
  split
  · exact .refl s
  · split
    · exact .refl s
    · extract_lets t w
      have marked : Within s t := modEntry_bounded s slot _
      split
      · exact marked.trans <| (modReg_bounded t _).trans (offerReport_bounded _ _)
      · exact marked.trans (modReg_bounded t _)

theorem applyEntry_bounded (t : RegisterTarget) (en : Nat × EntryMark) : Within s (applyEntry t en s).1 := by
  cases t with
  | form x g =>
    simp only [applyEntry, formEntry]
    split
    · exact .refl s
    · split_ifs
      · exact .refl s
      · exact .refl s
      · exact .refl s
      · exact (requestMark_bounded s _ x _).trans <| (modReg_bounded _ _).trans (markRegistered_bounded _ _ x g)
  | lesson k room =>
    simp only [applyEntry, lessonEntry]
    split
    · exact .refl s
    · rename_i slot _ _
      have written : Within s (setRoomAt k slot room (modEntry slot (fun e =>
          { e with day := { e.day with lessons := tabSet .unset k (entryLesson en.2) e.day.lessons } }) s)) :=
        (modEntry_bounded s slot _).trans (modReg_bounded _ _)
      split_ifs
      · exact .refl s
      · exact written
      · exact written.trans (arriveOffSite_bounded _ _)

theorem takeRegister_bounded (bs : List Byte) : Within s (takeRegister bs s).1 := by
  have entries (t : RegisterTarget) (l : List (Nat × EntryMark)) (u : State) : Within u (applyEntries t l u).1 := by
    induction l generalizing u with
    | nil => exact .refl u
    | cons en ens ih =>
      unfold applyEntries
      dsimp only
      split <;> exact (applyEntry_bounded u t en).trans (ih _)
  unfold takeRegister
  split
  · exact .refl s
  · unfold applyRegister
    split
    · exact .refl s
    · exact .refl s
    · exact entries _ _ s

theorem walkVisit_bounded (w : Walk) : Within s (walkVisit w s) := by
  unfold walkVisit
  split
  · unfold closeVisit
    split
    · exact .refl s
    · split
      · exact .refl s
      · split
        · split
          · exact (requestMark_bounded s _ _ _).trans (alert_bounded _ _)
          · exact requestMark_bounded s _ _ _
        · exact requestMark_bounded s _ _ _
  · unfold periodVisit
    split
    · exact .refl s
    · split
      · dsimp only
        split
        · exact alert_bounded s _
        · exact (alert_bounded s _).trans (setDue_bounded _ _ _)
      · exact .refl s

theorem walkStep_bounded (close : Bool) : Within s (walkStep close s) := by
  have advanced (t : State) : Within t (advanceWalk t) := by
    unfold advanceWalk
    split
    · exact .refl t
    · split
      · exact (modReg_bounded t _).trans (walkRequest_bounded _)
      · exact modReg_bounded t _
  unfold walkStep
  split
  · exact .refl s
  · split
    · exact (walkVisit_bounded s _).trans (advanced _)
    · exact .refl s

/-! ### Field frames (Chapter 8) -/

theorem replyToPoll_bounded (seg : Nat) (a : Byte) (e : Station) (kind : Byte) (bs : List Byte) :
    Within s (replyToPoll seg a e kind bs s) := by
  have tap (t : State) : Within t (deliverTap seg a e bs t) := by
    unfold deliverTap
    split
    · exact .refl t
    · split
      · exact handFrame_bounded t _ _
      · exact takeTap_bounded t _ _ _ _ _
  have register (t : State) : Within t (deliverRegister seg a e bs t) := by
    unfold deliverRegister
    split
    · exact .refl t
    · split
      · exact handFrame_bounded t _ _
      · exact (takeRegister_bounded t bs).trans (handFrame_bounded _ _ _)
  unfold replyToPoll
  extract_lets t u
  have delivered : Within t u := by
    unfold u
    split
    · exact tap t
    · split
      · exact register t
      · exact .refl t
  exact ((creditExchange_bounded s seg a true).trans delivered).trans (closeExchange_bounded u seg)

theorem replyToBell_bounded (seg : Nat) (a : Byte) (e : Station) (kind : Byte) (n : Nat) :
    Within s (replyToBell seg a e kind n s) := by
  unfold replyToBell
  split
  · exact (creditExchange_bounded s _ _ _).trans <| (bellReport_bounded _ _ _ _ _).trans (closeExchange_bounded _ seg)
  · exact (bellReport_bounded s _ _ _ _).trans <| (creditExchange_bounded _ _ _ _).trans (closeExchange_bounded _ seg)

theorem fieldFrame_bounded (seg : Nat) (src kind : Byte) (bs : List Byte) :
    Within s (fieldFrame seg src kind bs s) := by
  unfold fieldFrame
  split
  · exact .refl s
  · split
    · exact strangerFrame_bounded s _ _ _ _
    · unfold classifiedFrame
      split
      · exact .refl s
      · split
        · exact .refl s
        · split
          · exact replyToPoll_bounded s _ _ _ _ _
          · exact replyToBell_bounded s _ _ _ _ _

end Sys2Proof.Machine
end

section
/-! PROOFS. The bounds and the relays through the schedule, ticks, restarts and requests, and through every command. -/

namespace Sys2Proof.Machine

open Sys2Proof

variable (s : State)

/-! ### Events and swaps (R33 to R38) -/

theorem eventSide_bounded (a : EventAct) : Within s (eventSide a s) := by
  cases a with
  | bell => exact .refl s
  | sessionOpen x =>
    simp only [eventSide, openSession]
    split
    · exact (modReg_bounded s _).trans (modRoll_bounded _ _)
    · exact .refl s
    · exact .refl s
  | sessionStart x => exact .refl s
  | sessionClose x => exact closeSession_bounded s x
  | periodStart k =>
    simp only [eventSide, startPeriod]
    split
    · exact modReg_bounded s _
    · exact .refl s
    · exact .refl s
  | periodEnd k => exact endPeriod_bounded s k
  | gateMode m g => exact applyGateMode_bounded s m g
  | noticeWindowOpen => exact openNoticeWindow_bounded s
  | noticeWindowClose => exact closeNoticeWindow_bounded s

theorem takeEvent_bounded (sounding : Bool) (e : Event) : Within s (takeEvent sounding e s) := by
  unfold takeEvent
  split
  · exact eventSide_bounded s _
  · split
    · refine (countChoice_bounded s).trans ?_
      dsimp only
      split
      · exact (takeJob_bounded _ _).trans (eventSide_bounded _ _)
      · exact (eventSide_bounded _ _).trans (takeJob_bounded _ _)
    · exact (eventSide_bounded s _).trans (takeJob_bounded _ _)

theorem swapTo_bounded (p t : Nat) : Within s (swapTo p t s) := by
  have sessions (l : List Session) (u : State) : Within u (closeSessions t l u) := by
    induction l generalizing u with
    | nil => exact .refl u
    | cons x xs ih =>
      refine .trans ?_ (ih _)
      split
      · exact closeSession_bounded u x
      · exact .refl u
  have periods (l : List Nat) (u : State) : Within u (closePeriods t l u) := by
    induction l generalizing u with
    | nil => exact .refl u
    | cons k ks ih =>
      refine .trans ?_ (ih _)
      split
      · exact endPeriod_bounded u k
      · exact .refl u
  exact (modSched_bounded s _).trans <| (sessions _ _).trans (periods _ _)

theorem swapStaged_bounded (t : Nat) : Within s (swapStaged t s) := by
  unfold swapStaged
  split
  · exact .refl s
  · exact swapTo_bounded s _ t

theorem swapAtEdge_bounded : Within s (swapAtEdge s) := by
  unfold swapAtEdge
  split
  · exact swapStaged_bounded s _
  · exact .refl s

theorem takeNextEvent_bounded (sounding : Bool) (i : Nat) (e : Event) : Within s (takeNextEvent sounding i e s) := by
  unfold takeNextEvent
  extract_lets es t
  have taken : Within s t := (takeEvent_bounded s sounding e).trans (modSched_bounded _ _)
  split
  · exact taken.trans (swapStaged_bounded t _)
  · exact taken

theorem runEvents_bounded (sounding : Bool) (t1 : Option Nat) (t2 fuel : Nat) :
    Within s (runEvents sounding t1 t2 fuel s) := by
  induction fuel generalizing s with
  | zero => exact .refl s
  | succ k ih =>
    unfold runEvents
    split
    · exact .refl s
    · dsimp only
      split
      · exact .refl s
      · cases t1 with
        | none => exact (takeNextEvent_bounded s _ _ _).trans (ih _)
        | some t =>
          dsimp only
          split
          · exact (takeNextEvent_bounded s _ _ _).trans (ih _)
          · exact (modSched_bounded s _).trans (ih _)

theorem setProcessed_bounded (t : Nat) : Within s (setProcessed t s) := modSched_bounded s _

theorem silentRun_bounded (t1 : Option Nat) (t2 : Nat) : Within s (silentRun t1 t2 s) :=
  (runEvents_bounded s _ _ _ _).trans <| (swapAtEdge_bounded _).trans (setProcessed_bounded _ _)

theorem tickEvents_bounded : Within s (tickEvents s) :=
  (runEvents_bounded s _ _ _ _).trans <| (swapAtEdge_bounded _).trans (setProcessed_bounded _ _)

/-! ### Rollover and the clock (R15 to R19, R39 to R44) -/

theorem dayEndNotice_bounded : Within s (dayEndNotice s) :=
  (gateDayEnd_bounded s).trans <| (modReg_bounded _ _).trans (messageDayEnd_bounded _)

theorem startSettlement_bounded (day : Nat) : Within s (startSettlement day s) :=
  (modRoll_bounded s _).trans (dayEndNotice_bounded _)

theorem passTrigger_bounded (day : Nat) : Within s (passTrigger day s) := by
  unfold passTrigger
  split
  · exact startSettlement_bounded s day
  · exact modRoll_bounded s _

theorem rolloverTrigger_bounded (day : Nat) : Within s (rolloverTrigger day s) :=
  (modSched_bounded s _).trans (passTrigger_bounded _ day)

theorem takeSettlementStart_bounded : Within s (takeSettlementStart s) := by
  unfold takeSettlementStart
  split
  · exact .refl s
  · split
    · exact (modRoll_bounded s _).trans (startSettlement_bounded _ _)
    · exact .refl s

theorem beginDay_bounded : Within s (beginDay s) := by
  unfold beginDay
  split
  · exact (modSched_bounded s _).trans (silentRun_bounded _ _ _)
  · exact (modSched_bounded s _).trans (modSched_bounded _ _)

theorem setClock_bounded (day second : Nat) : Within s (setClock day second s) := by
  unfold setClock
  split
  · exact (modSched_bounded s _).trans <| (modRoll_bounded _ _).trans (beginDay_bounded _)
  · split
    · exact (modSched_bounded s _).trans (rolloverTrigger_bounded _ day)
    · split
      · unfold setForward
        dsimp only
        split
        · exact (modSched_bounded s _).trans (silentRun_bounded _ _ _)
        · exact modSched_bounded s _
      · split
        · unfold setBackward
          dsimp only
          split
          · exact (modSched_bounded s _).trans <| (modSched_bounded _ _).trans <|
              (modSched_bounded _ _).trans (swapAtEdge_bounded _)
          · exact modSched_bounded s _
        · exact .refl s

theorem settleEntry_bounded (slot day : Nat) (e : RollEntry) : Within s (settleEntry slot day e s) := by
  have cleared (x : Session) (old : MarkCode) (t : State) : Within t (notifyCleared slot x old t) := by
    unfold notifyCleared
    split
    · exact .refl t
    · exact markChanged_bounded t slot x old _
  unfold settleEntry
  extract_lets raised s1 s2 s3 s4 s5
  have due : Within s3 s4 := by
    unfold s4
    split
    · exact setDue_bounded s3 slot _
    · exact .refl s3
  have settled : Within s s3 := (modEntry_bounded s slot _).trans <| (cleared .am _ s1).trans <|
    (cleared .pm _ _).trans (adjustOnSite_bounded s2 _ _)
  exact (settled.trans due).trans <| (setExcuses_bounded s4 _).trans <| (settleRequests_bounded _ _ _ _).trans
    (modEntry_bounded s5 slot _)

theorem endCatchUp_bounded : Within s (endCatchUp s) := modOffice_bounded id rfl rfl

theorem completeSettlement_bounded : Within s (completeSettlement s) := by
  unfold completeSettlement
  extract_lets t
  have normal : Within s t := (modRoll_bounded s _).trans (modSched_bounded _ _)
  split
  · exact normal.trans <| (beginDay_bounded t).trans (endCatchUp_bounded _)
  · exact normal

theorem takeSettleSlot_bounded : Within s (takeSettleSlot s) := by
  unfold takeSettleSlot
  split
  · exact .refl s
  · extract_lets t
    have settled : Within s t := by
      unfold t settleCursor
      split
      · exact .refl s
      · split
        · exact .refl s
        · split
          · exact .refl s
          · exact settleEntry_bounded s _ _ _
    split
    · exact settled.trans <| (modRoll_bounded t _).trans <| (completeSettlement_bounded _).trans (tryOffers_bounded _)
    · exact settled.trans (modRoll_bounded t _)

/-! ### Ticks, restart and power (R28, R168 to R173) -/

theorem takeTick_bounded : Within s (takeTick s) := by
  have expiries : Within s (takeExpiries s) :=
    (eachGate_bounded s (fun g t => takeReferralExpiry_bounded t g) _).trans (takeTimeouts_bounded _ _)
  have ticked (t : State) : Within t (t.modMsg fun m => { m with notices := m.notices.map tickNotice }) :=
    modMsg_bounded fun h => ⟨by simpa using h.1, h.2⟩
  have timers (t : State) : Within t (tickTimers t) :=
    (eachGate_bounded t (fun g t => setGateAt_bounded t g _) _).trans <| (ticked _).trans (refreshed_bounded id)
  have clock (t : State) : Within t (tickClock t) := by
    unfold tickClock
    split
    · exact .refl t
    · extract_lets wrapped u
      refine .trans (t := u) (modSched_bounded t _) (.trans ?_ (tickEvents_bounded _))
      split
      · exact rolloverTrigger_bounded u _
      · exact .refl u
  exact expiries.trans <| (timers _).trans <| (clock _).trans <| (bellRun_bounded _).trans (tryOffers_bounded _)

/-- The first stage discards the reports and empties every output queue (R158, R170). -/
theorem restartFirst_bounded : Within s (restartFirst s) := by
  have discarded : Within s (s.modOffice fun o =>
      { o with lost := satAdd 65535 o.lost o.reports.length, reports := [] }) :=
    modOffice_bounded (fun h => ⟨Nat.zero_le _, min_le_left _ _, h.2.2⟩) rfl rfl
  have restarted (t : State) : Within t (lineRestart t) := modLine_bounded fun _ => ⟨rfl, fun x hx => by
    obtain ⟨n, -, hn⟩ := List.mem_filterMap.mp hx
    split at hn
    · cases hn
    · cases hn; exact Nat.zero_le _⟩
  exact discarded.trans (restarted _)

theorem bellRestart_bounded : Within s (bellRestart s) :=
  ⟨id, id, fun _ => Nat.zero_le _, id, id, id, fun h => refreshRelays_drives h.1⟩

theorem restartSecond_after_bell : Within (bellRestart s) (restartSecond s) := by
  have both (t : State) : Within t (restartGateMessage t) := by
    unfold restartGateMessage
    split
    · refine (countChoice_bounded t).trans ?_
      dsimp only
      split
      · exact (messageRestart_bounded _).trans (gateRestart_bounded _)
      · exact (gateRestart_bounded _).trans (messageRestart_bounded _)
    · exact (gateRestart_bounded t).trans (messageRestart_bounded _)
  exact (both _).trans <| (modReg_bounded _ _).trans (modSched_bounded _ _)

theorem restartSecond_bounded : Within s (restartSecond s) :=
  (bellRestart_bounded s).trans (restartSecond_after_bell s)

/-- On main power the second stage leaves the relays driven, whatever they were (R63). -/
theorem restartSecond_drives (powered : s.office.powered = true) : RelaysDriven (restartSecond s) :=
  (restartSecond_after_bell s).relays (refreshRelays_drives powered)

theorem beginCatchUp_bounded : Within s (beginCatchUp s) := by
  have passed (l : List Nat) (t : State) : Within t (passTriggers l t) := by
    induction l generalizing t with
    | nil => exact .refl t
    | cons d ds ih => exact (rolloverTrigger_bounded t d).trans (ih _)
  have resumed (t : State) : Within t (resumeSettlement t) := by
    unfold resumeSettlement
    split
    · exact dayEndNotice_bounded t
    · exact .refl t
  have events (t : State) : Within t (catchUpEvents t) := by
    unfold catchUpEvents
    split
    · exact silentRun_bounded t _ _
    · exact modSched_bounded t _
  unfold beginCatchUp
  extract_lets days t u
  have triggers : Within s u := (modOffice_bounded id rfl rfl : Within s t).trans <| (resumed t).trans (passed _ _)
  split
  · exact triggers.trans <| (events u).trans (endCatchUp_bounded _)
  · exact triggers

theorem coldStart_params : ParamsInRange State.reset := fun n g => by
  have grace : tabGet defaultGrace ([] : Table Nat) g = 60 := rfl
  cases n <;> simp [paramRange, paramValue, State.reset, Params.cold, grace]

/-- A cold start, the frames being sent apart (R161, R169). -/
theorem clearAll_bounded : Within s (clearAll s) where
  line _ := ⟨rfl, fun _ hx => nomatch hx⟩
  reports _ := ⟨Nat.zero_le _, Nat.zero_le _, Nat.zero_le _⟩
  jobs _ := Nat.zero_le _
  gate _ := ⟨Nat.zero_le _, Nat.zero_le _⟩
  msg _ := ⟨Nat.zero_le _, Nat.zero_le _⟩
  params _ := coldStart_params
  relays _ := ⟨rfl, fun _ _ => rfl⟩

/-! ### Requests (Chapter 9) -/

variable {s} in
theorem served_bounded {t : State} (d : ReplyData) (h : Within s t) : Within s (served d t).1 := h

theorem reqLoadRoll_bounded (a : LoadRollArgs) : Within s (reqLoadRoll a s).1 := by
  unfold reqLoadRoll
  iterate 3 split; · exact .refl s
  split
  · split
    · exact .refl s
    · exact modEntry_bounded s _ _
  · split
    · exact .refl s
    · split
      · exact .refl s
      · exact served_bounded _ (modRoll_bounded s _)

theorem reqDropRoll_bounded (n : Nat) : Within s (reqDropRoll n s).1 := by
  unfold reqDropRoll
  iterate 2 split; · exact .refl s
  split
  · exact .refl s
  · split
    · exact .refl s
    · exact (adjustOnSite_bounded s _ _).trans <| (leaveNotices_bounded _ _ _).trans <| (modRoll_bounded _ _).trans <|
        (modRoll_bounded _ _).trans (tryOffers_bounded _)

theorem reqLoadFamily_bounded (f : Nat) (held : Bool) (cs : List Contact) : Within s (reqLoadFamily f held cs s).1 := by
  unfold reqLoadFamily
  iterate 4 split; · exact .refl s
  exact (modRoll_bounded s _).trans <| (reseatNotices_bounded _ _ _ _).trans (tryOffers_bounded _)

theorem reqSetMark_bounded (n : Nat) (x : Session) (code : MarkCode) : Within s (reqSetMark n x code s).1 := by
  unfold reqSetMark
  iterate 2 split; · exact .refl s
  split
  · exact .refl s
  · dsimp only
    split
    · exact .refl s
    · exact (requestMark_bounded s _ x _).trans (tryOffers_bounded _)

theorem reqAdjustCounts_bounded (a : AdjustArgs) : Within s (reqAdjustCounts a s).1 := by
  unfold reqAdjustCounts
  split
  · exact .refl s
  · split
    · exact .refl s
    · dsimp only
      split
      · exact .refl s
      · exact modEntry_bounded s _ _

theorem reqAnswerReferral_bounded (g number : Nat) (d : Decision) : Within s (reqAnswerReferral g number d s).1 := by
  unfold reqAnswerReferral
  iterate 2 split; · exact .refl s
  split
  · exact .refl s
  · rename_i r _
    split
    · exact .refl s
    · refine ((clearReferral_bounded s g).trans (decideReferral_bounded _ g r d)).trans ?_
      generalize decideReferral g r d (clearReferral g s) = x
      exact (answerHeld_bounded x.1 r _).trans <| (setGateAt_bounded _ _ _).trans (tryOffers_bounded _)

theorem reqAddExcuse_bounded (a : AddExcuseArgs) : Within s (reqAddExcuse a s).1 := by
  unfold reqAddExcuse
  iterate 3 split; · exact .refl s
  split
  · exact .refl s
  · dsimp only
    split
    · exact .refl s
    · split
      · exact .refl s
      · exact (setExcuses_bounded s _).trans <| (applyToday_bounded _ _ _ _ _).trans (tryOffers_bounded _)

theorem reqRemoveExcuse_bounded (n first last : Nat) : Within s (reqRemoveExcuse n first last s).1 := by
  unfold reqRemoveExcuse
  iterate 2 split; · exact .refl s
  split
  · exact .refl s
  · dsimp only
    split
    · exact .refl s
    · exact setExcuses_bounded s _

theorem reqSendNotice_bounded (f t : Nat) (ps : List Nat) : Within s (reqSendNotice f t ps s).1 := by
  unfold reqSendNotice
  iterate 4 split; · exact .refl s
  split
  · exact .refl s
  · split
    · exact .refl s
    · split
      · exact .refl s
      · rename_i room
        exact (appendNotice_bounded _ (Nat.lt_of_not_le room)).trans (tryOffers_bounded _)

theorem reqSetClock_bounded (day second : Nat) : Within s (reqSetClock day second s).1 := by
  unfold reqSetClock
  iterate 2 split; · exact .refl s
  exact (setClock_bounded s day second).trans (tryOffers_bounded _)

theorem reqStagePlan_bounded (p : Nat) : Within s (reqStagePlan p s).1 := by
  unfold reqStagePlan
  iterate 2 split; · exact .refl s
  split
  · exact .refl s
  · exact .refl s
  · unfold stageActive
    split
    · exact served_bounded _ (modSched_bounded s _)
    · exact served_bounded _ <| (modSched_bounded s _).trans <| (swapAtEdge_bounded _).trans (tryOffers_bounded _)
  · exact served_bounded _ <| (modSched_bounded s _).trans <| (swapTo_bounded _ _ _).trans (tryOffers_bounded _)

theorem reqLoadPlan_bounded (p start : Nat) (es : List Event) (final : Bool) :
    Within s (reqLoadPlan p start es final s).1 := by
  unfold reqLoadPlan acceptPart
  iterate 2 split; · exact .refl s
  split
  · exact .refl s
  · split
    · exact served_bounded _ (modSched_bounded s _)
    · split
      · exact served_bounded _ (modSched_bounded s _)
      · exact .refl s

theorem reqRestart_bounded : Within s (reqRestart s).1 := by
  unfold reqRestart
  extract_lets s1 lost s2 triggers s3 s4 s5
  exact served_bounded _ <| (restartFirst_bounded s).trans <| (restartSecond_bounded s1).trans <|
    (beginCatchUp_bounded s2).trans <| (modOffice_bounded id rfl rfl : Within s3 s4).trans (chooseAll_bounded s4 _)

theorem clampParam_inRange (n : ParamName) (v : Nat) :
    (paramRange n).1 ≤ clampParam n v ∧ clampParam n v ≤ (paramRange n).2 := by
  have order : (paramRange n).1 ≤ (paramRange n).2 := by cases n <;> decide
  unfold clampParam
  omega

/-- A parameter written lies in its range, and the others stand (R165). -/
theorem paramValue_writeParam (p : Params) (x : ParamItem) (n : ParamName) (g : Nat) :
    paramValue (writeParam p x) n g = clampParam n x.value
      ∨ paramValue (writeParam p x) n g = paramValue p n g := by
  obtain ⟨name, v, gate⟩ := x
  by_cases hn : n = name
  · subst hn
    cases n with
    | grace =>
      by_cases hg : g = gate.getD 0
      · exact .inl (by simp [writeParam, paramValue, tabGet_tabSet, hg])
      · exact .inr (by simp [writeParam, paramValue, tabGet_tabSet, hg])
    | _ => exact .inl rfl
  · refine .inr ?_
    cases name <;> cases n <;> first | rfl | exact absurd rfl hn

theorem reqSetParams_bounded (items : List ParamItem) : Within s (reqSetParams items s).1 := by
  have written (p : Params) (h : ∀ n g, (paramRange n).1 ≤ paramValue p n g ∧ paramValue p n g ≤ (paramRange n).2) :
      ∀ n g, (paramRange n).1 ≤ paramValue (items.foldl writeParam p) n g
        ∧ paramValue (items.foldl writeParam p) n g ≤ (paramRange n).2 := by
    induction items generalizing p with
    | nil => exact h
    | cons x xs ih =>
      refine ih _ fun n g => ?_
      rcases paramValue_writeParam p x n g with eq | eq <;> rw [eq]
      · exact clampParam_inRange n _
      · exact h n g
  unfold reqSetParams
  iterate 2 split; · exact .refl s
  exact ⟨id, id, id, id, id, written s.office.params, id⟩

/-- A relay as SET_RELAY leaves it: the override and the zone it was given, and the position they give at once (R61). -/
def relaySet (o : RelayOverride) (zone : Option Nat) (x : Relay) : Relay :=
  { x with override := o, zone := zone.getD x.zone, position := relayPosition s { x with
      override := o, zone := zone.getD x.zone } }

/-- The state in which SET_RELAY leaves the Bell Sequencer. -/
def withRelay (n : Nat) (o : RelayOverride) (zone : Option Nat) : State :=
  refreshRelay n (s.modBell fun u => { u with
    relays := tabSet coldRelay n { relayAt s n with override := o, zone := zone.getD (relayAt s n).zone } u.relays })

theorem relayAt_withRelay (n m : Nat) (o : RelayOverride) (zone : Option Nat) :
    relayAt (withRelay s n o zone) m = if m = n then relaySet s o zone (relayAt s n) else relayAt s m := by
  rw [withRelay, relayAt_refreshRelay]
  simp only [relayAt, modBell_bell, tabGet_tabSet, if_true]
  split <;> rfl

/-- SET_RELAY brings the relay it writes up at once, and the other stands driven (R61). -/
theorem withRelay_bounded (n : Nat) (o : RelayOverride) (zone : Option Nat) : Within s (withRelay s n o zone) := by
  refine ⟨id, id, id, id, id, id, fun h => ⟨h.1, fun r hr => ?_⟩⟩
  rw [relayAt_withRelay]
  split
  · rfl
  · exact h.2 r hr

theorem reqSetRelay_bounded (n : Nat) (o : RelayOverride) (zone : Option Nat) :
    Within s (reqSetRelay n o zone s).1 := by
  unfold reqSetRelay
  split_ifs
  · exact .refl s
  · exact withRelay_bounded s n o zone

theorem reqReadPorts_bounded (clear : Bool) : Within s (reqReadPorts clear s).1 := by
  have read (t : State) : Within t (t.modOffice fun o => { o with lost := if clear then 0 else o.lost }) := by
    refine modOffice_bounded (fun h => ⟨h.1, ?_, h.2.2⟩) rfl rfl
    dsimp only
    split
    · exact Nat.zero_le _
    · exact h.2.1
  exact .trans (t := s.modLine _) (modLine_bounded id) (read _)

/-- Every request keeps the bounds and the relays. -/
theorem serve_bounded (r : Request) : Within s (serve r s).1 := by
  cases r with
  | loadRoll a => exact reqLoadRoll_bounded s a
  | dropRoll n => exact reqDropRoll_bounded s n
  | loadFamily f held cs => exact reqLoadFamily_bounded s f held cs
  | setMark n x code => exact reqSetMark_bounded s n x code
  | adjustCounts a => exact reqAdjustCounts_bounded s a
  | stagePlan p => exact reqStagePlan_bounded s p
  | setClock day second => exact reqSetClock_bounded s day second
  | loadPlan p start es final => exact reqLoadPlan_bounded s p start es final
  | answerReferral g n d => exact reqAnswerReferral_bounded s g n d
  | addExcuse a => exact reqAddExcuse_bounded s a
  | removeExcuse n first last => exact reqRemoveExcuse_bounded s n first last
  | sendNotice f t ps => exact reqSendNotice_bounded s f t ps
  | restart => exact reqRestart_bounded s
  | clearAll => exact clearAll_bounded s
  | setParams items => exact reqSetParams_bounded s items
  | setRelay n o z => exact reqSetRelay_bounded s n o z
  | readPortsPorts clear => exact reqReadPorts_bounded s clear
  | setGateMode m g => exact applyGateMode_bounded s m g
  | readClock => exact .refl s
  | readGates => exact .refl s
  | readParams => exact .refl s
  | ring z tone d o =>
    simp only [serve, reqRing]
    iterate 2 split; · exact .refl s
    exact takeJob_bounded s _
  | loadInputs es =>
    simp only [serve, reqLoadInputs]
    iterate 2 split; · exact .refl s
    exact loadInputs_bounded s es
  | loadPollList g as =>
    simp only [serve, reqLoadPollList]
    iterate 2 split; · exact .refl s
    exact (setSegmentAt_bounded (g := { segmentAt s g with poll := as, cursor := 0, cycle := 0 }) id).trans
      (segmentChoose_bounded _ g)
  | loadTemplates es =>
    simp only [serve, reqLoadTemplates]
    iterate 2 split; · exact .refl s
    exact served_bounded _ (modMsg_notices s rfl rfl)
  | loadStation a =>
    simp only [serve, reqLoadStation]
    split
    · exact .refl s
    · exact setStationAt_bounded s _ _
  | loadCalendar first es =>
    simp only [serve, reqLoadCalendar]
    split
    · exact .refl s
    · exact served_bounded _ (modSched_bounded s _)
  | readRoll sel =>
    simp only [serve, reqReadRoll]
    split
    · exact .refl s
    · split <;> exact .refl s
  | readFamily f =>
    simp only [serve, reqReadFamily]
    split
    · exact .refl s
    · split <;> exact .refl s
  | readExcuses sel start count =>
    simp only [serve, reqReadExcuses]
    split
    · exact .refl s
    · split <;> exact .refl s
  | readPlanPlan p start => simp only [serve, reqReadPlan]; split <;> exact .refl s
  | readPlanCalendar first count => simp only [serve, reqReadCalendar]; split <;> exact .refl s
  | readMovements start count => simp only [serve, reqReadMovements]; split <;> exact .refl s
  | readWindows x first count => simp only [serve, reqReadWindows]; split <;> exact .refl s
  | readNotices sel start count => simp only [serve, reqReadNotices]; split <;> exact .refl s
  | readPortsStations first count => simp only [serve, reqReadStations]; split <;> exact .refl s
  | readPortsPollList g => simp only [serve, reqReadPollList]; split <;> exact .refl s

theorem judgeFrame_bounded (f : UplinkIn) : Within s (judgeFrame f s).1 := by
  unfold judgeFrame
  split
  · split
    · exact serve_bounded s _
    · exact .refl s
  · unfold judgeRaw
    split
    · exact .refl s
    · split
      · exact .refl s
      · split
        · exact .refl s
        · exact serve_bounded s _

/-- A reply goes ahead of a report that then stands first in the queue, which may lose its last (R161, R163). -/
theorem replyFirst_bounded (reply : Reply) (r : Report) : Within s (replyFirst reply r s) := by
  refine .trans (modOffice_bounded (fun h => ⟨List.length_take_le _ _, ?_, h.2.2⟩) rfl rfl) (modLine_bounded id)
  dsimp only
  split
  · exact h.2.1
  · exact min_le_left _ _

theorem placeReply_bounded (free : Bool) (reply : Reply) : Within s (placeReply free reply s) := by
  unfold placeReply
  extract_lets t
  have buffered : Within s t := modOffice_bounded id rfl rfl
  split
  · split
    · exact buffered.trans <| (countChoice_bounded t).trans (replyFirst_bounded _ _ _)
    · exact buffered.trans (countChoice_bounded t)
  · exact buffered
  · exact buffered.trans (uplinkChoose_bounded t)
  · exact buffered.trans (uplinkChoose_bounded t)

theorem takeUplink_bounded (f : UplinkIn) : Within s (takeUplink f s) := by
  have working : Within s (s.modOffice fun o => { o with agent := .working }) := modOffice_bounded id rfl rfl
  exact working.trans <| (judgeFrame_bounded _ f).trans (placeReply_bounded _ _ _)

theorem uplinkArrive_bounded (f : UplinkIn) : Within s (uplinkArrive f s) := by
  unfold uplinkArrive
  split
  · exact takeUplink_bounded s f
  · split
    · exact modLine_bounded id
    · exact countInvalid_bounded s _ _ _

theorem takeUplinkSent_bounded : Within s (takeUplinkSent s) := by
  have sent : Within s (s.modLine fun u => { u with upSending := none }) := modLine_bounded id
  have held (t : State) : Within t (takeHeld t) := by
    unfold takeHeld
    split
    · exact .refl t
    · exact .trans (t := t.modLine fun u => { u with upHeld := none }) (modLine_bounded id) (takeUplink_bounded _ _)
  have idled (t : State) : Within t (t.modOffice fun o => { o with agent := .idle, reply := none }) :=
    modOffice_bounded id rfl rfl
  unfold takeUplinkSent
  split
  · exact .refl s
  · exact sent.trans (uplinkChoose_bounded _)
  · exact sent.trans <| (idled _).trans <| (uplinkChoose_bounded _).trans (held _)

/-! ### Commands -/

theorem gatewayFrame_bounded (src kind : Byte) (bs : List Byte) {f : State → State} (hf : Within s (f s)) :
    Within s (gatewayFrame src kind bs f s) := by
  unfold gatewayFrame
  split
  · exact countInvalid_bounded s _ _ _
  · exact hf

theorem queuesBounded_iff : QueuesBounded s ↔ LineBounded s.line ∧ ReportsBounded s.office ∧ s.bell.waiting.length ≤ 4
    ∧ MovementsBounded s.gate ∧ NoticesBounded s.msg := by
  unfold QueuesBounded LineBounded ReportsBounded MovementsBounded NoticesBounded
  tauto

/-- What every command keeps: the bounds, and the relays at their positions, with main power and without. -/
structure StepKeeps (s t : State) : Prop where
  queues : QueuesBounded s → QueuesBounded t
  params : ParamsInRange s → ParamsInRange t
  relays : RelaysFollow s → RelaysFollow t

variable {s}

theorem Within.queues {t : State} (h : Within s t) (bounded : QueuesBounded s) : QueuesBounded t := by
  obtain ⟨line, reports, jobs, gate, msg⟩ := (queuesBounded_iff s).mp bounded
  exact (queuesBounded_iff t).mpr ⟨h.line line, h.reports reports, h.jobs jobs, h.gate gate, h.msg msg⟩

theorem RelaysDriven.follow (h : RelaysDriven s) : RelaysFollow s := fun r hr => by rw [if_pos h.1, h.2 r hr]

theorem RelaysFollow.driven (h : RelaysFollow s) (on : s.office.powered = true) : RelaysDriven s :=
  ⟨on, fun r hr => by rw [h r hr, if_pos on]⟩

/-- A command of the part on main power, which changes nothing without it (R168). -/
theorem StepKeeps.of_powered {f : State → State} (h : Within s (f s)) :
    StepKeeps s (if s.office.powered then f s else s) := by
  split
  · exact ⟨h.queues, h.params, fun follow => (h.relays (RelaysFollow.driven follow ‹_›)).follow⟩
  · exact ⟨id, id, id⟩

/-- A change that leaves main power, the relays and the sounding counts. -/
theorem StepKeeps.of_bell {t : State} (h : Within s t) (powered : t.office.powered = s.office.powered)
    (bell : t.bell = s.bell) : StepKeeps s t := by
  refine ⟨h.queues, h.params, ?_⟩
  unfold RelaysFollow relayAt relayPosition soundingAt
  rw [powered, bell]
  exact id

theorem relayAt_openRelays (s : State) {r : Nat} (hr : r < 2) :
    relayAt (openRelays s) r = { relayAt s r with position := .opened } := by
  simp only [relayAt, openRelays, modBell_bell, tabGet_tabSet]
  obtain rfl | rfl : r = 0 ∨ r = 1 := by omega
  · rfl
  · rfl

variable (s)

/-- A failure of main power opens both relays, and leaves every queue but for the frames being sent (R168). -/
theorem takePowerFail_keeps : StepKeeps s (takePowerFail s) := by
  unfold takePowerFail
  split
  · have cut : Within s (cutFrames s) := modLine_bounded fun h => ⟨h.1, fun x hx => by
      obtain ⟨n, -, hn⟩ := List.mem_filterMap.mp hx
      split at hn
      · cases hn
      · cases hn; exact queue_le h n⟩
    exact ⟨cut.queues, cut.params, fun _ r hr => congrArg Relay.position (relayAt_openRelays (cutFrames s) hr)⟩
  · exact ⟨id, id, id⟩

/-- The return of main power: a retained restart drives the relays afresh, and a cold start opens them (R169, R170). -/
theorem takePowerUp_keeps : StepKeeps s (takePowerUp s) := by
  unfold takePowerUp
  split
  · exact ⟨id, id, id⟩
  · split
    · unfold powerRestart
      extract_lets t
      have second := (restartFirst_bounded t).trans (restartSecond_bounded _)
      have rest (u : State) : Within u (chooseAll (List.range 4) (beginCatchUp u)) :=
        (beginCatchUp_bounded u).trans (chooseAll_bounded _ _)
      have whole := second.trans (rest _)
      exact ⟨fun h => whole.queues h, fun h => whole.params h,
        fun _ => ((rest _).relays (restartSecond_drives (restartFirst t) rfl)).follow⟩
    · have cleared := clearAll_bounded s
      exact ⟨cleared.queues, cleared.params, fun _ => fun _ _ => rfl⟩

/-- Every command completes and keeps the bounds and the relays. -/
theorem exec_keeps (c : Instr) : ∃ t, exec c s = .next t ∧ StepKeeps s t := by
  have powered {f : State → State} (hf : Within s (f s)) : ∃ t, whenPowered f s = .next t ∧ StepKeeps s t :=
    ⟨_, rfl, .of_powered hf⟩
  have request (h : UpHeader) (r : Request) : ∃ t, whenPowered (requestArrives h r) s = .next t ∧ StepKeeps s t :=
    powered (uplinkArrive_bounded s _)
  cases c with
  | secondsTick =>
    refine ⟨_, rfl, ?_⟩
    have ticked : StepKeeps s (if s.office.powered then takeTick s else s) := .of_powered (takeTick_bounded s)
    split
    · rename_i on
      rwa [if_pos on] at ticked
    · exact .of_bell (modSched_bounded s _) rfl rfl
  | settlementStart => exact powered (takeSettlementStart_bounded s)
  | settleSlot => exact powered (takeSettleSlot_bounded s)
  | closeWalkVisit => exact powered (walkStep_bounded s true)
  | periodEndWalkVisit => exact powered (walkStep_bounded s false)
  | noticeWalkVisit => exact powered (noticeVisit_bounded s)
  | tap seg src bs => exact powered (fieldFrame_bounded s seg src _ bs)
  | referralExpiry g => exact powered (takeReferralExpiry_bounded s g)
  | register seg src bs => exact powered (fieldFrame_bounded s seg src _ bs)
  | nothing seg src => exact powered (fieldFrame_bounded s seg src _ [])
  | bellAck seg src => exact powered (fieldFrame_bounded s seg src _ [])
  | wrongKindReply seg src kind bs => exact powered (fieldFrame_bounded s seg src kind bs)
  | outOfTurnFrame seg src kind bs => exact powered (fieldFrame_bounded s seg src kind bs)
  | strangerFrame seg src kind bs => exact powered (fieldFrame_bounded s seg src kind bs)
  | invalidFrame p f h => exact powered (takeInvalid_bounded s p f h)
  | exchangeMiss seg => exact powered (takeExchangeMiss_bounded s seg)
  | fieldFrameSent seg => exact powered (takeFrameSent_bounded s seg)
  | outputQueueAdmit seg => exact powered (takeAdmit_bounded s seg)
  | soundingCountExpiry z => exact powered (takeSoundingExpiry_bounded s z)
  | inputChange n level held => exact powered (takeInputChange_bounded s n level held)
  | firstLevelTaken n level => exact powered (takeFirstLevel_bounded s n level)
  | ready src bs => exact powered (gatewayFrame_bounded s _ _ _ (takeReady_bounded s bs))
  | notBeforeReached n => exact powered (takeNotBefore_bounded s n)
  | outcome src bs => exact powered (gatewayFrame_bounded s _ _ _ (takeOutcomeFrame_bounded s bs))
  | outcomeTimeout n => exact powered (takeTimeout_bounded s n)
  | parentReport src bs => exact powered (gatewayFrame_bounded s _ _ _ (takeParentReport_bounded s bs))
  | gatewayOtherFrame src kind bs => exact powered (gatewayFrame_bounded s _ _ _ (.refl s))
  | gatewayFrameSent => exact powered (takeGatewaySent_bounded s)
  | uplinkFrameSent => exact powered (takeUplinkSent_bounded s)
  | unknownRequest h kind bs => exact powered (uplinkArrive_bounded s _)
  | powerFail => exact ⟨_, rfl, takePowerFail_keeps s⟩
  | powerUp => exact ⟨_, rfl, takePowerUp_keeps s⟩
  | backupLow below => exact ⟨_, rfl, .of_bell (modOffice_bounded id rfl rfl) rfl rfl⟩
  | _ => exact request _ _

/-- A step keeps the bounds and the relays: the queue of waiting commands is no part of either. -/
theorem step_keeps {s t : State} (h : step s = .next t) : StepKeeps s t := by
  unfold step at h
  split at h
  · cases h; exact ⟨id, id, id⟩
  · rename_i c rest _
    obtain ⟨u, hu, kept⟩ := exec_keeps (s.withPending rest) c
    rw [hu] at h
    cases h
    exact ⟨fun b => kept.queues b, fun p => kept.params p, fun r => kept.relays r⟩

/-- Settles O12: each operation on main power leaves the relays driven, and a change of main power sets them. -/
theorem stepKeepsRelays : Obligations.StepKeepsRelays := fun _ _ follow h => (step_keeps h).relays follow

/-- Settles O13: every operation keeps each block within its bounds. -/
theorem stepKeepsCapacitiesAndRanges : Obligations.StepKeepsCapacitiesAndRanges := fun _ _ h =>
  ⟨(step_keeps h).queues, (step_keeps h).params⟩

end Sys2Proof.Machine
end

section
/-! PROOFS. LOAD_INPUTS and SET_RELAY (R59 to R61). -/

namespace Sys2Proof.Machine

open Sys2Proof

/-! ### LOAD_INPUTS (R59) -/

/-- Loading configurations writes the contact inputs and nothing else. -/
theorem loadInputs_rest (es : List (Nat × InputConfig)) (s : State) :
    loadInputs es s = { s with bell := { s.bell with inputs := (loadInputs es s).bell.inputs } } := by
  induction es generalizing s with
  | nil => rfl
  | cons x xs ih => rw [loadInputs, ih]; rfl

theorem loadInputs_working (es : List (Nat × InputConfig)) (s : State) :
    loadInputs es (working s) = working (loadInputs es s) := by
  induction es generalizing s with
  | nil => rfl
  | cons x xs ih => rw [loadInputs, loadInputs, ← ih]; rfl

/-- An input as LOAD_INPUTS leaves it. -/
def inputLoaded (c : InputConfig) (i : ContactInput) : ContactInput := { i with config := c, live := false }

theorem inputAt_loadInputs_other {es : List (Nat × InputConfig)} {i : Nat} (h : i ∉ es.map Prod.fst) (s : State) :
    inputAt (loadInputs es s) i = inputAt s i := by
  induction es generalizing s with
  | nil => rfl
  | cons x xs ih =>
    rw [List.map_cons, List.mem_cons, not_or] at h
    rw [loadInputs, ih h.2, inputAt_setInputAt, if_neg h.1]

/-- Each input named once takes its configuration. -/
theorem inputAt_loadInputs {es : List (Nat × InputConfig)} (nodup : (es.map Prod.fst).Nodup) {x : Nat × InputConfig}
    (hx : x ∈ es) (s : State) : inputAt (loadInputs es s) x.1 = inputLoaded x.2 (inputAt s x.1) := by
  induction es generalizing s with
  | nil => cases hx
  | cons y ys ih =>
    obtain ⟨fresh, nodup⟩ := List.nodup_cons.mp nodup
    rw [loadInputs]
    rcases List.mem_cons.mp hx with rfl | hx
    · rw [inputAt_loadInputs_other fresh, inputAt_setInputAt, if_pos rfl, inputLoaded]
    · have other : x.1 ≠ y.1 := fun eq => fresh (eq ▸ List.mem_map_of_mem hx)
      rw [ih nodup hx, inputAt_setInputAt, if_neg other]

section

variable {es : List (Nat × InputConfig)} (some_ : 1 ≤ es.length) (few : es.length ≤ 8)

include some_ few

theorem loadInputs_layout : countsOk (.loadInputs es) = true := by simp [countsOk, some_, few]

/-- LOAD_INPUTS of legal configurations is judged by whether an input is repeated (R59). -/
theorem reqLoadInputs_eq (good : ∀ x ∈ es, badInput x = false) (s : State) : reqLoadInputs es s =
    if (es.map Prod.fst).Nodup then served (.bellStatus (bellStatus (loadInputs es s))) (loadInputs es s)
    else refuse .duplicate s := by
  have nonempty : es.isEmpty = false := by cases es <;> simp_all
  have legal : es.any badInput = false := by simpa using good
  have fits : ¬8 < es.length := by omega
  unfold reqLoadInputs
  simp only [nonempty, legal, fits, decide_false, Bool.or_self, Bool.false_eq_true, if_false]
  by_cases nodup : (es.map Prod.fst).Nodup
  · simp only [nodup, decide_true, Bool.not_true, Bool.false_eq_true, if_false, if_true]
  · simp only [nodup, decide_false, Bool.not_false, if_false, if_true]

end

/-! ### SET_RELAY (R61) -/

/-- SET_RELAY refuses a relay above 1 and a zone above 15, and else writes the relay (R61). -/
theorem reqSetRelay_eq (n : Nat) (o : RelayOverride) (zone : Option Nat) (s : State) : reqSetRelay n o zone s =
    if 1 < n ∨ ∃ z, zone = some z ∧ 15 < z then refuse .badArg s
    else served (.bellStatus (bellStatus (withRelay s n o zone))) (withRelay s n o zone) := by
  cases zone with
  | none => simp [reqSetRelay]; rfl
  | some z => simp [reqSetRelay]; rfl

/-- A relay set stands where its override and its new zone's sounding count give (Table 3 of Chapter 3). -/
theorem relaySet_eq (s : State) (o : RelayOverride) (zone : Option Nat) (x : Relay) : relaySet s o zone x =
    { zone := zone.getD x.zone, override := o
      position := match o with
        | .forceOn => .closed
        | .forceOff => .opened
        | .auto => if soundingAt s (zone.getD x.zone) = 0 then .opened else .closed } := by
  cases o <;> rfl

/-- Settles O34: LOAD_INPUTS input by input, and SET_RELAY by the relay it writes. -/
theorem inputAndRelayLoads : Obligations.InputAndRelayLoads := by
  intro h s take
  refine ⟨fun es some_ few good => ?_, fun relay o zone hr hz => ?_, fun relay o zone bad => ?_⟩
  · have layout := loadInputs_layout some_ few
    have judged := reqLoadInputs_eq some_ few good (working s)
    refine ⟨fun nodup => ?_, fun repeated => ?_⟩
    · rw [if_pos nodup, loadInputs_working] at judged
      have done := exec_quiet (h := h) (r := .loadInputs es) take layout (s' := loadInputs es s) judged
        (by rw [loadInputs_rest])
      refine ⟨_, done, fun x hx => inputAt_loadInputs nodup hx s, fun i hi => inputAt_loadInputs_other hi s, ?_⟩
      rw [loadInputs_rest]
      rfl
    · rw [if_neg repeated] at judged
      exact exec_refused (r := .loadInputs es) take layout judged
  · have judged := reqSetRelay_eq relay o zone (working s)
    rw [if_neg (by rintro (wide | ⟨z, rfl, wide⟩); exacts [by omega, by have := hz z rfl; omega])] at judged
    have done := exec_quiet (h := h) (r := .setRelay relay o zone) take rfl (s' := withRelay s relay o zone) judged rfl
    refine ⟨_, done, ?_, fun n hn => ?_, rfl⟩
    · exact (relayAt_withRelay s relay relay o zone).trans ((if_pos rfl).trans (relaySet_eq s o zone _))
    · exact (relayAt_withRelay s relay n o zone).trans (if_neg hn)
  · have judged := reqSetRelay_eq relay o zone (working s)
    rw [if_pos bad] at judged
    exact exec_refused (r := .setRelay relay o zone) take rfl judged

end Sys2Proof.Machine
end

section
/-! PROOFS. The moves of the Bell Sequencer (R51 to R54, R57): the visit of the zones of a mask with nothing to wait
for, and the end of a job. -/

namespace Sys2Proof.Machine

open Sys2Proof

/-! ### Moves counted -/

/-- The sequencer comes from one state to another in so many moves. -/
def Moves (n : Nat) (s t : State) : Prop := ∀ fuel, bellMoves (fuel + n) s = bellMoves fuel t

section

variable {s t u : State} {m n : Nat}

theorem Moves.none (s : State) : Moves 0 s s := fun _ => rfl

theorem Moves.one (h : bellStep s = some t) : Moves 1 s t := fun fuel => by
  show (match bellStep s with
    | .none => s
    | some x => bellMoves fuel x) = _
  rw [h]

theorem Moves.trans (h : Moves m s t) (k : Moves n t u) : Moves (m + n) s u := fun fuel => by
  rw [show fuel + (m + n) = (fuel + n) + m by omega, h, k]

theorem bellMoves_waits (h : bellStep s = Option.none) (fuel : Nat) : bellMoves fuel s = s := by
  cases fuel with
  | zero => rfl
  | succ k => rw [bellMoves, h]

/-- A sequencer that comes to wait within 512 moves has run (log 11). -/
theorem Moves.run (h : Moves n s t) (few : n ≤ 512) (waits : bellStep t = Option.none) : bellRun s = t := by
  obtain ⟨fuel, hf⟩ := Nat.exists_eq_add_of_le' few
  rw [bellRun, hf, h, bellMoves_waits waits]

end

/-! ### What a job leaves in a zone with nothing to wait for -/

/-- Whether a job passes a zone over because an active SUPPRESS input holds it (R51, R58). -/
def passesOver (j : BellJob) (s : State) (z : Nat) : Bool := !j.override && zoneSuppressed s z

/-- A zone visited by a job, none of whose sounders is waited for (R51 to R54). -/
def ringZone (j : BellJob) (z : Nat) (s : State) : State :=
  if inZones j.zones z = false then s
  else if passesOver j s z = true then writeZone z .suppressed j.origin 0 0 s
  else writeZone z .confirmed j.origin 0 0 (beginSounding z j.duration s)

/-- The zones of a list visited in turn. -/
def ringZones (j : BellJob) : List Nat → State → State
  | [], s => s
  | z :: zs, s => ringZones j zs (ringZone j z s)

/-- A job that has come to a zone. -/
def atZone (j : BellJob) (z : Nat) : CurrentJob := { job := j, zone := z, ringing := none }

/-- What the visits of zones leave as it was: all but the current job, the zone records, the sounding counts and the
relays. -/
def exceptRinging (s : State) : State :=
  { s with bell := { s.bell with current := none, zones := [], sounding := [], relays := [] } }

section

variable (j : BellJob) (z : Nat) (s : State)

theorem exceptRinging_setCurrent (c : Option CurrentJob) : exceptRinging (setCurrent c s) = exceptRinging s := rfl

theorem exceptRinging_beginSounding (d : Nat) : exceptRinging (beginSounding z d s) = exceptRinging s := by
  unfold exceptRinging; rfl

theorem exceptRinging_writeZone (o : ZoneOutcome) (origin : Origin) (sent acked : Nat) :
    exceptRinging (writeZone z o origin sent acked s) = exceptRinging s := by unfold exceptRinging; rfl

theorem exceptRinging_ringZone : exceptRinging (ringZone j z s) = exceptRinging s := by
  unfold ringZone
  split
  · rfl
  · split
    · exact exceptRinging_writeZone ..
    · exact (exceptRinging_writeZone ..).trans (exceptRinging_beginSounding ..)

theorem exceptRinging_ringZones (l : List Nat) : exceptRinging (ringZones j l s) = exceptRinging s := by
  induction l generalizing s with
  | nil => rfl
  | cons z zs ih => exact (ih _).trans (exceptRinging_ringZone j z s)

variable {s}

/-- Suppression depends on the contact inputs (R58). -/
theorem zoneSuppressed_of_inputs {t : State} (h : t.bell.inputs = s.bell.inputs) (z : Nat) :
    zoneSuppressed t z = zoneSuppressed s z := by
  unfold zoneSuppressed inputAt
  rw [h]

/-- A zone's sounders depend on the station table (R52). -/
theorem sounders_of_stations {t : State} (h : t.line.stations = s.line.stations) (z : Nat) :
    sounders t z = sounders s z := by
  unfold sounders stationAt
  rw [h]

theorem inputs_of_ringing {t : State} (h : exceptRinging t = exceptRinging s) : t.bell.inputs = s.bell.inputs :=
  congrArg (·.bell.inputs) h

theorem waiting_of_ringing {t : State} (h : exceptRinging t = exceptRinging s) : t.bell.waiting = s.bell.waiting :=
  congrArg (·.bell.waiting) h

theorem line_of_ringing {t : State} (h : exceptRinging t = exceptRinging s) : t.line = s.line := congrArg (·.line) h

theorem sched_of_ringing {t : State} (h : exceptRinging t = exceptRinging s) : t.sched = s.sched :=
  congrArg (·.sched) h

variable (s)

theorem ringZone_setCurrent (c : Option CurrentJob) :
    ringZone j z (setCurrent c s) = setCurrent c (ringZone j z s) := by
  have same : passesOver j (setCurrent c s) z = passesOver j s z := rfl
  unfold ringZone
  rw [same]
  split
  · rfl
  · split <;> rfl

variable {s}

/-- The visit of a zone of no sounders ends in one move or two (R51 to R54). -/
theorem moves_ringZone (current : s.bell.current = some (atZone j z)) (hz : z < 16)
    (silent : inZones j.zones z = true → sounders s z = []) :
    ∃ n ≤ 2, Moves n s (setCurrent (some (atZone j (z + 1))) (ringZone j z s)) := by
  have inside : ¬16 ≤ z := by omega
  have visit : bellStep s = some (visitZone (atZone j z) s) := by simp [bellStep, current, atZone, inside]
  unfold ringZone passesOver
  cases member : inZones j.zones z with
  | false => exact ⟨1, by omega, .one (visit.trans (by simp [visitZone, atZone, member]))⟩
  | true =>
    cases held : !j.override && zoneSuppressed s z with
    | true => exact ⟨1, by omega, .one (visit.trans (by simp [visitZone, atZone, member, held]))⟩
    | false =>
      refine ⟨1 + 1, le_refl _, (Moves.one visit).trans (.one ?_)⟩
      have begun : visitZone (atZone j z) s
          = setCurrent (some { atZone j z with ringing := some ⟨[], 0, 0, 0⟩ }) (beginSounding z j.duration s) := by
        simp [visitZone, atZone, member, held, silent member]
      rw [begun]
      rfl

/-- The visits of the zones from one to another, none of them with sounders. -/
theorem moves_ringZones (k : Nat) : ∀ {z : Nat} {s : State}, s.bell.current = some (atZone j z) → z + k ≤ 16 →
    (∀ y, z ≤ y → y < z + k → inZones j.zones y = true → sounders s y = []) →
    ∃ n ≤ 2 * k, Moves n s (setCurrent (some (atZone j (z + k))) (ringZones j (List.range' z k) s)) := by
  induction k with
  | zero =>
    intro z s current _ _
    have same : setCurrent (some (atZone j z)) s = s := by rw [← current]; rfl
    exact ⟨0, le_refl _, by rw [Nat.add_zero, List.range'_zero, ringZones, same]; exact .none s⟩
  | succ k ih =>
    intro z s current hz silent
    obtain ⟨n, hn, first⟩ := moves_ringZone j z current (by omega) (silent z (le_refl _) (by omega))
    have stations : (ringZone j z s).line.stations = s.line.stations :=
      congrArg (·.stations) (line_of_ringing (exceptRinging_ringZone j z s))
    obtain ⟨m, hm, rest⟩ := ih (z := z + 1) (s := setCurrent (some (atZone j (z + 1))) (ringZone j z s)) rfl (by omega)
      fun y hy hy' member => (sounders_of_stations stations y).trans (silent y (by omega) (by omega) member)
    have moved := first.trans rest
    have commute (l : List Nat) (c : Option CurrentJob) (t : State) :
        ringZones j l (setCurrent c t) = setCurrent c (ringZones j l t) := by
      induction l generalizing t with
      | nil => rfl
      | cons y ys ih => rw [ringZones, ringZones, ringZone_setCurrent, ih]
    rw [commute, show z + 1 + k = z + (k + 1) by omega] at moved
    exact ⟨n + m, by omega, moved⟩

end

/-! ### Zone by zone -/

/-- A zone record written now by a job, with no frames (R53). -/
def rungRecord (s : State) (j : BellJob) (o : ZoneOutcome) : ZoneRecord :=
  { outcome := o, day := s.sched.day, second := s.sched.second, origin := some j.origin, sent := 0, acked := 0 }

section

variable (j : BellJob) (s : State)

theorem soundingAt_beginSounding (z d y : Nat) :
    soundingAt (beginSounding z d s) y = if y = z then max (soundingAt s z) d else soundingAt s y := tabGet_tabSet ..

theorem zoneAt_writeZone (z y : Nat) (o : ZoneOutcome) (origin : Origin) (sent acked : Nat) :
    zoneAt (writeZone z o origin sent acked s) y = if y = z then
      { outcome := o, day := s.sched.day, second := s.sched.second, origin := some origin, sent := sent,
        acked := acked }
    else zoneAt s y := zoneAt_setZoneAt ..

/-- The record and the sounding count of a zone after a visit to a zone. -/
theorem ringZone_at (z y : Nat) :
    zoneAt (ringZone j z s) y = (if y = z ∧ inZones j.zones z = true then
        rungRecord s j (if passesOver j s z = true then .suppressed else .confirmed) else zoneAt s y)
      ∧ soundingAt (ringZone j z s) y = if y = z ∧ inZones j.zones z = true ∧ passesOver j s z = false then
        max (soundingAt s z) j.duration else soundingAt s y := by
  unfold ringZone
  cases member : inZones j.zones z with
  | false => simp
  | true =>
    cases held : passesOver j s z with
    | true => exact ⟨by simp [zoneAt_writeZone, rungRecord], by simp; rfl⟩
    | false =>
      refine ⟨by simp [zoneAt_writeZone, rungRecord]; rfl, ?_⟩
      have written (o : ZoneOutcome) (t : State) :
          soundingAt (writeZone z o j.origin 0 0 t) y = soundingAt t y := rfl
      simp [written, soundingAt_beginSounding]

/-- The record and the sounding count of a zone after the visits of a list of zones. -/
theorem ringZones_at {l : List Nat} (nodup : l.Nodup) (y : Nat) :
    zoneAt (ringZones j l s) y = (if y ∈ l ∧ inZones j.zones y = true then
        rungRecord s j (if passesOver j s y = true then .suppressed else .confirmed) else zoneAt s y)
      ∧ soundingAt (ringZones j l s) y = if y ∈ l ∧ inZones j.zones y = true ∧ passesOver j s y = false then
        max (soundingAt s y) j.duration else soundingAt s y := by
  induction l generalizing s with
  | nil => simp [ringZones]
  | cons z zs ih =>
    obtain ⟨fresh, nodup⟩ := List.nodup_cons.mp nodup
    have ringing := exceptRinging_ringZone j z s
    have record (o : ZoneOutcome) : rungRecord (ringZone j z s) j o = rungRecord s j o := by
      rw [rungRecord, sched_of_ringing ringing]; rfl
    have passed : passesOver j (ringZone j z s) y = passesOver j s y := by
      rw [passesOver, zoneSuppressed_of_inputs (inputs_of_ringing ringing)]; rfl
    obtain ⟨hzone, hsound⟩ := ringZone_at j s z y
    rw [ringZones, (ih (ringZone j z s) nodup).1, (ih (ringZone j z s) nodup).2, record, passed, hzone, hsound]
    by_cases hy : y = z
    · subst hy; simp [fresh]
    · simp [hy]

end

/-! ### The end of a job (R50, R51) -/

section

variable {s : State}

/-- With nothing waiting and no LOW_LEVEL input that goes on ringing, a job that has passed the last zone ends. -/
theorem moves_endJob {c : CurrentJob} (current : s.bell.current = some c) (passed : 16 ≤ c.zone)
    (idle : c.ringing = none) (waiting : s.bell.waiting = []) (live : ∀ i, i < 8 → (inputAt s i).live = false) :
    Moves 1 s (setCurrent none s) := by
  refine .one ?_
  have stands : promote (setCurrent none s) = setCurrent none s := by simp [promote, setCurrent, waiting]
  have silent : inputsAsking (setCurrent none s) = [] := by
    refine List.filter_eq_nil_iff.mpr fun i hi => ?_
    have : (inputAt (setCurrent none s) i).live = false := live i (List.mem_range.mp hi)
    simp [this]
  simp only [bellStep, current, idle, if_pos passed, endJob, stands, silent, joinInputJobs]

theorem bellStep_empty (current : s.bell.current = none) (waiting : s.bell.waiting = []) : bellStep s = none := by
  simp [bellStep, current, waiting]

/-- From a zone on, a job whose further zones have no sounders rings them and ends, and the sequencer waits. -/
theorem run_fromZone {j : BellJob} {z : Nat} (current : s.bell.current = some (atZone j z)) (hz : z ≤ 16)
    (silent : ∀ y, z ≤ y → y < 16 → inZones j.zones y = true → sounders s y = []) (waiting : s.bell.waiting = [])
    (live : ∀ i, i < 8 → (inputAt s i).live = false) :
    ∃ n ≤ 33, Moves n s (setCurrent none (ringZones j (List.range' z (16 - z)) s))
      ∧ bellStep (setCurrent none (ringZones j (List.range' z (16 - z)) s)) = none := by
  obtain ⟨n, hn, rung⟩ := moves_ringZones j (16 - z) current (by omega) fun y hy hy' => silent y hy (by omega)
  have ringing := exceptRinging_ringZones j s (List.range' z (16 - z))
  have inputs (i : Nat) : inputAt (ringZones j (List.range' z (16 - z)) s) i = inputAt s i := by
    rw [inputAt, inputs_of_ringing ringing]; rfl
  have empty : (ringZones j (List.range' z (16 - z)) s).bell.waiting = [] := (waiting_of_ringing ringing).trans waiting
  have ended := moves_endJob (s := setCurrent (some (atZone j (z + (16 - z)))) (ringZones j (List.range' z (16 - z)) s))
    rfl (by show 16 ≤ z + (16 - z); omega) rfl empty fun i hi => (congrArg _ (inputs i)).trans (live i hi)
  exact ⟨n + 1, by omega, rung.trans ended, bellStep_empty rfl empty⟩

end

/-! ### A job with nothing to wait for (R51 to R54) -/

/-- The state in which a job leaves a sequencer that it found idle, its zones having no sounders. -/
def rungState (j : BellJob) (s : State) : State := setCurrent none (ringZones j (List.range 16) s)

theorem exceptRinging_rungState (j : BellJob) (s : State) : exceptRinging (rungState j s) = exceptRinging s :=
  (exceptRinging_setCurrent _ _).trans (exceptRinging_ringZones j s _)

theorem takeJob_ringsAtOnce {j : BellJob} {s : State} (h : ringsAtOnce j s) : takeJob j s = rungState j s := by
  obtain ⟨current, waiting, live, silent⟩ := h
  have joined : joinJob j s = setCurrent (some (atZone j 0)) s := by simp only [joinJob, current, waiting]; rfl
  obtain ⟨n, hn, moved, waits⟩ := run_fromZone (s := setCurrent (some (atZone j 0)) s) rfl (by omega)
    (fun y _ hy member => silent y hy member) waiting live
  have commute (l : List Nat) (t : State) :
      setCurrent none (ringZones j l (setCurrent (some (atZone j 0)) t)) = setCurrent none (ringZones j l t) := by
    induction l generalizing t with
    | nil => rfl
    | cons y ys ih => rw [ringZones, ringZones, ringZone_setCurrent, ih]
  rw [takeJob, joined, moved.run (by omega) waits, commute]
  rfl

/-- What ringing at once leaves, zone by zone. -/
theorem rungState_rungAtOnce {j : BellJob} {s : State} (waiting : s.bell.waiting = []) :
    rungAtOnce j s (rungState j s) := by
  have ringing := exceptRinging_rungState j s
  have zones (z : Nat) := ringZones_at j s (List.nodup_range (n := 16)) z
  have sounding (z : Nat) : soundingAt (rungState j s) z = soundingAt (ringZones j (List.range 16) s) z := rfl
  have record (z : Nat) : zoneAt (rungState j s) z = zoneAt (ringZones j (List.range 16) s) z := rfl
  refine ⟨rfl, (waiting_of_ringing ringing).trans waiting, fun z hz member free => ?_,
    fun z hz member strict held => ?_, fun z hz outside => ?_⟩
  · have passed : passesOver j s z = false := by rcases free with h | h <;> simp [passesOver, h]
    rw [sounding, record, (zones z).1, (zones z).2]
    simp [hz, member, passed, rungRecord]
  · have passed : passesOver j s z = true := by simp [passesOver, strict, held]
    rw [sounding, record, (zones z).1, (zones z).2]
    simp [hz, member, passed, rungRecord]
  · rw [sounding, record, (zones z).1, (zones z).2]
    simp [outside]

end Sys2Proof.Machine
end

section
/-! PROOFS. SOUNDING_COUNT_EXPIRY, INPUT_CHANGE and FIRST_LEVEL_TAKEN (R54, R57, R58, R60). -/

namespace Sys2Proof.Machine

open Sys2Proof

/-! ### The level of an input (R57) -/

/-- An input with a level taken. -/
def withLevel (i : ContactInput) (level : Level) (taken : Bool) : ContactInput :=
  { i with level := level, taken := taken, live := goesOn i.config level }

/-- Input `n` with a level taken, its jobs apart. -/
def levelTaken (n : Nat) (level : Level) (taken : Bool) (s : State) : State :=
  setInputAt n (withLevel (inputAt s n) level taken) s

section

variable (s : State) (n : Nat) (level : Level) (taken : Bool)

theorem inputAt_levelTaken (m : Nat) : inputAt (levelTaken n level taken s) m =
    if m = n then withLevel (inputAt s n) level taken else inputAt s m := inputAt_setInputAt ..

/-- A sequencer that waits goes on waiting when a level is taken. -/
theorem levelTaken_ringWaits {s : State} (h : RingWaits s) : RingWaits (levelTaken n level taken s) :=
  ⟨bellStep_none_of_segments h.waits rfl (fun _ => rfl) rfl, h.busy, h.room⟩

/-- A level taken moves no SUPPRESS zone when the input is none (R58). -/
theorem levelTaken_suppressed {s : State} {n : Nat} (other : (inputAt s n).config.function ≠ .suppress) (z : Nat) :
    zoneSuppressed (levelTaken n level taken s) z = zoneSuppressed s z := by
  have apart := beq_false_of_ne other
  unfold zoneSuppressed
  refine congrArg (List.any (List.range 8)) (funext fun i => ?_)
  rw [inputAt_levelTaken]
  split
  · subst_vars; simp [suppressActive, withLevel, apart]
  · rfl

end

section

variable {c : InputConfig} {level : Level}

theorem goesOn_iff : goesOn c level = true ↔ c.function = .ringNow ∧ c.sense = .lowLevel ∧ level = .low := by
  simp [goesOn, and_assoc]

/-- Whether a change of level asks for a job, sense by sense (R57). -/
theorem changeMakesJob_iff (sense : Sense) : changeMakesJob sense level = true ↔ sense = .anyChange
    ∨ (level = .low ∧ (sense = .falling ∨ sense = .lowLevel)) ∨ (level = .high ∧ sense = .rising) := by
  cases sense <;> cases level <;> decide

end

theorem whenPowered_on {s : State} (on : s.office.powered = true) (f : State → State) :
    whenPowered f s = .next (f s) := by
  rw [whenPowered, if_pos on]

/-- INPUT_CHANGE of a level held for the debounce time (R57). -/
theorem takeInputChange_eq {s : State} {n : Nat} {level : Level} {ms : Nat} (taken : (inputAt s n).taken = true)
    (moved : (inputAt s n).level ≠ level) (held : (inputAt s n).config.debounce ≤ ms) :
    takeInputChange n level ms s =
      if (inputAt s n).config.function = .ringNow ∧ changeMakesJob (inputAt s n).config.sense level = true then
        takeJob (inputJob n (inputAt s n).config) (levelTaken n level (inputAt s n).taken s)
      else levelTaken n level (inputAt s n).taken s := by
  rw [takeInputChange, if_pos ⟨taken, moved, held⟩]
  rfl

theorem takeFirstLevel_eq {s : State} {n : Nat} {level : Level} (fresh : (inputAt s n).taken = false) :
    takeFirstLevel n level s = if goesOn (inputAt s n).config level = true then
      takeJob (inputJob n (inputAt s n).config) (levelTaken n level true s) else levelTaken n level true s := by
  rw [takeFirstLevel, fresh]
  rfl

theorem rungAtOnce_levelTaken {j : BellJob} {s t : State} {n : Nat} {level : Level} {taken : Bool}
    (other : (inputAt s n).config.function ≠ .suppress) (h : rungAtOnce j (levelTaken n level taken s) t) :
    rungAtOnce j s t := by
  obtain ⟨current, waiting, rung, held, outside⟩ := h
  simp only [levelTaken_suppressed level taken other] at rung held
  exact ⟨current, waiting, rung, held, outside⟩

/-- A LOW_LEVEL input apart, an input that asks with nothing before it rings its zones at once (R57, log 11). -/
theorem levelTaken_ringsAtOnce {s : State} {n : Nat} {level : Level} {taken : Bool} {j : BellJob}
    (quiet : goesOn (inputAt s n).config level = false) (current : s.bell.current = none)
    (waiting : s.bell.waiting = []) (live : ∀ k, k < 8 → k ≠ n → (inputAt s k).live = false)
    (silent : ∀ z, z < 16 → inZones j.zones z = true → sounders s z = []) :
    ringsAtOnce j (levelTaken n level taken s) := by
  refine ⟨current, waiting, fun i hi => ?_, silent⟩
  rw [inputAt_levelTaken]
  split
  · exact quiet
  · exact live i hi ‹_›

/-- What a level taken leaves of the inputs when a job then rings or waits. -/
theorem takes_of_inputs {s t : State} {n : Nat} {level : Level} {taken : Bool}
    (h : t.bell.inputs = (levelTaken n level taken s).bell.inputs) :
    inputAt t n = withLevel (inputAt s n) level taken ∧ ∀ m, m ≠ n → inputAt t m = inputAt s m := by
  have same (m : Nat) : inputAt t m = inputAt (levelTaken n level taken s) m := by rw [inputAt, h]; rfl
  refine ⟨?_, fun m hm => ?_⟩
  · rw [same, inputAt_levelTaken, if_pos rfl]
  · rw [same, inputAt_levelTaken, if_neg hm]

theorem withLevel_eq (i : ContactInput) (level : Level) (taken : Bool) : withLevel i level taken = { i with
    level := level, taken := taken
    live := decide (i.config.function = .ringNow ∧ i.config.sense = .lowLevel ∧ level = .low) } := by
  rw [withLevel, show goesOn i.config level = _ from Bool.eq_iff_iff.mpr (goesOn_iff.trans decide_eq_true_iff.symm)]

/-- SOUNDING_COUNT_EXPIRY at a zone whose count stands at 0 (R54, R60). -/
theorem soundingExpiry_relays {s : State} {z : Nat} (zero : soundingAt s z = 0) :
    (∀ r, r < 2 → relayAt (refreshRelays s) r = { relayAt s r with position := relayPosition s (relayAt s r) })
      ∧ ∀ r, r < 2 → (relayAt s r).override = .auto → (relayAt s r).zone = z →
        (relayAt (refreshRelays s) r).position = .opened := by
  have refreshed (r : Nat) (hr : r < 2) :
      relayAt (refreshRelays s) r = { relayAt s r with position := relayPosition s (relayAt s r) } :=
    relayAt_refreshRelays s hr
  refine ⟨refreshed, fun r hr auto zone => ?_⟩
  rw [refreshed r hr]
  show relayPosition s (relayAt s r) = .opened
  rw [relayPosition, auto]
  simp [zone, zero]

/-- Settles O47: the expiry by the relays, a level taken by what its input asks for. -/
theorem contactsAndRelaysFollow : Obligations.ContactsAndRelaysFollow := by
  refine ⟨fun s z on => ⟨fun zero => ?_, fun running => ?_⟩, fun s n level on => ?_⟩
  · have done : exec (.soundingCountExpiry z) s = .next (refreshRelays s) := by
      refine (whenPowered_on on _).trans (congrArg _ ?_)
      rw [takeSoundingExpiry, if_pos zero]
    obtain ⟨positions, opened⟩ := soundingExpiry_relays zero
    exact ⟨_, done, positions, opened, rfl⟩
  · refine (whenPowered_on on _).trans (congrArg _ ?_)
    rw [takeSoundingExpiry, if_neg running]
  intro i live asks job takes waits joined
  have changed (ms : Nat) : exec (.inputChange n level ms) s = .next (takeInputChange n level ms s) :=
    whenPowered_on on _
  have first : exec (.firstLevelTaken n level) s = .next (takeFirstLevel n level s) := whenPowered_on on _
  have taken {t : State} {b : Bool} (h : t.bell.inputs = (levelTaken n level b s).bell.inputs) : takes t b := by
    obtain ⟨own, others⟩ := takes_of_inputs h
    exact ⟨own.trans (withLevel_eq _ _ _), others⟩
  have asks_iff : i.config.function = .ringNow ∧ changeMakesJob i.config.sense level = true ↔ asks :=
    and_congr_right fun _ => changeMakesJob_iff i.config.sense
  have behind (b : Bool) (h : waits) : takes (takeJob job (levelTaken n level b s)) b
      ∧ joined (takeJob job (levelTaken n level b s)) := by
    have ring : RingWaits (levelTaken n level b s) := levelTaken_ringWaits n level b ⟨h.2.1, h.1, h.2.2⟩
    rw [takeJob_waits ring]
    exact ⟨taken rfl, rfl, rfl⟩
  refine ⟨fun ms ht hl hd => ?_, fun ms idle => ?_, fun ht quiet => ?_, fun ht goes hw => ?_, fun ht => ?_⟩
  · have change := takeInputChange_eq ht hl hd
    refine ⟨fun quiet => ?_, fun ask hw => ?_, fun ask quiet current waiting others silent => ?_⟩
    · rw [changed, change, if_neg (mt asks_iff.mp quiet)]
      exact ⟨_, rfl, taken rfl, rfl⟩
    · rw [changed, change, if_pos (asks_iff.mpr ask)]
      exact ⟨_, rfl, behind _ hw⟩
    · rw [changed, change, if_pos (asks_iff.mpr ask)]
      have notLive : goesOn i.config level = false := Bool.eq_false_iff.mpr (mt goesOn_iff.mp quiet)
      have once : ringsAtOnce job (levelTaken n level i.taken s) :=
        levelTaken_ringsAtOnce notLive current waiting others silent
      have notSuppress : (inputAt s n).config.function ≠ .suppress := by
        intro h
        have := ask.1.symm.trans h
        cases this
      have ringing := exceptRinging_rungState job (levelTaken n level i.taken s)
      refine ⟨_, rfl, ?_⟩
      rw [show takeJob (inputJob n i.config) _ = rungState job (levelTaken n level i.taken s) from
        takeJob_ringsAtOnce once]
      refine ⟨taken (inputs_of_ringing ringing), rungAtOnce_levelTaken notSuppress (rungState_rungAtOnce waiting), ?_⟩
      exact congrArg (fun x : State => { x with bell := s.bell }) ringing
  · have none_ : takeInputChange n level ms s = s := by
      rw [takeInputChange, if_neg]
      rintro ⟨ht, hl, hd⟩
      rcases idle with h | h | h
      · exact Bool.false_ne_true (h.symm.trans ht)
      · exact hl h
      · exact Nat.not_le.mpr h hd
    rw [changed, none_]
  · rw [first, takeFirstLevel_eq ht, if_neg (mt goesOn_iff.mp quiet)]
    exact ⟨_, rfl, taken rfl, rfl⟩
  · rw [first, takeFirstLevel_eq ht, if_pos (goesOn_iff.mpr goes)]
    exact ⟨_, rfl, behind _ hw⟩
  · rw [first, takeFirstLevel, if_pos ht]

end Sys2Proof.Machine
end

section
/-! PROOFS. A zone with sounders begun (R51 to R54): the sounders of a zone in station-table order, the BELL frames
handed to idle segments, and the wait for their reports. -/

namespace Sys2Proof.Machine

open Sys2Proof

/-! ### A zone's sounders (R52) -/

theorem firstsOnly_append (seen a b : List (Nat × Byte)) :
    firstsOnly seen (a ++ b) = firstsOnly (firstsOnly seen a) b := by
  induction a generalizing seen with
  | nil => rfl
  | cons x xs ih => exact ih _

theorem firstsOnly_seen {seen l : List (Nat × Byte)} (h : ∀ x ∈ l, x ∈ seen) : firstsOnly seen l = seen := by
  induction l with
  | nil => rfl
  | cons x xs ih =>
    have known : seen.contains x = true := List.contains_iff_mem.mpr (h x (by simp))
    rw [firstsOnly, if_pos known]
    exact ih fun y hy => h y (by simp [hy])

/-- The place of a station table entry that is an enabled sounder of a zone. -/
def soundingPlace (s : State) (z n : Nat) : Option (Nat × Byte) :=
  if (stationAt s n).enabled && (stationAt s n).kind == .sounder && (stationAt s n).unit == z then some (placeOf s n)
  else none

/-- The places of a zone's sounders among consecutive entries, in station-table order. -/
def soundingPlaces (s : State) (z a k : Nat) : List (Nat × Byte) := (List.range' a k).filterMap (soundingPlace s z)

section

variable {s : State} {z : Nat}

theorem soundingPlace_of_soundsIn {n : Nat} (h : soundsIn s z n) : soundingPlace s z n = some (placeOf s n) := by
  obtain ⟨-, enabled, kind, unit⟩ := h
  simp [soundingPlace, enabled, kind, unit]

theorem soundsIn_of_place {n : Nat} {x : Nat × Byte} (hn : n < 48) (h : soundingPlace s z n = some x) :
    soundsIn s z n ∧ placeOf s n = x := by
  unfold soundingPlace at h
  split at h
  · rename_i c
    simp only [Bool.and_eq_true, beq_iff_eq] at c
    exact ⟨⟨hn, c.1.1, c.1.2, c.2⟩, Option.some.inj h⟩
  · cases h

theorem soundsIn_of_mem {a k : Nat} {x : Nat × Byte} (hk : a + k ≤ 48) (h : x ∈ soundingPlaces s z a k) :
    ∃ i, a ≤ i ∧ i < a + k ∧ soundsIn s z i ∧ placeOf s i = x := by
  obtain ⟨i, hi, place⟩ := List.mem_filterMap.mp h
  obtain ⟨lower, upper⟩ := List.mem_range'_1.mp hi
  exact ⟨i, lower, upper, soundsIn_of_place (by omega) place⟩

/-- The entries up to a sounder's, that sounder, and the entries after it. -/
theorem soundingPlaces_split {a n k : Nat} (h : soundsIn s z (a + n)) :
    soundingPlaces s z a (n + 1 + k) =
      soundingPlaces s z a n ++ placeOf s (a + n) :: soundingPlaces s z (a + n + 1) k := by
  have ranges : List.range' a (n + 1 + k) = List.range' a n ++ (a + n) :: List.range' (a + n + 1) k := by
    rw [← List.range'_succ, List.range'_append_1, Nat.add_right_comm, Nat.add_assoc]
  rw [soundingPlaces, ranges, List.filterMap_append, List.filterMap_cons_some (soundingPlace_of_soundsIn h)]
  rfl

theorem sounders_eq : sounders s z = firstsOnly [] (soundingPlaces s z 0 48) := by
  rw [soundingPlaces, ← List.range_eq_range']; rfl

theorem soundingPlaces_nil {a k : Nat} (hk : a + k ≤ 48) (h : ∀ i, a ≤ i → i < a + k → ¬soundsIn s z i) :
    soundingPlaces s z a k = [] := by
  refine List.eq_nil_iff_forall_not_mem.mpr fun x hx => ?_
  obtain ⟨i, lower, upper, sounds, -⟩ := soundsIn_of_mem hk hx
  exact h i lower upper sounds

/-- The lowest-numbered sounder of a zone comes first. -/
theorem sounders_first {n : Nat} (h : soundsIn s z n) (first : ∀ k, k < n → ¬soundsIn s z k) :
    sounders s z = firstsOnly [placeOf s n] (soundingPlaces s z (n + 1) (47 - n)) := by
  have bound := h.1
  have split := soundingPlaces_split (k := 47 - n) (show soundsIn s z (0 + n) by rwa [Nat.zero_add])
  have before : soundingPlaces s z 0 n = [] := soundingPlaces_nil (by omega) fun i _ hi => first i (by omega)
  rw [show n + 1 + (47 - n) = 48 by omega, Nat.zero_add, before, List.nil_append] at split
  rw [sounders_eq, split]
  rfl

/-- A zone whose enabled sounders share one place. -/
theorem sounders_one {n : Nat} (h : soundsIn s z n) (first : ∀ k, k < n → ¬soundsIn s z k)
    (all : ∀ k, soundsIn s z k → placeOf s k = placeOf s n) : sounders s z = [placeOf s n] := by
  have bound := h.1
  rw [sounders_first h first]
  refine firstsOnly_seen fun x hx => ?_
  obtain ⟨i, -, -, sounds, rfl⟩ := soundsIn_of_mem (by omega) hx
  simp [all i sounds]

/-- A zone whose enabled sounders share two places. -/
theorem sounders_two {n m : Nat} (h : soundsIn s z n) (first : ∀ k, k < n → ¬soundsIn s z k) (hm : soundsIn s z m)
    (apart : placeOf s m ≠ placeOf s n) (before : ∀ k, k < m → soundsIn s z k → placeOf s k = placeOf s n)
    (all : ∀ k, soundsIn s z k → placeOf s k = placeOf s n ∨ placeOf s k = placeOf s m) :
    sounders s z = [placeOf s n, placeOf s m] := by
  have boundN := h.1
  have boundM := hm.1
  have later : n < m := by
    rcases Nat.lt_trichotomy n m with lt | rfl | gt
    · exact lt
    · exact absurd rfl apart
    · exact absurd hm (first m gt)
  have split := soundingPlaces_split (a := n + 1) (n := m - n - 1) (k := 47 - m)
    (show soundsIn s z (n + 1 + (m - n - 1)) by rwa [show n + 1 + (m - n - 1) = m by omega])
  rw [show n + 1 + (m - n - 1) = m by omega, show m - n - 1 + 1 + (47 - m) = 47 - n by omega] at split
  have same : firstsOnly [placeOf s n] (soundingPlaces s z (n + 1) (m - n - 1)) = [placeOf s n] :=
    firstsOnly_seen fun x hx => by
      obtain ⟨i, -, upper, sounds, rfl⟩ := soundsIn_of_mem (by omega) hx
      simp [before i (by omega) sounds]
  have fresh : ¬[placeOf s n].contains (placeOf s m) = true := by simpa using apart
  rw [sounders_first h first, split, firstsOnly_append, same, firstsOnly, if_neg fresh]
  refine firstsOnly_seen fun x hx => ?_
  obtain ⟨i, -, -, sounds, rfl⟩ := soundsIn_of_mem (by omega) hx
  rcases all i sounds with eq | eq <;> simp [eq]

end

/-! ### BELL frames handed (R52, R152) -/

section

variable {s : State} {seg : Nat} {f : FieldFrame}

/-- A segment with nothing to do turns to a frame handed to it, and is else as before. -/
theorem segmentAt_handFrame_idle (idle : lineIdle s seg) (next : takeNext [f] = some (f, [])) :
    segmentAt (handFrame seg f s) seg = { segmentAt s seg with sending := some f } := by
  obtain ⟨sending, exchange, queue, outside⟩ := idle
  have takes : queueTakes (segmentAt s seg) f = true := by simp [queueTakes, queue, outside, Config.queueFrames]
  have joined : joinQueue (segmentAt s seg) f = { segmentAt s seg with queue := [f] } := by simp [joinQueue, queue]
  have empty : { segmentAt s seg with queue := [], sending := some f } =
      { segmentAt s seg with sending := some f } := by
    rw [← queue]
  have turned : segmentAt (handFrame seg f s) seg = { segmentAt s seg with queue := [], sending := some f } := by
    simp only [handFrame, takes, if_true, joined, segmentChoose, segmentAt_setSegmentAt, sending, exchange,
      Option.isSome_none, Bool.or_self, Bool.false_eq_true, if_false, chooseNext, next]
  exact turned.trans empty

/-- A segment that is sending, with nothing queued or waiting, queues a frame handed to it. -/
theorem segmentAt_handFrame_sending (sending : (segmentAt s seg).sending.isSome = true)
    (queue : (segmentAt s seg).queue = []) (outside : (segmentAt s seg).outside = []) :
    segmentAt (handFrame seg f s) seg = { segmentAt s seg with queue := [f] } := by
  have takes : queueTakes (segmentAt s seg) f = true := by simp [queueTakes, queue, outside, Config.queueFrames]
  have joined : joinQueue (segmentAt s seg) f = { segmentAt s seg with queue := [f] } := by simp [joinQueue, queue]
  simp only [handFrame, takes, if_true, joined, segmentChoose, segmentAt_setSegmentAt, sending, Bool.true_or]

theorem handFrame_stations (seg : Nat) (f : FieldFrame) (s : State) :
    (handFrame seg f s).line.stations = s.line.stations := by
  have chosen (t : State) : (segmentChoose seg t).line.stations = t.line.stations := by
    unfold segmentChoose; dsimp only; split <;> rfl
  unfold handFrame
  dsimp only
  split
  · exact chosen _
  · rfl

theorem handFrame_bell (seg : Nat) (f : FieldFrame) (s : State) : (handFrame seg f s).bell = s.bell :=
  congrArg (·.bell) (exceptLine_handFrame s seg f)

end

/-! ### A zone begun (R51 to R54) -/

/-- A job that rings a zone, with sounders still to be handed and so many handed, none of them reported. -/
def handing (j : BellJob) (z : Nat) (l : List (Nat × Byte)) (handed : Nat) : CurrentJob :=
  { job := j, zone := z, ringing := some { toHand := l, handed := handed, reported := 0, acked := 0 } }

/-- The next sounder's BELL frame handed. -/
def handNext (j : BellJob) (z : Nat) (l : List (Nat × Byte)) (handed : Nat) (p : Nat × Byte) (s : State) : State :=
  setCurrent (some (handing j z l (handed + 1))) (handFrame p.1 (bellFrame j p.2) s)

/-- A zone begun, none of its sounders handed. -/
def begun (j : BellJob) (z : Nat) (s : State) : State :=
  setCurrent (some (handing j z (sounders s z) 0)) (beginSounding z j.duration s)

section

variable {j : BellJob} {z : Nat} {s : State}

theorem ringZones_outside {l : List Nat} (h : ∀ y ∈ l, inZones j.zones y = false) (s : State) :
    ringZones j l s = s := by
  induction l with
  | nil => rfl
  | cons y ys ih =>
    rw [ringZones, ringZone, if_pos (h y (by simp))]
    exact ih fun x hx => h x (by simp [hx])

/-- A zone of the mask that the job does not pass over is begun. -/
theorem visitZone_begins (member : inZones j.zones z = true) (free : passesOver j s z = false) :
    visitZone (atZone j z) s = begun j z s := by
  cases held : !j.override && zoneSuppressed s z
  · simp [visitZone, atZone, member, held, begun, handing]
  · rw [passesOver, held] at free; exact absurd free Bool.noConfusion

/-- A job that finds an idle sequencer comes to the lowest zone of its mask and begins it. -/
theorem moves_begun (current : s.bell.current = none) (waiting : s.bell.waiting = []) (hz : z < 16)
    (member : inZones j.zones z = true) (lowest : ∀ y, y < z → inZones j.zones y = false)
    (free : passesOver j s z = false) : ∃ n ≤ 33, Moves n (joinJob j s) (begun j z s) := by
  have joined : joinJob j s = setCurrent (some (atZone j 0)) s := by simp only [joinJob, current, waiting]; rfl
  obtain ⟨n, hn, moved⟩ := moves_ringZones j z (z := 0) (s := setCurrent (some (atZone j 0)) s) rfl (by omega)
    fun y _ hy h => absurd (lowest y (by omega)) (by simp [h])
  rw [ringZones_outside fun y hy => lowest y (by have := (List.mem_range'_1.mp hy).2; omega), Nat.zero_add] at moved
  have inside : ¬16 ≤ z := by omega
  have visit : bellStep (setCurrent (some (atZone j z)) (setCurrent (some (atZone j 0)) s)) = some (begun j z s) := by
    show (if 16 ≤ z then _ else some (visitZone (atZone j z) (setCurrent (some (atZone j z)) s))) = _
    exact (if_neg inside).trans (congrArg some (visitZone_begins (s := setCurrent (some (atZone j z)) s) member free))
  exact ⟨n + 1, by omega, joined ▸ moved.trans (.one visit)⟩

theorem segmentAt_begun (g : Nat) : segmentAt (begun j z s) g = segmentAt s g := by unfold segmentAt; rfl

theorem begun_current : (begun j z s).bell.current = some (handing j z (sounders s z) 0) := rfl

theorem begun_stations : (begun j z s).line.stations = s.line.stations := rfl

theorem exceptBell_begun : exceptBell (begun j z s) = exceptBell s :=
  (exceptBell_setCurrent _ _).trans (exceptBell_beginSounding s z j.duration)

theorem lineIdle_begun {seg : Nat} (idle : lineIdle s seg) : lineIdle (begun j z s) seg := by
  rwa [lineIdle, segmentAt_begun]

/-- A sounder is handed to a segment with a place in its queue and nothing outside it. -/
theorem moves_handNext {p : Nat × Byte} {l : List (Nat × Byte)} {handed : Nat}
    (current : s.bell.current = some (handing j z (p :: l) handed)) (queue : (segmentAt s p.1).queue.length < 16)
    (outside : (segmentAt s p.1).outside = []) : Moves 1 s (handNext j z l handed p s) := by
  have inside : bellOutside s p.1 = false := by simp [bellOutside, outside]
  have takes : queueTakes (segmentAt s p.1) (bellFrame j p.2) = true := by
    simp [queueTakes, outside, Config.queueFrames, queue]
  refine .one ?_
  simp only [bellStep, current, handing, inside, takes, if_true, Bool.false_eq_true, if_false]
  rfl

/-- With every sounder handed and none reported, the sequencer waits (R53). -/
theorem handing_waits {handed : Nat} (current : s.bell.current = some (handing j z [] handed)) (some_ : 0 < handed) :
    bellStep s = none := by
  simp only [bellStep, current, handing]
  rw [if_neg (by omega)]

theorem handNext_bell (l : List (Nat × Byte)) (handed : Nat) (p : Nat × Byte) (s : State) :
    (handNext j z l handed p s).bell = { s.bell with current := some (handing j z l (handed + 1)) } := by
  rw [handNext, setCurrent, modBell_bell, handFrame_bell]

theorem bellFrame_next (j : BellJob) (a : Byte) : takeNext [bellFrame j a] = some (bellFrame j a, []) := rfl

theorem segmentAt_handNext (l : List (Nat × Byte)) (handed : Nat) (p : Nat × Byte) (s : State) (g : Nat) :
    segmentAt (handNext j z l handed p s) g = segmentAt (handFrame p.1 (bellFrame j p.2) s) g := rfl

theorem handNext_stations (l : List (Nat × Byte)) (handed : Nat) (p : Nat × Byte) (s : State) :
    (handNext j z l handed p s).line.stations = s.line.stations := handFrame_stations _ _ _

theorem exceptBell_handNext (l : List (Nat × Byte)) (handed : Nat) (p : Nat × Byte) (s : State) :
    exceptBell (handNext j z l handed p s) = exceptBell s := exceptBell_handFrame s _ _

theorem segmentAt_handNext_other {p : Nat × Byte} {g : Nat} (h : g ≠ p.1) (l : List (Nat × Byte)) (handed : Nat) :
    segmentAt (handNext j z l handed p s) g = segmentAt s g := by rw [segmentAt_handNext, handFrame_other h]

theorem handNext_sends {p : Nat × Byte} {l : List (Nat × Byte)} {handed : Nat} (idle : lineIdle s p.1) :
    nowSends (handNext j z l handed p s) p.1 (bellFrame j p.2) := by
  have sends := handFrame_idle idle (bellFrame_next j p.2)
  rwa [nowSends, segmentAt_handNext]

/-- A zone begun with every sounder handed, its soundings and its records. -/
theorem zoneBegun_of_bell {t : State} {handed : Nat} (waiting : s.bell.waiting = [])
    (h : t.bell = { (begun j z s).bell with current := some (handing j z [] handed) }) : zoneBegun j z handed s t := by
  have sounding (y : Nat) : soundingAt t y = if y = z then max (soundingAt s z) j.duration else soundingAt s y := by
    rw [← soundingAt_beginSounding, soundingAt, h]; rfl
  refine ⟨by rw [h]; rfl, by rw [h]; exact waiting, by rw [h]; rfl, by rw [h]; rfl, ?_, fun y hy => ?_⟩
  · rw [sounding, if_pos rfl]
  · rw [sounding, if_neg hy]

/-- What beginning a zone and handing its frames leave. -/
structure Begins (j : BellJob) (z handed : Nat) (s t : State) : Prop where
  begun : zoneBegun j z handed s t
  stations : t.line.stations = s.line.stations
  rest : exceptBell t = exceptBell s

variable (current : s.bell.current = none) (waiting : s.bell.waiting = []) (hz : z < 16)
  (member : inZones j.zones z = true) (lowest : ∀ y, y < z → inZones j.zones y = false)
  (free : passesOver j s z = false)

include current waiting hz member lowest free

/-- A zone with sounders at one place, on an idle segment, is begun and waits for one report. -/
theorem takeJob_begins_one {p : Nat × Byte} (one : sounders s z = [p]) (idle : lineIdle s p.1) :
    Begins j z 1 s (takeJob j s) ∧ nowSends (takeJob j s) p.1 (bellFrame j p.2)
      ∧ ∀ g, g ≠ p.1 → segmentAt (takeJob j s) g = segmentAt s g := by
  obtain ⟨n, hn, moved⟩ := moves_begun current waiting hz member lowest free
  have handed := moves_handNext (s := begun j z s) (l := []) (by rw [begun_current, one])
    (by rw [segmentAt_begun, idle.2.2.1]; exact Nat.zero_lt_succ _) (by rw [segmentAt_begun, idle.2.2.2])
  have bell := handNext_bell (j := j) (z := z) [] 0 p (begun j z s)
  have run : takeJob j s = handNext j z [] 0 p (begun j z s) :=
    (moved.trans handed).run (by omega) (handing_waits (by rw [bell]) Nat.one_pos)
  rw [run]
  refine ⟨⟨zoneBegun_of_bell waiting bell, ?_, ?_⟩, handNext_sends (lineIdle_begun idle), fun g hg => ?_⟩
  · rw [handNext_stations, begun_stations]
  · rw [exceptBell_handNext, exceptBell_begun]
  · rw [segmentAt_handNext_other hg, segmentAt_begun]

/-- A zone with sounders at two places, on idle segments, is begun and waits for two reports; on one segment the second
frame waits in the queue. -/
theorem takeJob_begins_two {p q : Nat × Byte} (two : sounders s z = [p, q]) (idleP : lineIdle s p.1)
    (idleQ : lineIdle s q.1) :
    Begins j z 2 s (takeJob j s)
      ∧ (q.1 ≠ p.1 → nowSends (takeJob j s) p.1 (bellFrame j p.2) ∧ nowSends (takeJob j s) q.1 (bellFrame j q.2))
      ∧ (q.1 = p.1 → segmentAt (takeJob j s) p.1 = { segmentAt s p.1 with
          sending := some (bellFrame j p.2), queue := [bellFrame j q.2] })
      ∧ ∀ g, g ≠ p.1 → g ≠ q.1 → segmentAt (takeJob j s) g = segmentAt s g := by
  obtain ⟨n, hn, moved⟩ := moves_begun current waiting hz member lowest free
  have firstHand := moves_handNext (s := begun j z s) (l := [q]) (by rw [begun_current, two])
    (by rw [segmentAt_begun, idleP.2.2.1]; exact Nat.zero_lt_succ _) (by rw [segmentAt_begun, idleP.2.2.2])
  generalize hu : handNext j z [q] 0 p (begun j z s) = u at firstHand
  have bellU : u.bell = { (begun j z s).bell with current := some (handing j z [q] 1) } := hu ▸ handNext_bell ..
  have atP : segmentAt u p.1 = { segmentAt s p.1 with sending := some (bellFrame j p.2) } :=
    by rw [← hu, segmentAt_handNext, segmentAt_handFrame_idle (lineIdle_begun idleP) (bellFrame_next j p.2),
      segmentAt_begun]
  have others (g : Nat) (hg : g ≠ p.1) : segmentAt u g = segmentAt s g := by
    rw [← hu, segmentAt_handNext_other hg, segmentAt_begun]
  have atQ : (segmentAt u q.1).queue = [] ∧ (segmentAt u q.1).outside = [] := by
    by_cases same : q.1 = p.1
    · rw [same, atP]; exact idleP.2.2
    · rw [others _ same]; exact idleQ.2.2
  have secondHand := moves_handNext (s := u) (j := j) (z := z) (l := []) (handed := 1) (p := q) (by rw [bellU])
    (by rw [atQ.1]; exact Nat.zero_lt_succ _) atQ.2
  have bell := handNext_bell (j := j) (z := z) [] 1 q u
  have run : takeJob j s = handNext j z [] 1 q u :=
    ((moved.trans firstHand).trans secondHand).run (by omega) (handing_waits (by rw [bell]) Nat.two_pos)
  rw [run]
  refine ⟨⟨zoneBegun_of_bell waiting (by rw [bell, bellU]), ?_, ?_⟩, fun apart => ?_, fun same => ?_, fun g hp hq => ?_⟩
  · rw [handNext_stations, ← hu, handNext_stations, begun_stations]
  · rw [exceptBell_handNext, ← hu, exceptBell_handNext, exceptBell_begun]
  · refine ⟨?_, handNext_sends (s := u) ?_⟩
    · rw [nowSends, segmentAt_handNext_other (Ne.symm apart), atP]
      exact ⟨rfl, idleP.2⟩
    · rw [lineIdle, others _ apart]; exact idleQ
  · have queued := segmentAt_handFrame_sending (s := u) (seg := q.1) (f := bellFrame j q.2) (by rw [same, atP]; rfl)
      atQ.1 atQ.2
    rw [same, atP] at queued
    rw [segmentAt_handNext, same]
    exact queued
  · rw [segmentAt_handNext_other hq, others g hp]

end

end Sys2Proof.Machine
end

section
/-! PROOFS. RING (R50 to R55): the request carried out by its job, the job that finds a full list, and the reply. -/

namespace Sys2Proof.Machine

open Sys2Proof

/-! ### The job that finds a full list (R50) -/

/-- The oldest waiting job discarded, with its alert. -/
def oldestDropped (w : BellJob) (ws : List BellJob) (s : State) : State :=
  alert (.bellDropped w.zones w.tone w.origin) (s.modBell fun u => { u with waiting := ws })

section

variable {w : BellJob} {ws : List BellJob} {s : State}

theorem oldestDropped_bell : (oldestDropped w ws s).bell = { s.bell with waiting := ws } :=
  congrArg (·.bell) (exceptReports_alert (s.modBell fun u => { u with waiting := ws }) _)

theorem oldestDropped_segments : (oldestDropped w ws s).line.segments = s.line.segments :=
  congrArg (·.line.segments) (exceptReports_alert (s.modBell fun u => { u with waiting := ws }) _)

/-- With four jobs waiting behind a job that waits, the new job takes the place of the oldest. -/
theorem takeJob_full (busy : s.bell.current.isSome = true) (waits : bellWaits s) (full : s.bell.waiting = w :: ws)
    (four : ws.length = 3) (j : BellJob) : takeJob j s = withJobs [j] (oldestDropped w ws s) := by
  obtain ⟨c, current⟩ := Option.isSome_iff_exists.mp busy
  have noRoom : ¬(w :: ws).length < Config.bellJobs := by simp [four, Config.bellJobs]
  have joined : joinJob j s = withJobs [j] (oldestDropped w ws s) := by
    simp only [joinJob, current, full, noRoom, if_false]
    rfl
  have stands : (withJobs [j] (oldestDropped w ws s)).bell.current = s.bell.current :=
    congrArg (·.current) (oldestDropped_bell (w := w) (ws := ws))
  rw [takeJob, joined]
  refine bellRun_waits (bellStep_none_of_segments waits stands (fun idle => ?_) oldestDropped_segments)
  rw [current] at idle
  cases idle

end

/-! ### The request (R55) -/

/-- The bell status is taken of the Bell Sequencer alone. -/
theorem bellStatus_of_bell {s t : State} (h : t.bell = s.bell) : bellStatus t = bellStatus s := by
  have at_ (f : BellUnit → BellStatus) (hf : ∀ u, bellStatus u = f u.bell) : bellStatus t = bellStatus s := by
    rw [hf, hf, h]
  exact at_ (fun b => bellStatus { State.reset with bell := b }) fun _ => rfl

/-- The bell job of a RING. -/
def ringJob (zones : ZoneMask) (tone duration : Nat) (override : Bool) : BellJob :=
  { zones := zones, tone := tone, duration := duration, override := override, origin := .office }

section

variable {zones : ZoneMask} {tone duration : Nat} {override : Bool} {s : State}

theorem reqRing_bad (bad : ¬(1 ≤ tone ∧ tone ≤ 7 ∧ 1 ≤ duration ∧ duration ≤ 30)) :
    reqRing zones tone duration override s = refuse .badArg s := by
  have judged : (tone = 0 || 7 < tone || duration = 0 || 30 < duration) = true := by
    simp only [Bool.or_eq_true, decide_eq_true_eq]; omega
  rw [reqRing, if_pos judged]

theorem reqRing_good (good : 1 ≤ tone ∧ tone ≤ 7 ∧ 1 ≤ duration ∧ duration ≤ 30) :
    reqRing zones tone duration override s = if zones = 0 then served (.bellStatus (bellStatus s)) s
      else served (.ring (bellStatus (takeJob (ringJob zones tone duration override) s)) s.bell.current.isNone
        (jobDiscards s)) (takeJob (ringJob zones tone duration override) s) := by
  have judged : ¬(tone = 0 || 7 < tone || duration = 0 || 30 < duration) = true := by
    simp only [Bool.or_eq_true, decide_eq_true_eq]; omega
  rw [reqRing, if_neg judged]
  rfl

/-- What a RING that offers no report of its own leaves in the other blocks. -/
structure RingLeaves (s t : State) : Prop where
  roll : t.roll = s.roll
  sched : t.sched = s.sched
  gate : t.gate = s.gate
  reg : t.reg = s.reg
  msg : t.msg = s.msg
  control : sameControl s t

/-- The reply leaves what a job does, and a job leaves the other blocks. -/
theorem ringLeaves {j : BellJob} {t : State} (left : exceptReply t = exceptReply (takeJob j (working s))) :
    RingLeaves s t := by
  have rest := exceptBell_takeJob (working s) j
  have control : sameControl (working s) (takeJob j (working s)) := sameControl_of_quiet (congrArg (·.office) rest)
  exact {
    roll := (roll_of_exceptReply left).trans (congrArg (·.roll) rest)
    sched := (sched_of_exceptReply left).trans (congrArg (·.sched) rest)
    gate := (gate_of_exceptReply left).trans (congrArg (·.gate) rest)
    reg := (reg_of_exceptReply left).trans (congrArg (·.reg) rest)
    msg := (msg_of_exceptReply left).trans (congrArg (·.msg) rest)
    control := sameControl_trans (sameControl_working s) (sameControl_trans control (sameControl_of_exceptReply left)) }

/-- A RING of some zones is answered with the bell status after its job has been taken. -/
theorem exec_ring (h : UpHeader) (take : takesRequests s) (good : 1 ≤ tone ∧ tone ≤ 7 ∧ 1 ≤ duration ∧ duration ≤ 30)
    (some_ : zones ≠ 0) : ∃ t, exec (.ring h zones tone duration override) s = .next t
      ∧ answered h (.ring zones tone duration override) .ok
          (.ring (bellStatus t) s.bell.current.isNone (jobDiscards s)) t
      ∧ exceptReply t = exceptReply (takeJob (ringJob zones tone duration override) (working s))
      ∧ RingLeaves s t := by
  have judged := reqRing_good (zones := zones) (override := override) (s := working s) good
  rw [if_neg some_] at judged
  obtain ⟨t, done, reply, left⟩ := exec_carried (h := h) (r := .ring zones tone duration override) take rfl judged
  rw [← bellStatus_of_bell (bell_of_exceptReply left)] at reply
  exact ⟨t, done, reply, left, ringLeaves left⟩

theorem jobDiscards_idle (current : s.bell.current = none) : jobDiscards s = false := by simp [jobDiscards, current]

/-- A segment in the state a job leaves is as in the state that also holds the reply. -/
theorem segmentAt_replied {t u : State} (left : exceptReply t = exceptReply u) (g : Nat) :
    segmentAt t g = segmentAt u g := by rw [segmentAt, segments_of_exceptReply left]; rfl

theorem nowSends_replied {t u : State} {seg : Nat} {f : FieldFrame} (left : exceptReply t = exceptReply u)
    (sends : nowSends u seg f) : nowSends t seg f := by rwa [nowSends, segmentAt_replied left]

/-- What beginning a zone leaves, with the reply. -/
theorem Begins.replied {j : BellJob} {z handed : Nat} {t : State}
    (begins : Begins j z handed (working s) (takeJob j (working s)))
    (left : exceptReply t = exceptReply (takeJob j (working s))) :
    zoneBegun j z handed s t ∧ t.line.stations = s.line.stations := by
  have bell := bell_of_exceptReply left
  have sounding (y : Nat) : soundingAt t y = soundingAt (takeJob j (working s)) y := by
    rw [soundingAt, bell]; rfl
  refine ⟨?_, (congrArg (·.line.stations) left).trans begins.stations⟩
  rw [zoneBegun, bell]
  simp only [sounding]
  exact begins.begun

end

section

variable {h : UpHeader} {zones : ZoneMask} {tone duration : Nat} {override : Bool} {s : State} (take : takesRequests s)
  (good : 1 ≤ tone ∧ tone ≤ 7 ∧ 1 ≤ duration ∧ duration ≤ 30)

include take good

/-- A RING behind a job that waits, with room: the job joins the list (R50). -/
theorem exec_ring_joins (some_ : zones ≠ 0) (ring : RingWaits s) : exec (.ring h zones tone duration override) s =
    .next (withReply h (.ring zones tone duration override) .ok
      (.ring (bellStatus (withJobs [ringJob zones tone duration override] s)) false false)
      (withJobs [ringJob zones tone duration override] s)) := by
  have judged := reqRing_good (zones := zones) (override := override) (s := working s) good
  have waits : RingWaits (working s) := ring.of_same rfl rfl
  have some' : (working s).bell.current.isNone = false := by simpa [working] using ring.busy
  have keeps : jobDiscards (working s) = false := by
    have room := ring.room
    have free : ¬Config.bellJobs ≤ (working s).bell.waiting.length := by
      show ¬4 ≤ s.bell.waiting.length
      omega
    simp [jobDiscards, free]
  rw [if_neg some_, takeJob_waits waits, some', keeps] at judged
  exact exec_quiet (h := h) (r := .ring zones tone duration override) take rfl judged rfl

/-- A RING that finds four waiting jobs takes the place of the oldest, which is discarded with an alert (R50). -/
theorem exec_ring_full {w : BellJob} {ws : List BellJob} (some_ : zones ≠ 0) (busy : s.bell.current.isSome = true)
    (waits : bellWaits s) (full : s.bell.waiting = w :: ws) (four : ws.length = 3) :
    ∃ t, exec (.ring h zones tone duration override) s = .next t
      ∧ answered h (.ring zones tone duration override) .ok (.ring (bellStatus t) false true) t
      ∧ t.bell = { s.bell with waiting := ws ++ [ringJob zones tone duration override] }
      ∧ t.office.reportNumber = (s.office.reportNumber + 1) % 65536 ∧ RingLeaves s t := by
  obtain ⟨t, done, reply, left, leaves⟩ := exec_ring (override := override) h take good some_
  have taken := takeJob_full (s := working s) busy (bellStep_none_of_segments waits rfl (fun _ => rfl) rfl) full four
    (ringJob zones tone duration override)
  have notIdle : s.bell.current.isNone = false := by simpa using busy
  have discards : jobDiscards s = true := by simp [jobDiscards, busy, full, four, Config.bellJobs]
  rw [notIdle, discards] at reply
  rw [taken] at left
  refine ⟨t, done, reply, ?_, ?_, leaves⟩
  · rw [bell_of_exceptReply left, withJobs, modBell_bell, oldestDropped_bell]; rfl
  · rw [reportNumber_of_exceptReply left]; exact offerReport_reportNumber _ _

/-- A RING with nothing before it and nothing to wait for rings its zones within the step (R51 to R54). -/
theorem exec_ring_atOnce (some_ : zones ≠ 0) (atOnce : ringsAtOnce (ringJob zones tone duration override) s) :
    ∃ t, exec (.ring h zones tone duration override) s = .next t
      ∧ answered h (.ring zones tone duration override) .ok (.ring (bellStatus t) true false) t
      ∧ rungAtOnce (ringJob zones tone duration override) s t ∧ t.bell.inputs = s.bell.inputs ∧ RingLeaves s t := by
  obtain ⟨t, done, reply, left, leaves⟩ := exec_ring (override := override) h take good some_
  have atOnce' : ringsAtOnce (ringJob zones tone duration override) (working s) := atOnce
  have current := atOnce.1
  rw [current, jobDiscards_idle current] at reply
  rw [takeJob_ringsAtOnce atOnce'] at left
  have bell := bell_of_exceptReply left
  have rung := rungState_rungAtOnce (s := working s) (j := ringJob zones tone duration override) atOnce.2.1
  have sounding (y : Nat) :
      soundingAt t y = soundingAt (rungState (ringJob zones tone duration override) (working s)) y := by
    rw [soundingAt, bell]; rfl
  have record (y : Nat) : zoneAt t y = zoneAt (rungState (ringJob zones tone duration override) (working s)) y := by
    rw [zoneAt, bell]; rfl
  refine ⟨t, done, reply, ?_, ?_, leaves⟩
  · rw [rungAtOnce, bell]
    simp only [sounding, record]
    exact rung
  · rw [bell, inputs_of_ringing (exceptRinging_rungState _ (working s))]
    rfl

end

/-! ### A zone with sounders begun by a RING (R52, R53) -/

/-- What a RING that begins a zone leaves, as many frames handed as given. -/
def RingBegins (h : UpHeader) (zones : ZoneMask) (tone duration : Nat) (override : Bool) (z handed : Nat)
    (s t : State) : Prop :=
  exec (.ring h zones tone duration override) s = .next t
    ∧ answered h (.ring zones tone duration override) .ok (.ring (bellStatus t) true false) t
    ∧ zoneBegun (ringJob zones tone duration override) z handed s t
    ∧ t.line.stations = s.line.stations ∧ t.roll = s.roll ∧ t.sched = s.sched ∧ t.gate = s.gate
    ∧ t.reg = s.reg ∧ t.msg = s.msg ∧ sameControl s t

section

variable {h : UpHeader} {zones : ZoneMask} {tone duration : Nat} {override : Bool} {s : State} {z : Nat}
  (take : takesRequests s) (good : 1 ≤ tone ∧ tone ≤ 7 ∧ 1 ≤ duration ∧ duration ≤ 30)
  (current : s.bell.current = none) (waiting : s.bell.waiting = []) (hz : z < 16) (member : inZones zones z = true)
  (lowest : ∀ y, y < z → inZones zones y = false) (free : override = true ∨ zoneSuppressed s z = false)

include member in
theorem zones_ne_zero : zones ≠ 0 := by
  rintro rfl
  simp [inZones] at member

include free in
theorem passesOver_free : passesOver (ringJob zones tone duration override) (working s) z = false := by
  rcases free with overrides | held
  · simp [passesOver, ringJob, overrides]
  · have same : zoneSuppressed (working s) z = zoneSuppressed s z := rfl
    simp [passesOver, same, held]

include take good current member in
/-- A RING that begins a zone is answered, and leaves what its job leaves. -/
theorem ringBegins (handed : Nat)
    (begins : Begins (ringJob zones tone duration override) z handed (working s)
      (takeJob (ringJob zones tone duration override) (working s))) :
    ∃ t, RingBegins h zones tone duration override z handed s t
      ∧ exceptReply t = exceptReply (takeJob (ringJob zones tone duration override) (working s)) := by
  obtain ⟨t, done, reply, left, leaves⟩ := exec_ring h take good (zones_ne_zero member)
  rw [current, jobDiscards_idle current] at reply
  obtain ⟨begun, stations⟩ := begins.replied left
  exact ⟨t, ⟨done, reply, begun, stations, leaves.roll, leaves.sched, leaves.gate, leaves.reg, leaves.msg,
    leaves.control⟩, left⟩

include take good current waiting hz member lowest free

/-- A zone whose sounders share one address. -/
theorem exec_ring_one {n : Nat} (sounds : soundsIn s z n) (first : ∀ k, k < n → ¬soundsIn s z k)
    (all : ∀ k, soundsIn s z k → placeOf s k = placeOf s n) (idle : lineIdle s (stationAt s n).segment) :
    ∃ t, RingBegins h zones tone duration override z 1 s t
      ∧ nowSends t (stationAt s n).segment ⟨(stationAt s n).address, .bell tone duration 1⟩
      ∧ ∀ g, g ≠ (stationAt s n).segment → segmentAt t g = segmentAt s g := by
  have one : sounders (working s) z = [placeOf s n] := sounders_one sounds first all
  obtain ⟨begins, sends, others⟩ := takeJob_begins_one (j := ringJob zones tone duration override) (s := working s)
    current waiting hz member lowest (passesOver_free free) one idle
  obtain ⟨t, ring, left⟩ := ringBegins (h := h) take good current member 1 begins
  exact ⟨t, ring, nowSends_replied left sends, fun g hg => (segmentAt_replied left g).trans (others g hg)⟩

/-- A zone whose sounders share two addresses. -/
theorem exec_ring_two {n m : Nat} (sounds : soundsIn s z n) (first : ∀ k, k < n → ¬soundsIn s z k)
    (idleN : lineIdle s (stationAt s n).segment) (second : soundsIn s z m) (apart : placeOf s m ≠ placeOf s n)
    (idleM : lineIdle s (stationAt s m).segment) (before : ∀ k, k < m → soundsIn s z k → placeOf s k = placeOf s n)
    (all : ∀ k, soundsIn s z k → placeOf s k = placeOf s n ∨ placeOf s k = placeOf s m) :
    ∃ t, RingBegins h zones tone duration override z 2 s t
      ∧ ((stationAt s m).segment ≠ (stationAt s n).segment →
          nowSends t (stationAt s n).segment ⟨(stationAt s n).address, .bell tone duration 1⟩
          ∧ nowSends t (stationAt s m).segment ⟨(stationAt s m).address, .bell tone duration 1⟩)
      ∧ ((stationAt s m).segment = (stationAt s n).segment →
          segmentAt t (stationAt s n).segment = { segmentAt s (stationAt s n).segment with
            sending := some ⟨(stationAt s n).address, .bell tone duration 1⟩
            queue := [⟨(stationAt s m).address, .bell tone duration 1⟩] })
      ∧ ∀ g, g ≠ (stationAt s n).segment → g ≠ (stationAt s m).segment → segmentAt t g = segmentAt s g := by
  have two : sounders (working s) z = [placeOf s n, placeOf s m] := sounders_two sounds first second apart before all
  obtain ⟨begins, apartSends, sameSends, others⟩ := takeJob_begins_two (j := ringJob zones tone duration override)
    (s := working s) current waiting hz member lowest (passesOver_free free) two idleN idleM
  obtain ⟨t, ring, left⟩ := ringBegins (h := h) take good current member 2 begins
  refine ⟨t, ring, fun distinct => ?_, fun same => ?_, fun g hn hm => ?_⟩
  · obtain ⟨sendsN, sendsM⟩ := apartSends distinct
    exact ⟨nowSends_replied left sendsN, nowSends_replied left sendsM⟩
  · exact (segmentAt_replied left _).trans (sameSends same)
  · exact (segmentAt_replied left g).trans (others g hn hm)

end

/-- Settles O33: RING by the values it is given, and by the sequencer it finds. -/
theorem ringRings : Obligations.RingRings := by
  intro h zones tone duration override s take
  refine ⟨fun bad => ?_, fun toneLow toneHigh durationLow durationHigh => ?_⟩
  · exact exec_refused (r := .ring zones tone duration override) take rfl (reqRing_bad bad)
  have good : 1 ≤ tone ∧ tone ≤ 7 ∧ 1 ≤ duration ∧ duration ≤ 30 := ⟨toneLow, toneHigh, durationLow, durationHigh⟩
  refine ⟨fun none_ => ?_, fun some_ busy waits room => ?_, fun old rest some_ busy waits full three => ?_,
    fun z n current waiting hz member lowest free sounds first idle => ?_, fun some_ atOnce => ?_⟩
  · have judged := reqRing_good (zones := zones) (override := override) (s := working s) good
    rw [if_pos none_] at judged
    exact exec_read (r := .ring zones tone duration override) take rfl judged
  · exact ⟨_, exec_ring_joins take good some_ ⟨waits, busy, room⟩, rfl⟩
  · obtain ⟨t, done, reply, bell, reports, leaves⟩ := exec_ring_full take good some_ busy waits full three
    exact ⟨t, done, reply, bell, reports, leaves.roll, leaves.sched, leaves.gate, leaves.reg, leaves.msg,
      leaves.control⟩
  · exact ⟨fun all => exec_ring_one take good current waiting hz member lowest free sounds first all idle,
      fun m second apart idleM before all =>
        exec_ring_two take good current waiting hz member lowest free sounds first idle second apart idleM before all⟩
  · obtain ⟨t, done, reply, rung, inputs, leaves⟩ := exec_ring_atOnce take good some_ atOnce
    exact ⟨t, done, reply, rung, inputs, leaves.roll, leaves.sched, leaves.gate, leaves.reg, leaves.msg,
      leaves.control⟩

end Sys2Proof.Machine
end

section
/-! PROOFS. BELL exchanges (R52 to R54, R149, R154): what the credit of an exchange and its end leave, the report of an
exchange to the sequencer, and the last report of a job. -/

namespace Sys2Proof.Machine

open Sys2Proof

/-! ### Reports behind those that wait (R162) -/

/-- While the uplink sends, the reports that waited wait on, and new ones come behind them. -/
def ReportsFollow (s t : State) : Prop :=
  s.line.upSending.isSome = true → t.line.upSending.isSome = true ∧ ∃ rest, t.office.reports = s.office.reports ++ rest

section

variable {s t u : State}

theorem ReportsFollow.of_same (line : t.line.upSending = s.line.upSending)
    (reports : t.office.reports = s.office.reports) : ReportsFollow s t := fun busy => by
  rw [line, reports]
  exact ⟨busy, [], by simp⟩

theorem ReportsFollow.trans (h : ReportsFollow s t) (k : ReportsFollow t u) : ReportsFollow s u := fun busy => by
  obtain ⟨busyT, a, ha⟩ := h busy
  obtain ⟨busyU, b, hb⟩ := k busyT
  exact ⟨busyU, a ++ b, by rw [hb, ha, List.append_assoc]⟩

theorem reportsFollow_alert (a : Alert) (s : State) : ReportsFollow s (alert a s) := fun busy => by
  by_cases room : s.office.reports.length < 64
  · rw [alert, offerReport_queued _ busy room]
    exact ⟨busy, _, rfl⟩
  · have full : reportRoom s = false := decide_eq_false room
    rw [alert, offerReport]
    simp only [full, Bool.false_eq_true, if_false]
    exact ⟨busy, [], by simp⟩

end

/-! ### The credit of an exchange (R154, R155) -/

/-- An alert that may be made. -/
def withAlert : Option Alert → State → State
  | none, s => s
  | some a, s => alert a s

/-- The alert of a station whose presence changes (Table 5 of Chapter 8). -/
def presenceAlert (n : Nat) (e e' : Station) (a : Byte) : Option Alert :=
  match e.presence, e'.presence with
  | .present, .absent => some (.stationAbsent n e.segment a e.kind e.unit)
  | .absent, .present => some (.stationBack n e.segment a e.kind e.unit)
  | .present, .present => none
  | .absent, .absent => none

/-- How many alerts a station's exchange makes, answered or not. -/
def presenceAlerts (e : Station) (reply : Bool) : Nat := if reply then backAlerts e else lostAlerts e

theorem presenceAlert_isSome (n : Nat) (e : Station) (a : Byte) (reply : Bool) :
    presenceAlerts e reply = if (presenceAlert n e (presenceAfter e reply) a).isSome then 1 else 0 := by
  cases reply with
  | true => cases hp : e.presence <;> simp [presenceAlerts, presenceAlert, presenceAfter, backAlerts, hp]
  | false =>
    cases hp : e.presence with
    | absent => simp [presenceAlerts, presenceAlert, presenceAfter, lostAlerts, hp]
    | present => by_cases third : 2 ≤ e.misses <;> simp [presenceAlerts, presenceAlert, presenceAfter, lostAlerts, hp,
      third]

/-- What the credit of an exchange to station table entry `n` leaves. -/
structure Credits (n : Nat) (reply : Bool) (s t : State) : Prop where
  station : stationAt t n = presenceAfter (stationAt s n) reply
  segments : t.line.segments = s.line.segments
  rest : exceptLine t = exceptLine s
  made : reportsMade (presenceAlerts (stationAt s n) reply) s t
  follow : ReportsFollow s t

section

variable {s : State} {seg n : Nat} {a : Byte}

theorem creditExchange_eq (found : classify s seg a = some n) (reply : Bool) : creditExchange seg a reply s =
    withAlert (presenceAlert n (stationAt s n) (presenceAfter (stationAt s n) reply) a)
      (setStationAt n (presenceAfter (stationAt s n) reply) s) := by
  simp only [creditExchange, found, presenceAlert]
  cases (stationAt s n).presence <;> cases (presenceAfter (stationAt s n) reply).presence <;> rfl

theorem creditExchange_credits (found : classify s seg a = some n) (reply : Bool) :
    Credits n reply s (creditExchange seg a reply s) := by
  rw [creditExchange_eq found]
  have count := presenceAlert_isSome n (stationAt s n) a reply
  generalize presenceAlert n (stationAt s n) (presenceAfter (stationAt s n) reply) a = made at count
  have station : stationAt (setStationAt n (presenceAfter (stationAt s n) reply) s) n =
      presenceAfter (stationAt s n) reply := by
    rw [stationAt_setStationAt, if_pos rfl]
  have same : ReportsFollow s (setStationAt n (presenceAfter (stationAt s n) reply) s) := .of_same rfl rfl
  cases made with
  | none => exact ⟨station, rfl, rfl, count ▸ rfl, same⟩
  | some x =>
    refine ⟨?_, ?_, exceptLine_alert _ x, count ▸ reportsMade_alert x _, same.trans (reportsFollow_alert x _)⟩
    · rw [withAlert, alert, stationAt, offerReport_stations]; exact station
    · rw [withAlert, alert, offerReport_segments]; rfl

end

/-! ### The end of an exchange (R154) -/

section

variable (skipped : Byte → Bool) (g : Segment) (s : State) (seg : Nat)

theorem considerPolls_exchange (fuel : Nat) : (considerPolls skipped fuel g).exchange = g.exchange := by
  have advance (g : Segment) : (advancePoll g).exchange = g.exchange := by unfold advancePoll; split <;> rfl
  induction fuel generalizing g with
  | zero => rfl
  | succ k ih =>
    unfold considerPolls
    split
    · rfl
    · split
      · rw [ih, advance]
      · exact advance g

theorem chooseNext_exchange : (chooseNext skipped g).exchange = g.exchange := by
  unfold chooseNext
  split
  · rfl
  · exact considerPolls_exchange skipped g _

theorem segmentChoose_exchange : (segmentAt (segmentChoose seg s) seg).exchange = (segmentAt s seg).exchange := by
  unfold segmentChoose
  dsimp only
  split
  · rfl
  · rw [segmentAt_setSegmentAt, if_pos rfl, chooseNext_exchange]

theorem closeExchange_exchange : (segmentAt (closeExchange seg s) seg).exchange = none := by
  rw [closeExchange, segmentChoose_exchange, segmentAt_setSegmentAt, if_pos rfl]

/-- The end of an exchange writes its segment alone. -/
theorem closeExchange_rest : { closeExchange seg s with
    line := { (closeExchange seg s).line with segments := s.line.segments } } = s := by
  have chosen (t : State) : { segmentChoose seg t with
      line := { (segmentChoose seg t).line with segments := s.line.segments } }
        = { t with line := { t.line with segments := s.line.segments } } := by
    unfold segmentChoose; dsimp only; split <;> rfl
  exact chosen _

theorem closeExchange_bell : (closeExchange seg s).bell = s.bell := congrArg (·.bell) (closeExchange_rest s seg)

theorem closeExchange_office : (closeExchange seg s).office = s.office := congrArg (·.office) (closeExchange_rest s seg)

theorem stationAt_closeExchange (n : Nat) : stationAt (closeExchange seg s) n = stationAt s n := by
  have stations : (closeExchange seg s).line.stations = s.line.stations :=
    congrArg (·.line.stations) (closeExchange_rest s seg)
  rw [stationAt, stations]
  rfl

end

/-! ### The report of a BELL exchange to the sequencer (R52, R53) -/

/-- A job with so many more frames of its zone reported, and acknowledged. -/
def countReports (c : CurrentJob) (r : ZoneRing) (m acked : Nat) : CurrentJob :=
  { c with ringing := some { r with reported := r.reported + m, acked := r.acked + acked } }

/-- The BELL_UNCONFIRMED alert of a job's zone (R52). -/
def unconfirmedAlert (s : State) (c : CurrentJob) (seg : Nat) (a : Byte) : Alert :=
  .bellUnconfirmed c.zone seg a c.job.origin s.sched.second

section

variable {s : State} {seg m : Nat} {a : Byte} {c : CurrentJob} {r : ZoneRing}

/-- With a zone's frames handed and not all reported, the sequencer waits (R53). -/
theorem countReports_waits {acked : Nat} (current : s.bell.current = some (countReports c r m acked))
    (handed : r.toHand = []) (more : r.reported + m < r.handed) : bellStep s = none := by
  simp only [bellStep, current, countReports, handed]
  rw [if_neg (by omega)]

/-- With every frame of a zone reported, the zone's record is written and the cursor moves on (R53). -/
theorem bellStep_reported (current : s.bell.current = some c) (ringing : c.ringing = some r) (handed : r.toHand = [])
    (all : r.reported = r.handed) : bellStep s = some (setCurrent (some { c with zone := c.zone + 1, ringing := none })
      (writeZone c.zone (ringOutcome r) c.job.origin r.handed r.acked s)) := by
  simp only [bellStep, current, ringing, handed]
  rw [if_pos all]

theorem bellReport_acked (current : s.bell.current = some c) (ringing : c.ringing = some r) :
    bellReport seg a m true s = bellRun (setCurrent (some (countReports c r m m)) s) := by
  simp only [bellReport, current, ringing]
  rfl

theorem bellReport_missed (current : s.bell.current = some c) (ringing : c.ringing = some r) :
    bellReport seg a m false s =
      bellRun (alert (unconfirmedAlert s c seg a) (setCurrent (some (countReports c r m 0)) s)) := by
  simp only [bellReport, current, ringing]
  rfl

/-- A BELL acknowledged before the zone's last report is counted, and nothing else. -/
theorem bellReport_acked_waits (current : s.bell.current = some c) (ringing : c.ringing = some r)
    (handed : r.toHand = []) (more : r.reported + m < r.handed) :
    bellReport seg a m true s = setCurrent (some (countReports c r m m)) s := by
  rw [bellReport_acked current ringing]
  exact bellRun_waits (countReports_waits rfl handed more)

/-- A BELL missed before the zone's last report is counted, with its alert. -/
theorem bellReport_missed_waits (current : s.bell.current = some c) (ringing : c.ringing = some r)
    (handed : r.toHand = []) (more : r.reported + m < r.handed) : bellReport seg a m false s =
      alert (unconfirmedAlert s c seg a) (setCurrent (some (countReports c r m 0)) s) := by
  rw [bellReport_missed current ringing]
  exact bellRun_waits (countReports_waits (by rw [alert, offerReport_bell]; rfl) handed more)

/-- The zone's record after its last report (R53). -/
def reportedZone (s : State) (c : CurrentJob) (r : ZoneRing) (m : Nat) : State :=
  writeZone c.zone (if r.acked + m = r.handed then .confirmed else .unconfirmed) c.job.origin r.handed (r.acked + m) s

/-- The last report of the mask's last zone, with nothing waiting, ends the job (R51, R53). -/
theorem bellReport_last (current : s.bell.current = some c) (ringing : c.ringing = some r) (handed : r.toHand = [])
    (all : r.reported + m = r.handed) (waiting : s.bell.waiting = []) (hz : c.zone < 16)
    (live : ∀ i, i < 8 → (inputAt s i).live = false)
    (last : ∀ z, c.zone < z → z < 16 → inZones c.job.zones z = false) :
    bellReport seg a m true s = setCurrent none (reportedZone s c r m) := by
  have written : bellStep (setCurrent (some (countReports c r m m)) s) =
      some (setCurrent (some (atZone c.job (c.zone + 1))) (reportedZone s c r m)) :=
    bellStep_reported (c := countReports c r m m) rfl rfl handed all
  obtain ⟨n, hn, moved, waits⟩ := run_fromZone
    (s := setCurrent (some (atZone c.job (c.zone + 1))) (reportedZone s c r m)) rfl (by omega)
    (fun y low high member => absurd (last y (by omega) high) (by simp [member])) waiting live
  rw [ringZones_outside fun y hy => last y (by have := (List.mem_range'_1.mp hy).1; omega)
    (by have := (List.mem_range'_1.mp hy).2; omega)] at moved waits
  rw [bellReport_acked current ringing, ((Moves.one written).trans moved).run (by omega) waits]
  rfl

end

end Sys2Proof.Machine
end

section
/-! PROOFS. The commands that end a BELL exchange: BELL_ACK, another reply, and EXCHANGE_MISS (R149, R154). -/

namespace Sys2Proof.Machine

open Sys2Proof

section

variable {s : State} {seg m n : Nat} {src : Byte} {c : CurrentJob} {r : ZoneRing}

/-! ### The commands (R149, R154) -/

theorem fieldFrame_bell (awaits : awaitsBell s seg src m n) (kind : Byte) (payload : List Byte) :
    fieldFrame seg src kind payload s = replyToBell seg src (stationAt s n) kind m s := by
  obtain ⟨sending, exchange, found⟩ := awaits
  simp [fieldFrame, classifiedFrame, sending, exchange, found]

theorem replyToBell_sounder (sounder : (stationAt s n).kind = .sounder) :
    replyToBell seg src (stationAt s n) bellAckCode m s =
      closeExchange seg (bellReport seg src m true (creditExchange seg src true s)) :=
  if_pos ⟨rfl, sounder⟩

theorem replyToBell_other {kind : Byte} (other : kind = 0x08 → (stationAt s n).kind ≠ .sounder) :
    replyToBell seg src (stationAt s n) kind m s =
      closeExchange seg (creditExchange seg src true (bellReport seg src m false s)) :=
  if_neg fun ⟨ack, sounder⟩ => other ack sounder

theorem takeExchangeMiss_bell (awaits : awaitsBell s seg src m n) : takeExchangeMiss seg s =
    closeExchange seg (creditExchange seg src false (bellReport seg src m false s)) := by
  obtain ⟨-, exchange, -⟩ := awaits
  simp only [takeExchangeMiss, exchange]
  rfl

/-! ### What the end of a BELL exchange leaves -/

/-- The exchange is over, and the other blocks stand. -/
def ExchangeEnds (seg : Nat) (s t : State) : Prop :=
  (segmentAt t seg).exchange = none ∧ t.roll = s.roll ∧ t.sched = s.sched
    ∧ t.gate = s.gate ∧ t.reg = s.reg ∧ t.msg = s.msg ∧ sameControl s t

theorem exchangeEnds {u : State} (rest : exceptBell u = exceptBell s) : ExchangeEnds seg s (closeExchange seg u) := by
  have left : exceptBell (closeExchange seg u) = exceptBell s := (exceptBell_closeExchange u seg).trans rest
  exact ⟨closeExchange_exchange u seg, congrArg (·.roll) left, congrArg (·.sched) left, congrArg (·.gate) left,
    congrArg (·.reg) left, congrArg (·.msg) left, sameControl_of_quiet (congrArg (·.office) left)⟩

theorem reportsMade_closeExchange {k : Nat} {u : State} (made : reportsMade k s u) :
    reportsMade k s (closeExchange seg u) := by rw [reportsMade, closeExchange_office]; exact made

/-- An acknowledged BELL: the station is credited, and the sequencer's run on the report writes no more of the line and
makes no report. -/
theorem acked_ends (found : classify s seg src = some n) {u : State}
    (report : bellReport seg src m true (creditExchange seg src true s) = u)
    (line : u.line = (creditExchange seg src true s).line)
    (office : u.office = (creditExchange seg src true s).office) :
    ExchangeEnds seg s (closeExchange seg u) ∧ stationAt (closeExchange seg u) n = credited (stationAt s n)
      ∧ reportsMade (backAlerts (stationAt s n)) s (closeExchange seg u) := by
  have credits := creditExchange_credits found true
  have rest : exceptBell u = exceptBell (creditExchange seg src true s) := report ▸ exceptBell_bellReport _ _ _ _ _
  refine ⟨exchangeEnds (rest.trans (exceptBell_of_line credits.rest)), ?_, reportsMade_closeExchange ?_⟩
  · rw [stationAt_closeExchange, stationAt, line]; exact credits.station
  · rw [reportsMade, office]; exact credits.made

/-- The first of the reports made is the BELL_UNCONFIRMED alert of a zone and a sounder (R52, log 6). -/
def FirstUnconfirmed (c : CurrentJob) (seg : Nat) (src : Byte) (s t : State) : Prop :=
  s.line.upSending.isSome = true → s.office.reports.length < 64 →
    ∃ rest, t.office.reports = s.office.reports ++ ⟨s.office.reportNumber, s.sched.day, s.sched.second,
      .alert (.bellUnconfirmed c.zone seg src c.job.origin s.sched.second)⟩ :: rest

/-- A BELL counted as reported only, with its alert. -/
def missCounted (c : CurrentJob) (r : ZoneRing) (seg m : Nat) (src : Byte) (s : State) : State :=
  alert (unconfirmedAlert s c seg src) (setCurrent (some (countReports c r m 0)) s)

theorem missCounted_stations : (missCounted c r seg m src s).line.stations = s.line.stations := by
  rw [missCounted, alert, offerReport_stations]; rfl

theorem missCounted_bell : (missCounted c r seg m src s).bell =
    { s.bell with current := some (countReports c r m 0) } := by rw [missCounted, alert, offerReport_bell]; rfl

theorem classify_missCounted (a : Byte) : classify (missCounted c r seg m src s) seg a = classify s seg a := by
  have same (k : Nat) : stationAt (missCounted c r seg m src s) k = stationAt s k := by
    rw [stationAt, missCounted_stations]; rfl
  simp only [classify, same]

/-- A BELL missed before its zone's last report, answered or not: it is counted with its alert, and then the station is
credited (log 6). -/
theorem missed_ends (found : classify s seg src = some n) (current : s.bell.current = some c)
    (ringing : c.ringing = some r) (handed : r.toHand = []) (more : r.reported + m < r.handed) (reply : Bool) :
    ∃ t, closeExchange seg (creditExchange seg src reply (bellReport seg src m false s)) = t ∧ ExchangeEnds seg s t
      ∧ t.bell = { s.bell with current := some (countReports c r m 0) }
      ∧ stationAt t n = presenceAfter (stationAt s n) reply
      ∧ reportsMade (1 + presenceAlerts (stationAt s n) reply) s t ∧ FirstUnconfirmed c seg src s t := by
  have counted : bellReport seg src m false s = missCounted c r seg m src s :=
    bellReport_missed_waits current ringing handed more
  have known := (classify_missCounted (c := c) (r := r) (m := m) (src := src) src).trans found
  have credits := creditExchange_credits known reply
  have station : stationAt (missCounted c r seg m src s) n = stationAt s n := by
    rw [stationAt, missCounted_stations]; rfl
  have credited := credits.station
  have made := credits.made
  rw [station] at credited made
  have first : reportsMade 1 s (missCounted c r seg m src s) := reportsMade_alert _ _
  refine ⟨_, rfl, ?_, ?_, ?_, ?_, fun busy room => ?_⟩ <;> rw [counted]
  · exact exchangeEnds ((exceptBell_of_line credits.rest).trans (exceptBell_alert _ _))
  · exact (closeExchange_bell _ _).trans (.trans (congrArg (·.bell) credits.rest) missCounted_bell)
  · rw [stationAt_closeExchange]; exact credited
  · exact reportsMade_closeExchange (reportsMade_trans first made)
  · have queued := offerReport_queued (s := setCurrent (some (countReports c r m 0)) s)
      (.alert (unconfirmedAlert s c seg src)) busy room
    obtain ⟨-, rest, follow⟩ := credits.follow (by rw [missCounted, alert, queued]; exact busy)
    refine ⟨rest, ?_⟩
    rw [closeExchange_office, follow, missCounted, alert, queued]
    simp only [List.append_assoc, List.singleton_append]
    rfl

end

/-- Settles O52: what each command makes of the exchange, by whether the zone awaits more reports. -/
theorem bellExchangesReport : Obligations.BellExchangesReport := by
  intro s seg m n src kind payload c r powered awaits current ringing handed
  have found := awaits.2.2
  have other : exec (.wrongKindReply seg src kind payload) s = .next (replyToBell seg src (stationAt s n) kind m s) :=
    (whenPowered_on powered _).trans (congrArg _ (fieldFrame_bell awaits kind payload))
  have acked : exec (.bellAck seg src) s = .next (replyToBell seg src (stationAt s n) bellAckCode m s) :=
    (whenPowered_on powered _).trans (congrArg _ (fieldFrame_bell awaits bellAckCode []))
  have missed : exec (.exchangeMiss seg) s = .next (takeExchangeMiss seg s) := whenPowered_on powered _
  have credits := creditExchange_credits found true
  have bell : (creditExchange seg src true s).bell = s.bell := congrArg (·.bell) credits.rest
  have currentC : (creditExchange seg src true s).bell.current = some c := by rw [bell, current]
  refine ⟨fun ack => ?_, fun more sounder => ?_, fun more notAck => ?_, fun more => ?_,
    fun all sounder waiting hz live last => ?_⟩
  · rw [other, acked, ack]; rfl
  · have report := bellReport_acked_waits (seg := seg) (a := src) currentC ringing handed more
    obtain ⟨ends, station, made⟩ := acked_ends found report rfl rfl
    rw [acked, replyToBell_sounder sounder, report]
    refine ⟨_, rfl, ends, (closeExchange_bell _ _).trans ?_, station, made⟩
    rw [setCurrent, modBell_bell, bell]
    rfl
  · obtain ⟨t, rfl, ends, counted, station, made, first⟩ := missed_ends found current ringing handed more true
    rw [other, replyToBell_other notAck]
    exact ⟨_, rfl, ends, counted, station, made, first⟩
  · obtain ⟨t, rfl, ends, counted, -, made, first⟩ := missed_ends found current ringing handed more false
    rw [missed, takeExchangeMiss_bell awaits]
    exact ⟨_, rfl, ends, counted, made, first⟩
  · have report := bellReport_last (seg := seg) (a := src) currentC ringing handed all (by rw [bell, waiting]) hz
      (fun i hi => by rw [inputAt, bell]; exact live i hi) last
    obtain ⟨ends, station, made⟩ := acked_ends found report rfl rfl
    have sched : (creditExchange seg src true s).sched = s.sched := congrArg (·.sched) credits.rest
    rw [acked, replyToBell_sounder sounder, report]
    have record (z : Nat) := zoneAt_writeZone (s := creditExchange seg src true s) c.zone z
      (if r.acked + m = r.handed then .confirmed else .unconfirmed) c.job.origin r.handed (r.acked + m)
    have zones (z : Nat) :
        zoneAt (closeExchange seg (setCurrent none (reportedZone (creditExchange seg src true s) c r m))) z =
          zoneAt (reportedZone (creditExchange seg src true s) c r m) z := by
      rw [zoneAt, closeExchange_bell]; rfl
    refine ⟨_, rfl, ends, ?_, ?_, ?_, fun z hz => ?_, ?_, station, made⟩
    · rw [closeExchange_bell]; rfl
    · rw [closeExchange_bell]; exact (congrArg (·.waiting) bell).trans waiting
    · rw [zones, reportedZone, record, if_pos rfl, sched]
    · rw [zones, reportedZone, record, if_neg hz, zoneAt, bell]; rfl
    · rw [closeExchange_bell]; exact congrArg (·.sounding) bell

end Sys2Proof.Machine
end

section
/-! PROOFS. Power and its failure (R60, R168, R169): what POWER_FAIL cuts, and the plain cases of POWER_UP and
BACKUP_LOW. -/

namespace Sys2Proof.Machine

open Sys2Proof

section

variable {s : State}

/-- The failure of main power: the frames being sent are cut, the relays open, and the part stops. -/
def powerFailed (s : State) : State := (openRelays (cutFrames s)).modOffice fun o => { o with powered := false }

theorem exec_powerFail (on : s.office.powered = true) : exec .powerFail s = .next (powerFailed s) := by
  show Host.Outcome.next (takePowerFail s) = _
  rw [takePowerFail, if_pos on]
  rfl

theorem relayAt_powerFailed {r : Nat} (hr : r < 2) :
    relayAt (powerFailed s) r = { relayAt s r with position := .opened } := relayAt_openRelays (cutFrames s) hr

theorem segmentAt_powerFailed {g : Nat} (hg : g < 4) :
    segmentAt (powerFailed s) g = { segmentAt s g with sending := none } := by
  show tabGet coldSegment (tabulate coldSegment 4 fun n => { tabGet coldSegment s.line.segments n with
    sending := none }) g = _
  rw [tabGet_tabulate, if_pos hg]
  rfl

/-- With the retention-valid flag clear, the return of power is a cold start (R169). -/
theorem exec_powerUp_cold (off : s.office.powered = false) (clear : s.office.retentionValid = false) :
    exec .powerUp s = .next (coldStart s) := by
  show Host.Outcome.next (takePowerUp s) = _
  simp [takePowerUp, off, clear]

theorem exec_powerUp_retained (off : s.office.powered = false) (valid : s.office.retentionValid = true) :
    exec .powerUp s = .next (powerRestart s) := by
  show Host.Outcome.next (takePowerUp s) = _
  simp [takePowerUp, off, valid]

theorem exec_powerUp_on (on : s.office.powered = true) : exec .powerUp s = .next s := by
  show Host.Outcome.next (takePowerUp s) = _
  rw [takePowerUp, if_pos on]

end

end Sys2Proof.Machine
end

section
/-! PROOFS. What catch-up keeps of the state it finds (R172, R173): the clock, the bells and the part's control, the
stations, the marks, on-site states and term records of the pupils, the families and excuses, the credit, and gates
with neither referral nor memory. -/

namespace Sys2Proof.Machine

open Sys2Proof

/-! ### A silent run, part by part (R34, R38) -/

section

variable {R : State → State → Prop} (refl : ∀ s, R s s) (trans : ∀ {s t u}, R s t → R t u → R s u)
  (event : ∀ a s, R s (eventSide a s)) (cursor : ∀ c s, R s (s.modSched fun u => { u with cursor := c }))
  (swap : ∀ p t s, R s (swapTo p t s))

include refl swap in
theorem swapStaged_relates (t : Nat) (s : State) : R s (swapStaged t s) := by
  unfold swapStaged
  split
  · exact refl s
  · exact swap _ t s

include refl trans event cursor swap

theorem takeNextEvent_relates (i : Nat) (e : Event) (s : State) : R s (takeNextEvent false i e s) := by
  have moved := trans (event e.act s) (cursor (cursorAfter (activeEvents s) i) _)
  unfold takeNextEvent
  dsimp only
  split
  · exact trans moved (swapStaged_relates refl swap _ _)
  · exact moved

theorem runEvents_relates (t1 : Option Nat) (t2 fuel : Nat) (s : State) : R s (runEvents false t1 t2 fuel s) := by
  induction fuel generalizing s with
  | zero => exact refl s
  | succ k ih =>
    unfold runEvents
    split
    · exact refl s
    · rename_i i e _
      have taken := trans (takeNextEvent_relates refl trans event cursor swap i e s) (ih _)
      have passed := trans (cursor (cursorAfter (activeEvents s) i) s) (ih _)
      split
      · exact refl s
      · cases t1 with
        | none => exact taken
        | some t =>
          dsimp only
          split
          · exact taken
          · exact passed

/-- What the side effects of events, the cursor's moves, swaps and the last processed time keep, a silent run keeps. -/
theorem silentRun_relates (processed : ∀ t s, R s (setProcessed t s)) (t1 : Option Nat) (t2 : Nat) (s : State) :
    R s (silentRun t1 t2 s) := by
  have edge (u : State) : R u (swapAtEdge u) := by
    unfold swapAtEdge
    split
    · exact swapStaged_relates refl swap _ _
    · exact refl u
  exact trans (runEvents_relates refl trans event cursor swap t1 t2 65 s) (trans (edge _) (processed t2 _))

end

/-! ### The relation -/

/-- No gate holds a referral or remembers a tap. -/
def GatesClear (s : State) : Prop := ∀ g, g < 8 → (gateAt s g).referral = none ∧ (gateAt s g).memory = none

/-- Items that neither events nor triggers write. -/
def catchUpItems (s : State) : Table Station × AgentState × Table Family × List Excuse × Nat :=
  (s.line.stations, s.office.agent, s.roll.families, s.roll.excuses, s.msg.creditLimit)

/-- What catch-up keeps. -/
structure CatchUpKept (s t : State) : Prop where
  clock : ClockKept s t
  items : catchUpItems t = catchUpItems s
  roll : RollAgrees markView s.roll.roll t.roll.roll
  gates : GatesClear s → GatesClear t

section

variable {s t u : State}

theorem CatchUpKept.refl (s : State) : CatchUpKept s s := ⟨.refl s, rfl, .refl _ _, id⟩

theorem CatchUpKept.trans (h : CatchUpKept s t) (k : CatchUpKept t u) : CatchUpKept s u :=
  ⟨h.clock.trans k.clock, k.items.trans h.items, h.roll.trans k.roll, k.gates ∘ h.gates⟩

theorem GatesClear.of_gates (h : GatesClear s) (same : t.gate.gates = s.gate.gates) : GatesClear t := fun g hg => by
  rw [gateAt, same]; exact h g hg

/-- A change that leaves the items, the roll's entries and the gates. -/
theorem CatchUpKept.of_same (clock : ClockKept s t) (items : catchUpItems t = catchUpItems s)
    (roll : t.roll.roll = s.roll.roll) (gates : t.gate.gates = s.gate.gates) : CatchUpKept s t :=
  ⟨clock, items, roll ▸ .refl _ _, fun clear => clear.of_gates gates⟩

theorem CatchUpKept.of_register (clock : ClockKept s t) (h : exceptRegister t = exceptRegister s) : CatchUpKept s t :=
  .of_same clock (show catchUpItems (exceptRegister t) = catchUpItems (exceptRegister s) from congrArg catchUpItems h)
    (congrArg (·.roll.roll) h) (congrArg (·.gate.gates) h)

end

variable (s : State)

/-! ### Events taken silent, and swaps (R34, R38) -/

theorem givenMode_clear {mode : GateMode} {x : Gate} (h : x.referral = none ∧ x.memory = none) :
    (givenMode mode x).referral = none ∧ (givenMode mode x).memory = none := by
  unfold givenMode
  split
  · exact h
  · exact ⟨h.1, rfl⟩

theorem eventSide_gatesClear (a : EventAct) (clear : GatesClear s) : GatesClear (eventSide a s) := by
  by_cases h : ∀ mask mode, a ≠ .gateMode mask mode
  · intro g hg
    rw [gateAt, eventSide_gate h]
    exact clear g hg
  · push Not at h
    obtain ⟨mask, mode, rfl⟩ := h
    intro g hg
    show (gateAt (applyGateMode mask mode s) g).referral = none ∧ (gateAt (applyGateMode mask mode s) g).memory = none
    rw [applyGateMode_gateAt mask mode s hg]
    split
    · exact givenMode_clear (clear g hg)
    · exact clear g hg

theorem eventSide_caught (a : EventAct) : CatchUpKept s (eventSide a s) := by
  have work := eventSide_work s a
  have credit : (eventSide a s).msg.creditLimit = s.msg.creditLimit :=
    congrArg (·.creditLimit) (eventSide_windowless a s)
  have view (u : State) : catchUpItems u = ((exceptEvent u).line.stations, (exceptEvent u).office.agent,
    (exceptEvent u).roll.families, (exceptEvent u).roll.excuses, u.msg.creditLimit) := rfl
  refine ⟨work.clockKept, ?_, work.roll.coarser markView fun _ => rfl, eventSide_gatesClear s a⟩
  rw [view, work.rest, credit, view]

theorem modSched_caught (f : ScheduleUnit → ScheduleUnit) (clock : (f s.sched).clock = s.sched.clock)
    (day : (f s.sched).day = s.sched.day) (second : (f s.sched).second = s.sched.second) :
    CatchUpKept s (s.modSched f) := .of_same (modSched_clockKept s f clock day second) rfl rfl rfl

theorem swapTo_caught (p t : Nat) : CatchUpKept s (swapTo p t s) :=
  have planned : CatchUpKept s (withPlan p t s) := modSched_caught s _ rfl rfl rfl
  have swapped := exceptRegister_swapTo p t s
  planned.trans <| .of_register (.of_sched (congrArg fixedSched (sched_of_exceptRegister swapped))
    (bell_of_exceptRegister swapped) (sameControl_of_exceptRegister swapped)) swapped

theorem setProcessed_caught (t : Nat) : CatchUpKept s (setProcessed t s) := modSched_caught s _ rfl rfl rfl

theorem silentRun_caught (t1 : Option Nat) (t2 : Nat) : CatchUpKept s (silentRun t1 t2 s) :=
  silentRun_relates .refl .trans (fun a s => eventSide_caught s a) (fun _ s => modSched_caught s _ rfl rfl rfl)
    (fun p t s => swapTo_caught s p t) (fun t s => setProcessed_caught s t) t1 t2 s

theorem catchUpEvents_caught : CatchUpKept s (catchUpEvents s) := by
  unfold catchUpEvents
  split
  · exact silentRun_caught s _ _
  · exact setProcessed_caught s _

/-- The roll's entries apart, the Roll Store stands. -/
def EntriesOnly (s t : State) : Prop := { t.roll with roll := s.roll.roll } = s.roll

theorem EntriesOnly.trans {s t u : State} (h : EntriesOnly s t) (k : EntriesOnly t u) : EntriesOnly s u := by
  have later := congrArg (fun r : RollStore => { r with roll := s.roll.roll }) (show _ = t.roll from k)
  exact later.trans h

theorem swapTo_entries (p t : Nat) : EntriesOnly s (swapTo p t s) := by
  rw [EntriesOnly, roll_of_exceptRegister (exceptRegister_swapTo p t s)]; rfl

theorem silentRun_entries (t1 : Option Nat) (t2 : Nat) : EntriesOnly s (silentRun t1 t2 s) :=
  silentRun_relates (R := EntriesOnly) (fun _ => rfl) .trans (fun a s => (eventSide_work s a).rollRest)
    (fun _ _ => rfl) (fun p t s => swapTo_entries s p t) (fun _ _ => rfl) t1 t2 s

theorem catchUpEvents_entries : EntriesOnly s (catchUpEvents s) := by
  unfold catchUpEvents
  split
  · exact silentRun_entries s _ _
  · rfl

/-! ### The day-end notice and the triggers (R39, R172) -/

theorem answerHeld_stations (r : Referral) (a : Answer) : (answerHeld r a s).line.stations = s.line.stations :=
  handFrame_stations _ _ _

theorem cancelAtDayEnd_stations (g : Nat) : (cancelAtDayEnd g s).line.stations = s.line.stations := by
  unfold cancelAtDayEnd
  split
  · rfl
  · exact answerHeld_stations _ _ _

theorem gateDayEnd_stations : (gateDayEnd s).line.stations = s.line.stations := by
  rw [gateDayEnd_line]
  exact eachGate_keeps (·.line.stations) (fun g s => cancelAtDayEnd_stations s g) _ _

theorem dropNotices_credit (l : List Notice) : (dropNotices l s).msg.creditLimit = s.msg.creditLimit := by
  induction l generalizing s with
  | nil => rfl
  | cons n ns ih => exact (ih _).trans (congrArg (·.creditLimit) (leaveQueue_msg n .dropped s))

theorem messageDayEnd_credit : (messageDayEnd s).msg.creditLimit = s.msg.creditLimit := by
  unfold messageDayEnd
  exact dropNotices_credit s _

section

variable {α : Type} {v : RollEntry → α} {s t : State}

theorem NoticeWork.stations (h : NoticeWork v s t) : t.line.stations = s.line.stations :=
  congrArg (·.line.stations) h.rest

theorem NoticeWork.agent (h : NoticeWork v s t) : t.office.agent = s.office.agent :=
  congrArg (·.office.agent) h.rest

theorem agent_of_exceptGates (h : exceptGates t = exceptGates s) : t.office.agent = s.office.agent :=
  congrArg (·.office.agent) h

theorem msg_of_exceptGates (h : exceptGates t = exceptGates s) : t.msg = s.msg := congrArg (·.msg) h

end

theorem registerDayEnd_line : (registerDayEnd s).line = s.line := rfl

theorem registerDayEnd_office : (registerDayEnd s).office = s.office := rfl

theorem registerDayEnd_msg : (registerDayEnd s).msg = s.msg := rfl

theorem dayEndNotice_stations : (dayEndNotice s).line.stations = s.line.stations := by
  rw [dayEndNotice, (messageDayEnd_work _).stations, registerDayEnd_line, gateDayEnd_stations]

theorem dayEndNotice_agent : (dayEndNotice s).office.agent = s.office.agent := by
  rw [dayEndNotice, (messageDayEnd_work _).agent, registerDayEnd_office,
    agent_of_exceptGates (exceptGates_gateDayEnd s)]

theorem dayEndNotice_credit : (dayEndNotice s).msg.creditLimit = s.msg.creditLimit := by
  rw [dayEndNotice, messageDayEnd_credit, registerDayEnd_msg, msg_of_exceptGates (exceptGates_gateDayEnd s)]

theorem dayEndNotice_items : catchUpItems (dayEndNotice s) = catchUpItems s := by
  rw [catchUpItems, dayEndNotice_stations, dayEndNotice_agent, dayEndNotice_credit, (dayEndNotice_ends s).roll]
  rfl

theorem dayEndNotice_caught : CatchUpKept s (dayEndNotice s) where
  clock := dayEndNotice_clockKept s
  items := dayEndNotice_items s
  roll := by rw [(dayEndNotice_ends s).roll]; exact .refl _ _
  gates _ g hg := by rw [(dayEndNotice_ends s).gates g hg]; exact ⟨rfl, rfl⟩

theorem resumeSettlement_caught : CatchUpKept s (resumeSettlement s) := by
  unfold resumeSettlement
  split
  · exact dayEndNotice_caught s
  · exact .refl s

theorem rolloverTrigger_caught (day : Nat) : CatchUpKept s (rolloverTrigger day s) := by
  have ended : CatchUpKept s (withSched (dayOver day s.sched) s) := modSched_caught s _ rfl rfl rfl
  have settling (f : RollStore → RollStore) (rest : { f s.roll with
      rollState := s.roll.rollState, cursor := s.roll.cursor, heldTriggers := s.roll.heldTriggers } = s.roll) :
      CatchUpKept (withSched (dayOver day s.sched) s) ((withSched (dayOver day s.sched) s).modRoll f) := by
    refine .of_same (modRoll_clockKept _ f) ?_ (congrArg (·.roll) rest) rfl
    have families := congrArg (·.families) rest
    have excuses := congrArg (·.excuses) rest
    show (s.line.stations, s.office.agent, (f s.roll).families, (f s.roll).excuses, s.msg.creditLimit) = _
    rw [show (f s.roll).families = s.roll.families from families,
      show (f s.roll).excuses = s.roll.excuses from excuses]
    rfl
  refine ended.trans ?_
  rw [rolloverTrigger_eq, passTrigger]
  split
  · exact (settling (fun u => { u with rollState := .rollover day, cursor := 0 }) rfl).trans (dayEndNotice_caught _)
  · exact settling (fun u => { u with heldTriggers := u.heldTriggers ++ [day] }) rfl

theorem passTriggers_caught (l : List Nat) : CatchUpKept s (passTriggers l s) := by
  induction l generalizing s with
  | nil => exact .refl s
  | cons d ds ih => exact (rolloverTrigger_caught s d).trans (ih _)

end Sys2Proof.Machine
end

section
/-! PROOFS. The Gate Unit at a retained restart (R83, R89): each held referral ends with a REFERRAL_EXPIRED movement,
gate by gate, and every memory is emptied. -/

namespace Sys2Proof.Machine

open Sys2Proof

/-! ### Movements recorded in a row (R83) -/

/-- So many movements have been recorded in turn: listed while there is room for them, each with its report, and the
day's one MOVEMENTS_FULL alert with the first that is not listed. -/
structure Recorded (ms : List Movement) (s t : State) : Prop where
  movements : t.gate.movements = (s.gate.movements ++ ms).take 1024
  full : t.gate.movementsFull = (s.gate.movementsFull || decide (1024 < (s.gate.movements ++ ms).length))
  made : reportsMade (ms.length
    + if 1024 < (s.gate.movements ++ ms).length ∧ s.gate.movementsFull = false then 1 else 0) s t

section

variable {s t u : State} {ms ns : List Movement}

theorem Recorded.none (room : s.gate.movements.length ≤ 1024) (movements : t.gate.movements = s.gate.movements)
    (full : t.gate.movementsFull = s.gate.movementsFull)
    (number : t.office.reportNumber = s.office.reportNumber) : Recorded [] s t := by
  have notOver : ¬1024 < (s.gate.movements ++ []).length := by simpa using room
  refine ⟨?_, ?_, ?_⟩
  · rw [movements, List.append_nil, List.take_of_length_le room]
  · rw [full, decide_eq_false notOver, Bool.or_false]
  · rw [if_neg fun h => notOver h.1]; exact number

theorem Recorded.room (h : Recorded ms s t) : t.gate.movements.length ≤ 1024 := by
  rw [h.movements]; exact List.length_take_le _ _

/-- Of two runs of movements, the alert is the first's that finds the list full. -/
theorem firstAlert_add {A B C : Prop} [Decidable A] [Decidable B] [Decidable C] (h : A ∨ B ↔ C) (full : Bool) :
    ((if A ∧ full = false then 1 else 0) + if B ∧ (full || decide A) = false then 1 else 0) =
      if C ∧ full = false then 1 else 0 := by
  cases full with
  | true => simp
  | false =>
    by_cases first : A
    · simp [first, h.mp (.inl first)]
    · simp [first, ← h]

theorem Recorded.trans (h : Recorded ms s t) (k : Recorded ns t u) : Recorded (ms ++ ns) s u := by
  have length : t.gate.movements.length = min 1024 (s.gate.movements.length + ms.length) := by
    rw [h.movements, List.length_take, List.length_append]
  have beyond : (1024 < (s.gate.movements ++ ms).length ∨ 1024 < (t.gate.movements ++ ns).length) ↔
      1024 < (s.gate.movements ++ (ms ++ ns)).length := by
    simp only [List.length_append, length]; omega
  refine ⟨?_, ?_, ?_⟩
  · rw [k.movements, h.movements, ← List.append_assoc]
    by_cases fits : (s.gate.movements ++ ms).length ≤ 1024
    · rw [List.take_of_length_le fits]
    · have top : 1024 ≤ (s.gate.movements ++ ms).length := by omega
      rw [List.take_append_of_le_length top, List.take_append_of_le_length (by rw [List.length_take]; omega),
        List.take_take]
      simp
  · rw [k.full, h.full, Bool.or_assoc, ← Bool.decide_or]
    simp only [beyond]
  · have alerts := firstAlert_add beyond s.gate.movementsFull
    have made := reportsMade_trans h.made k.made
    rw [← h.full] at alerts
    rw [show ∀ a b c d : Nat, a + b + (c + d) = a + c + (b + d) by omega, alerts] at made
    rwa [List.length_append]

/-- One movement recorded. -/
theorem recordMovement_records (room : s.gate.movements.length ≤ 1024) (m : Movement) (slot : Nat)
    (x : Option Session) : Recorded [m] s (recordMovement m slot x s) := by
  have made (u : State) (b : ReportBody) : reportsMade 1 u (offerReport b u) := offerReport_reportNumber b u
  have length : (s.gate.movements ++ [m]).length = s.gate.movements.length + 1 := by simp
  by_cases fits : s.gate.movements.length < 1024
  · have notOver : ¬1024 < (s.gate.movements ++ [m]).length := by omega
    have listed : listMovement m s = s.modGate fun u => { u with movements := u.movements ++ [m] } := if_pos fits
    refine ⟨?_, ?_, ?_⟩
    · rw [recordMovement, offerReport_gate, listed, List.take_of_length_le (by omega)]; rfl
    · rw [recordMovement, offerReport_gate, listed, decide_eq_false notOver, Bool.or_false]; rfl
    · rw [if_neg fun h => notOver h.1, recordMovement, listed]
      exact made (s.modGate fun u => { u with movements := u.movements ++ [m] }) _
  · have exact_ : s.gate.movements.length = 1024 := by omega
    have beyond : 1024 < (s.gate.movements ++ [m]).length := by omega
    have kept : (s.gate.movements ++ [m]).take 1024 = s.gate.movements := by rw [← exact_]; exact List.take_left ..
    cases full : s.gate.movementsFull with
    | true =>
      have listed : listMovement m s = s := (if_neg fits).trans (if_pos full)
      refine ⟨?_, ?_, ?_⟩
      · rw [recordMovement, offerReport_gate, listed, kept]
      · rw [recordMovement, offerReport_gate, listed, full]; rfl
      · rw [if_neg (by rw [full]; exact fun h => nomatch h.2), recordMovement, listed]
        exact made s _
    | false =>
      have listed : listMovement m s = alert (.movementsFull s.sched.day s.sched.second)
          (s.modGate fun u => { u with movementsFull := true }) :=
        (if_neg fits).trans (if_neg (by rw [full]; exact Bool.false_ne_true))
      have alerted := reportsMade_alert (.movementsFull s.sched.day s.sched.second)
        (s.modGate fun u => { u with movementsFull := true })
      refine ⟨?_, ?_, ?_⟩
      · rw [recordMovement, offerReport_gate, listed, alert, offerReport_gate, kept]; rfl
      · rw [recordMovement, offerReport_gate, listed, alert, offerReport_gate, decide_eq_true beyond, Bool.or_true]; rfl
      · rw [if_pos ⟨beyond, full⟩, recordMovement, listed]
        exact reportsMade_trans (j := 1) (s := s) alerted (made _ _)

end

/-! ### The referrals cancelled at a restart (R89) -/

/-- The REFERRAL_EXPIRED movement of a gate, if it holds a referral. -/
def expiredAt (s : State) (g : Nat) : Option Movement :=
  (gateAt s g).referral.map fun r =>
    { second := s.sched.second, gate := g, direction := r.direction, pupil := pupilAt s r.slot, kind := .referralExpired
      minutes := none, referral := some r.number }

theorem expiredMovements_eq (s : State) : expiredMovements s = (List.range 8).filterMap (expiredAt s) := rfl

section

variable {s t : State}

theorem pupilAt_of_find {slot : Nat} (h : (entryAt t slot).map (·.pupil) = (entryAt s slot).map (·.pupil)) :
    pupilAt t slot = pupilAt s slot := by rw [pupilAt, h]; rfl

/-- A gate's movement depends on its record, the second and the pupils. -/
theorem expiredAt_of_same {g : Nat} (gate : gateAt t g = gateAt s g) (second : t.sched.second = s.sched.second)
    (pupils : ∀ n, pupilAt t n = pupilAt s n) : expiredAt t g = expiredAt s g := by
  simp only [expiredAt, gate, second, pupils]

variable (s)

theorem recordExpired_gates (g : Nat) (r : Referral) : (recordExpired g r s).gate.gates = s.gate.gates := by
  unfold recordExpired recordMovement
  rw [offerReport_gate]
  unfold listMovement
  split
  · rfl
  · split
    · rfl
    · rw [alert, offerReport_gate]; rfl

theorem cancelAtRestart_gateAt (g h : Nat) :
    gateAt (cancelAtRestart g s) h = if h = g then withoutReferral (gateAt s h) else gateAt s h := by
  unfold cancelAtRestart
  split
  · rename_i none_
    split
    · subst_vars; rw [withoutReferral, ← none_]
    · rfl
  · rename_i r _
    rw [gateAt, recordExpired_gates, ← gateAt, clearReferral, gateAt_setGateAt]
    split
    · subst_vars; rfl
    · rfl

theorem cancelAtRestart_records (room : s.gate.movements.length ≤ 1024) (g : Nat) :
    Recorded (expiredAt s g).toList s (cancelAtRestart g s) := by
  unfold cancelAtRestart expiredAt
  split
  · rename_i none_
    rw [none_]
    exact .none room rfl rfl rfl
  · rename_i r held
    rw [held]
    have recorded := recordMovement_records (s := clearReferral g s) room
      { second := s.sched.second, gate := g, direction := r.direction, pupil := pupilAt s r.slot
        kind := .referralExpired, minutes := none, referral := some r.number } r.slot none
    exact ⟨recorded.movements, recorded.full, recorded.made⟩

theorem cancelAtRestart_expiredAt {g h : Nat} (other : h ≠ g) : expiredAt (cancelAtRestart g s) h = expiredAt s h := by
  have rest := exceptGates_cancelAtRestart s g
  have roll := roll_of_exceptGates rest
  refine expiredAt_of_same ?_ (congrArg (·.second) (sched_of_exceptGates rest)) fun n => ?_
  · rw [cancelAtRestart_gateAt, if_neg other]
  · rw [pupilAt, entryAt, roll]; rfl

/-- The movements of the gates of a list, in its order (log 21). -/
theorem cancelEach_records {l : List Nat} (nodup : l.Nodup) (room : s.gate.movements.length ≤ 1024) :
    Recorded (l.filterMap (expiredAt s)) s (eachGate cancelAtRestart l s) := by
  induction l generalizing s with
  | nil => exact .none room rfl rfl rfl
  | cons g gs ih =>
    obtain ⟨fresh, nodup⟩ := List.nodup_cons.mp nodup
    have first := cancelAtRestart_records s room g
    have later := ih (cancelAtRestart g s) nodup first.room
    have same : gs.filterMap (expiredAt (cancelAtRestart g s)) = gs.filterMap (expiredAt s) :=
      List.filterMap_congr fun h hh => cancelAtRestart_expiredAt s fun e : h = g => fresh (e ▸ hh)
    rw [same] at later
    have both := first.trans later
    rw [List.filterMap_cons]
    cases hx : expiredAt s g with
    | none => rw [hx] at both; exact both
    | some m => rw [hx] at both; exact both

/-! ### The Gate Unit's restart -/

/-- What the Gate Unit's restart leaves. -/
structure GatesRestarted (s t : State) : Prop where
  rest : exceptGates t = exceptGates s
  stations : t.line.stations = s.line.stations
  clear : GatesClear t
  modes : ∀ g, (gateAt t g).mode = (gateAt s g).mode
  counter : t.gate.referralCounter = s.gate.referralCounter
  recorded : s.gate.movements.length ≤ 1024 → Recorded (expiredMovements s) s t

theorem recordExpired_stations (g : Nat) (r : Referral) : (recordExpired g r s).line.stations = s.line.stations := by
  unfold recordExpired recordMovement
  rw [offerReport_stations]
  unfold listMovement
  split
  · rfl
  · split
    · rfl
    · rw [alert, offerReport_stations]; rfl

theorem recordExpired_counter (g : Nat) (r : Referral) :
    (recordExpired g r s).gate.referralCounter = s.gate.referralCounter := by
  unfold recordExpired recordMovement
  rw [offerReport_gate]
  unfold listMovement
  split
  · rfl
  · split
    · rfl
    · rw [alert, offerReport_gate]; rfl

theorem cancelAtRestart_stations (g : Nat) : (cancelAtRestart g s).line.stations = s.line.stations := by
  unfold cancelAtRestart
  split
  · rfl
  · exact recordExpired_stations _ _ _

theorem cancelAtRestart_counter (g : Nat) :
    (cancelAtRestart g s).gate.referralCounter = s.gate.referralCounter := by
  unfold cancelAtRestart
  split
  · rfl
  · exact recordExpired_counter _ _ _

theorem cancelAtRestart_mode (g h : Nat) : (gateAt (cancelAtRestart g s) h).mode = (gateAt s h).mode := by
  rw [cancelAtRestart_gateAt]
  split
  · rfl
  · rfl

theorem forgetTap_mode (g h : Nat) : (gateAt (forgetTap g s) h).mode = (gateAt s h).mode := by
  rw [forgetTap_gateAt]
  split
  · rfl
  · rfl

theorem gateRestart_restarts : GatesRestarted s (gateRestart s) := by
  generalize hu : eachGate cancelAtRestart (List.range 8) s = u
  have forgets : gateRestart s = eachGate forgetTap (List.range 8) u := by rw [gateRestart, hu]
  have movements := eachGate_keeps (·.gate.movements) (f := forgetTap) (fun _ _ => rfl) (List.range 8) u
  have full := eachGate_keeps (·.gate.movementsFull) (f := forgetTap) (fun _ _ => rfl) (List.range 8) u
  have office := eachGate_keeps (·.office) (f := forgetTap) (fun _ _ => rfl) (List.range 8) u
  have stations := eachGate_keeps (·.line.stations) (f := forgetTap) (fun _ _ => rfl) (List.range 8) u
  have counter := eachGate_keeps (·.gate.referralCounter) (f := forgetTap) (fun _ _ => rfl) (List.range 8) u
  refine ⟨exceptGates_gateRestart s, ?_, fun g hg => ?_, fun g => ?_, ?_, fun room => ?_⟩
  · rw [forgets, stations, ← hu]
    exact eachGate_keeps (·.line.stations) (fun g s => cancelAtRestart_stations s g) _ _
  · rw [forgets, gateAt_allGates forgetTap_gateAt u hg, ← hu,
      gateAt_allGates (fun g s h => cancelAtRestart_gateAt s g h) s hg]
    exact ⟨rfl, rfl⟩
  · rw [forgets, eachGate_keeps (fun x => (gateAt x g).mode) (fun h s => forgetTap_mode s h g), ← hu,
      eachGate_keeps (fun x => (gateAt x g).mode) (fun h s => cancelAtRestart_mode s h g)]
  · rw [forgets, counter, ← hu]
    exact eachGate_keeps (·.gate.referralCounter) (fun g s => cancelAtRestart_counter s g) _ _
  · have recorded := cancelEach_records s (List.nodup_range (n := 8)) room
    rw [hu] at recorded
    refine ⟨?_, ?_, ?_⟩
    · rw [forgets, movements]; exact recorded.movements
    · rw [forgets, full]; exact recorded.full
    · rw [forgets, reportsMade, office]; exact recorded.made

end

end Sys2Proof.Machine
end

section
/-! PROOFS. The Message Unit at a retained restart (R133, R145): the records that leave WITHDRAWN, those back in QUEUED,
and the walk. -/

namespace Sys2Proof.Machine

open Sys2Proof

/-! ### A walk that is not IDLE (R128) -/

section

variable {s : State}

theorem walkRequest_walking (h : s.msg.walk ≠ .idle) : (walkRequest s).msg.walk ≠ .idle := by
  unfold walkRequest
  split
  · exact h
  · split
    · exact absurd ‹_› h
    · exact h
    · exact h

theorem resumeWalk_walking (h : s.msg.walk ≠ .idle) : (resumeWalk s).msg.walk ≠ .idle := by
  unfold resumeWalk
  split
  · exact nofun
  · exact h
  · exact h

theorem releaseDeferred_walking (h : s.msg.walk ≠ .idle) : (releaseDeferred s).msg.walk ≠ .idle := by
  unfold releaseDeferred
  split
  · exact walkRequest_walking h
  · exact h

theorem departureEffect_walking (n : Notice) (res : NoticeResult) (h : s.msg.walk ≠ .idle) :
    (departureEffect n res s).msg.walk ≠ .idle := by
  cases res with
  | delivered => exact h
  | dropped => exact h
  | contactFailed => rw [departureEffect, alert, offerReport_msg]; exact h
  | withdrawn =>
    unfold departureEffect
    dsimp only
    split
    · exact h
    · split
      · exact walkRequest_walking (by rw [(clearListed_rest _ _ s).1]; exact h)
      · exact h

/-- A record that leaves does not end a walk. -/
theorem leaveQueue_walking (n : Notice) (res : NoticeResult) (h : s.msg.walk ≠ .idle) :
    (leaveQueue n res s).msg.walk ≠ .idle := by
  refine releaseDeferred_walking (resumeWalk_walking (departureEffect_walking n res ?_))
  rw [offerReport_msg]
  exact h

end

/-! ### The records that leave WITHDRAWN (R145) -/

/-- Whether a record waits for its withdrawal. -/
def pendingRecord (n : Notice) : Bool := n.state == .withdrawnPending

theorem leaveQueue_made (n : Notice) (s : State) : reportsMade 1 s (leaveQueue n .withdrawn s) :=
  leaveQueue_reportNumber n .withdrawn s

theorem removePending_pending {n : Notice} (h : pendingRecord n = true) (ns : List Notice) (s : State) :
    removePending (n :: ns) s = removePending ns (leaveQueue n .withdrawn s) := by
  rw [removePending, if_pos (eq_of_beq h)]

theorem removePending_other {n : Notice} (h : pendingRecord n = false) (ns : List Notice) (s : State) :
    removePending (n :: ns) s = removePending ns s := by
  rw [removePending, if_neg (ne_of_beq_false h)]

/-- The records waiting for their withdrawal leave, each with its report. -/
theorem removePending_leaves {l done : List Notice} {s : State} (queue : s.msg.notices = done ++ l)
    (settled : ∀ x ∈ done, pendingRecord x = false) :
    (removePending l s).msg.notices = done ++ l.filter (!pendingRecord ·)
      ∧ reportsMade (l.countP pendingRecord) s (removePending l s) := by
  induction l generalizing s done with
  | nil => exact ⟨queue, reportsMade_refl s⟩
  | cons n ns ih =>
    cases pending : pendingRecord n with
    | true =>
      have absent : n ∉ done := fun mem => by rw [settled n mem] at pending; cases pending
      have shorter : (leaveQueue n .withdrawn s).msg.notices = done ++ ns := by
        rw [leaveQueue_notices, queue, List.erase_append_right _ absent, List.erase_cons_head]
      obtain ⟨left, made⟩ := ih shorter settled
      rw [removePending_pending pending, left, List.filter_cons_of_neg (by simp [pending]),
        List.countP_cons_of_pos pending, Nat.add_comm]
      exact ⟨rfl, reportsMade_trans (leaveQueue_made n s) made⟩
    | false =>
      have longer : s.msg.notices = (done ++ [n]) ++ ns := by rw [queue]; simp
      obtain ⟨left, made⟩ := ih longer fun x hx => by
        rcases List.mem_append.mp hx with hx | hx
        · exact settled x hx
        · rw [List.mem_singleton.mp hx, pending]
      rw [removePending_other pending, left, List.filter_cons_of_pos (by simp [pending]),
        List.countP_cons_of_neg (by simp [pending])]
      exact ⟨by simp, made⟩

/-- Besides the records and the walk, nothing of the Message Unit changes. -/
theorem removePending_msg (l : List Notice) (s : State) :
    idleWalk { (removePending l s).msg with notices := [] } = idleWalk { s.msg with notices := [] } := by
  induction l generalizing s with
  | nil => rfl
  | cons n ns ih =>
    cases pending : pendingRecord n with
    | true =>
      have left := congrArg (fun m : MessageUnit => { m with notices := [] }) (leaveQueue_msg n .withdrawn s)
      rw [removePending_pending pending]
      exact (ih _).trans left
    | false => rw [removePending_other pending]; exact ih s

theorem removePending_walking (l : List Notice) {s : State} (h : s.msg.walk ≠ .idle) :
    (removePending l s).msg.walk ≠ .idle := by
  induction l generalizing s with
  | nil => exact h
  | cons n ns ih =>
    cases pending : pendingRecord n with
    | true => rw [removePending_pending pending]; exact ih (leaveQueue_walking n .withdrawn h)
    | false => rw [removePending_other pending]; exact ih h

theorem removePending_none {l : List Notice} (h : ∀ n ∈ l, pendingRecord n = false) (s : State) :
    removePending l s = s := by
  induction l with
  | nil => rfl
  | cons n ns ih => rw [removePending_other (h n (by simp))]; exact ih fun m hm => h m (by simp [hm])

/-! ### The Message Unit's restart (R145) -/

/-- A record back in QUEUED when it was OFFERED (log 16). -/
def requeued (n : Notice) : Notice := if n.state = .offered then { n with state := .queued, timer := 0 } else n

theorem pendingRecord_requeued (n : Notice) : pendingRecord (requeued n) = pendingRecord n := by
  unfold requeued
  split
  · rename_i offered
    simp [pendingRecord, offered]
  · rfl

theorem restartedNotice_eq (n : Notice) :
    restartedNotice n = if pendingRecord n then none else some (requeued n) := by
  unfold restartedNotice pendingRecord requeued
  cases n.state with
  | queued => rfl
  | offered => rfl
  | withdrawnPending => rfl

theorem filterMap_restartedNotice (l : List Notice) :
    l.filterMap restartedNotice = (l.map requeued).filter (!pendingRecord ·) := by
  induction l with
  | nil => rfl
  | cons n ns ih =>
    rw [List.filterMap_cons, restartedNotice_eq, List.map_cons, List.filter_cons, pendingRecord_requeued]
    cases pendingRecord n with
    | true => simpa using ih
    | false => simpa using ih

/-- The queue with its OFFERED records back in QUEUED. -/
def requeue (s : State) : State := s.modMsg fun m => { m with notices := m.notices.map requeued }

/-- The walk from its start, unless it is IDLE, and no credit. -/
def walkRestarted (m : MessageUnit) : MessageUnit :=
  match m.walk with
  | .idle => { m with creditLimit := 0 }
  | _ => { idleWalk m with creditLimit := 0, walk := .running }

theorem messageRestart_eq (s : State) : messageRestart s =
    (removePending (requeue s).msg.notices (requeue s)).modMsg walkRestarted := by
  have walk (u : State) : (u.modMsg fun m =>
      let m := { m with creditLimit := 0 }
      match m.walk with
      | .idle => m
      | .running => { m with walk := .running, cursor := 0, rewalk := false, deferral := false }
      | .paused => { m with walk := .running, cursor := 0, rewalk := false, deferral := false })
        = u.modMsg walkRestarted := by
    simp only [State.modMsg, walkRestarted]
    cases u.msg.walk with
    | idle => rfl
    | running => rfl
    | paused => rfl
  exact walk _

theorem walkRestarted_idle {m : MessageUnit} (h : m.walk = .idle) : walkRestarted m = { m with creditLimit := 0 } := by
  rw [walkRestarted, h]

theorem walkRestarted_walking {m : MessageUnit} (h : m.walk ≠ .idle) :
    walkRestarted m = { idleWalk m with creditLimit := 0, walk := .running } := by
  unfold walkRestarted
  split
  · exact absurd ‹_› h
  · rfl

theorem walkRestarted_rest (m : MessageUnit) :
    idleWalk { walkRestarted m with creditLimit := m.creditLimit } = idleWalk m := by
  unfold walkRestarted
  split
  · rfl
  · rfl

theorem walkRestarted_credit (m : MessageUnit) : (walkRestarted m).creditLimit = 0 := by
  unfold walkRestarted
  split
  · rfl
  · rfl

/-- What the Message Unit's restart leaves. -/
structure MessagesRestarted (s t : State) : Prop where
  work : NoticeWork undone s t
  notices : t.msg.notices = s.msg.notices.filterMap restartedNotice
  window : t.msg.windowOpen = s.msg.windowOpen
  number : t.msg.nextNumber = s.msg.nextNumber
  templates : t.msg.templates = s.msg.templates
  credit : t.msg.creditLimit = 0
  walking : s.msg.walk ≠ .idle →
    t.msg.walk = .running ∧ t.msg.cursor = 0 ∧ t.msg.rewalk = false ∧ t.msg.deferral = false
  idle : s.msg.walk = .idle → (∀ n ∈ s.msg.notices, n.state ≠ .withdrawnPending) → walkStands s t
  made : reportsMade (s.msg.notices.countP pendingRecord) s t

theorem messageRestart_restarts (s : State) : MessagesRestarted s (messageRestart s) := by
  obtain ⟨left, made⟩ := removePending_leaves (l := (requeue s).msg.notices) (done := []) (s := requeue s) rfl nofun
  have rest := removePending_msg (requeue s).msg.notices (requeue s)
  have count : (requeue s).msg.notices.countP pendingRecord = s.msg.notices.countP pendingRecord := by
    show (s.msg.notices.map requeued).countP pendingRecord = _
    rw [List.countP_map]
    exact List.countP_congr fun n _ => by rw [Function.comp_apply, pendingRecord_requeued]
  have walks := removePending_walking (requeue s).msg.notices (s := requeue s)
  have none_ := removePending_none (l := (requeue s).msg.notices) (s := requeue s)
  rw [count] at made
  have work := messageRestart_work s
  rw [messageRestart_eq] at work ⊢
  generalize removePending (requeue s).msg.notices (requeue s) = u at *
  have restarted := walkRestarted_rest u.msg
  refine ⟨work, ?_, ?_, ?_, ?_, walkRestarted_credit _, fun walking => ?_, fun idle settled => ?_, made⟩
  · have notices : (walkRestarted u.msg).notices = u.msg.notices := congrArg (·.notices) restarted
    rw [filterMap_restartedNotice]
    exact notices.trans left
  · exact (congrArg (·.windowOpen) restarted).trans (congrArg (·.windowOpen) rest)
  · exact (congrArg (·.nextNumber) restarted).trans (congrArg (·.nextNumber) rest)
  · exact (congrArg (·.templates) restarted).trans (congrArg (·.templates) rest)
  · show (walkRestarted u.msg).walk = .running ∧ (walkRestarted u.msg).cursor = 0
      ∧ (walkRestarted u.msg).rewalk = false ∧ (walkRestarted u.msg).deferral = false
    rw [walkRestarted_walking (walks walking)]
    exact ⟨rfl, rfl, rfl, rfl⟩
  · have same : u = requeue s := none_ fun n hn => by
      obtain ⟨m, hm, rfl⟩ := List.mem_map.mp hn
      rw [pendingRecord_requeued]
      exact beq_false_of_ne (settled m hm)
    have stands : walkRestarted u.msg = { (requeue s).msg with creditLimit := 0 } := by
      rw [same]; exact walkRestarted_idle idle
    show (walkRestarted u.msg).walk = _ ∧ (walkRestarted u.msg).cursor = _ ∧ (walkRestarted u.msg).rewalk = _
      ∧ (walkRestarted u.msg).deferral = _
    rw [stands]
    exact ⟨rfl, rfl, rfl, rfl⟩

end Sys2Proof.Machine
end

section
/-! PROOFS. The second stage of a retained restart (R170): every block restarts by its own rule, the Gate Unit and the
Message Unit in either order. -/

namespace Sys2Proof.Machine

open Sys2Proof

/-! ### The Gate and Message Units together -/

/-- What the restart of the Gate and Message Units leaves as it was, the roll's entries apart. -/
def exceptRestart (s : State) : State := { exceptNotices (exceptGates s) with bell := State.reset.bell, choices := 0 }

theorem exceptRestart_of_gates {s t : State} (h : exceptGates t = exceptGates s) :
    exceptRestart t = exceptRestart s :=
  congrArg (fun x : State => { exceptNotices x with bell := State.reset.bell, choices := 0 }) h

theorem exceptRestart_of_notices {s t : State} (h : exceptNotices t = exceptNotices s) :
    exceptRestart t = exceptRestart s :=
  have view (u : State) : exceptRestart u =
    { exceptGates (exceptNotices u) with bell := State.reset.bell, choices := 0 } := rfl
  by rw [view, view, h]

/-- What the restart of the Gate and Message Units leaves. -/
structure BlocksRestarted (s t : State) : Prop where
  rest : exceptRestart t = exceptRestart s
  roll : RollAgrees undone s.roll.roll t.roll.roll
  stations : t.line.stations = s.line.stations
  clear : GatesClear t
  modes : ∀ g, (gateAt t g).mode = (gateAt s g).mode
  counter : t.gate.referralCounter = s.gate.referralCounter
  notices : t.msg.notices = s.msg.notices.filterMap restartedNotice
  window : t.msg.windowOpen = s.msg.windowOpen
  number : t.msg.nextNumber = s.msg.nextNumber
  templates : t.msg.templates = s.msg.templates
  credit : t.msg.creditLimit = 0
  walking : s.msg.walk ≠ .idle →
    t.msg.walk = .running ∧ t.msg.cursor = 0 ∧ t.msg.rewalk = false ∧ t.msg.deferral = false
  idle : s.msg.walk = .idle → (∀ n ∈ s.msg.notices, n.state ≠ .withdrawnPending) → walkStands s t
  movements : s.gate.movements.length ≤ 1024 →
    t.gate.movements = (s.gate.movements ++ expiredMovements s).take 1024
      ∧ t.gate.movementsFull
          = (s.gate.movementsFull || decide (1024 < (s.gate.movements ++ expiredMovements s).length))
      ∧ reportsMade ((expiredMovements s).length + s.msg.notices.countP pendingRecord
          + if 1024 < (s.gate.movements ++ expiredMovements s).length ∧ s.gate.movementsFull = false then 1 else 0) s t

section

variable {s t u : State}

/-- The Gate Unit before the Message Unit. -/
theorem BlocksRestarted.of_gates_first (g : GatesRestarted s t) (m : MessagesRestarted t u) : BlocksRestarted s u := by
  have msg : t.msg = s.msg := msg_of_exceptGates g.rest
  have gate : u.gate = t.gate := m.work.gate
  have records (k : Nat) : gateAt u k = gateAt t k := by rw [gateAt, gate]; rfl
  refine
    { rest := (exceptRestart_of_notices m.work.rest).trans (exceptRestart_of_gates g.rest)
      roll := roll_of_exceptGates g.rest ▸ m.work.roll
      stations := m.work.stations.trans g.stations
      clear := g.clear.of_gates (congrArg (·.gates) gate)
      modes := fun k => (congrArg (·.mode) (records k)).trans (g.modes k)
      counter := (congrArg (·.referralCounter) gate).trans g.counter
      notices := msg ▸ m.notices, window := msg ▸ m.window, number := msg ▸ m.number, templates := msg ▸ m.templates
      credit := m.credit, walking := msg ▸ m.walking
      idle := fun idle settled => ?_
      movements := fun room => ?_ }
  · have stands := m.idle (by rw [msg]; exact idle) (by rw [msg]; exact settled)
    rwa [walkStands, msg] at stands
  · obtain ⟨movements, full, made⟩ := g.recorded room
    have later := m.made
    rw [msg] at later
    refine ⟨by rw [gate, movements], by rw [gate, full], ?_⟩
    rw [Nat.add_right_comm]
    exact reportsMade_trans made later

/-- The Message Unit before the Gate Unit. -/
theorem BlocksRestarted.of_messages_first (m : MessagesRestarted s t) (g : GatesRestarted t u) :
    BlocksRestarted s u := by
  have msg : u.msg = t.msg := msg_of_exceptGates g.rest
  have gate : t.gate = s.gate := m.work.gate
  have records (k : Nat) : gateAt t k = gateAt s k := by rw [gateAt, gate]; rfl
  have pupils (n : Nat) : pupilAt t n = pupilAt s n :=
    pupilAt_of_find ((m.work.roll.coarser (·.pupil) fun _ => rfl).find n)
  have expired : expiredMovements t = expiredMovements s := by
    rw [expiredMovements_eq, expiredMovements_eq]
    exact List.filterMap_congr fun k _ => expiredAt_of_same (records k) (congrArg (·.second) m.work.sched) pupils
  refine
    { rest := (exceptRestart_of_gates g.rest).trans (exceptRestart_of_notices m.work.rest)
      roll := roll_of_exceptGates g.rest ▸ m.work.roll
      stations := g.stations.trans m.work.stations
      clear := g.clear
      modes := fun k => (g.modes k).trans (congrArg (·.mode) (records k))
      counter := g.counter.trans (congrArg (·.referralCounter) gate)
      notices := msg ▸ m.notices, window := msg ▸ m.window, number := msg ▸ m.number, templates := msg ▸ m.templates
      credit := msg ▸ m.credit, walking := msg ▸ m.walking
      idle := fun idle settled => by rw [walkStands, msg]; exact m.idle idle settled
      movements := fun room => ?_ }
  obtain ⟨movements, full, made⟩ := g.recorded (by rw [gate]; exact room)
  rw [gate, expired] at movements full made
  refine ⟨movements, full, ?_⟩
  rw [Nat.add_comm (expiredMovements s).length, Nat.add_assoc]
  exact reportsMade_trans m.made made

/-- The Bell Sequencer, and how many orders have been settled, are no part of either unit's restart. -/
theorem BlocksRestarted.of_beside (beside : Beside s t) (h : BlocksRestarted t u) : BlocksRestarted s u := by
  obtain ⟨b, n, rfl⟩ : ∃ b n, s = { t with bell := b, choices := n } := ⟨s.bell, s.choices, beside.symm⟩
  exact ⟨h.rest, h.roll, h.stations, h.clear, h.modes, h.counter, h.notices, h.window, h.number, h.templates, h.credit,
    h.walking, h.idle, h.movements⟩

end

/-- The Gate and Message Units restart in either order (log 7). -/
theorem restartGateMessage_restarts (s : State) : BlocksRestarted s (restartGateMessage s) := by
  have chosen : Beside s s.countChoice := rfl
  unfold restartGateMessage
  split
  · dsimp only
    split
    · exact .of_beside chosen (.of_messages_first (messageRestart_restarts _) (gateRestart_restarts _))
    · exact .of_beside chosen (.of_gates_first (gateRestart_restarts _) (messageRestart_restarts _))
  · exact .of_gates_first (gateRestart_restarts s) (messageRestart_restarts _)

theorem restartGateMessage_bell (s : State) : (restartGateMessage s).bell = s.bell := by
  have gates (t : State) : (gateRestart t).bell = t.bell := bell_of_exceptGates (exceptGates_gateRestart t)
  have messages (t : State) : (messageRestart t).bell = t.bell := (messageRestart_work t).bell
  unfold restartGateMessage
  split
  · dsimp only
    split
    · rw [gates, messages]; rfl
    · rw [messages, gates]; rfl
  · rw [messages, gates]

/-! ### The second stage -/

/-- What the second stage of a restart leaves. -/
structure SecondStage (s t : State) : Prop where
  units : unitsRestarted s t
  sched : t.sched = { s.sched with build := none }
  bell : t.bell = (bellRestart s).bell
  office : quietOffice t.office = quietOffice s.office
  items : catchUpItems t = (s.line.stations, s.office.agent, s.roll.families, s.roll.excuses, 0)
  rollRest : { t.roll with roll := s.roll.roll } = s.roll
  roll : RollAgrees undone s.roll.roll t.roll.roll
  clear : GatesClear t

theorem BlocksRestarted.secondStage {s t : State} (h : BlocksRestarted s t) (bell : t.bell = (bellRestart s).bell) :
    SecondStage s ((registerRestart t).modSched fun u => { u with build := none }) := by
  have sched : t.sched = s.sched := congrArg (·.sched) h.rest
  have reg : t.reg = s.reg := congrArg (·.reg) h.rest
  have office : quietOffice t.office = quietOffice s.office := congrArg (·.office) h.rest
  have onSite : t.gate.onSiteCount = s.gate.onSiteCount := congrArg (·.gate.onSiteCount) h.rest
  have rollRest : { t.roll with roll := s.roll.roll } = s.roll :=
    congrArg (fun x : State => { x.roll with roll := s.roll.roll }) h.rest
  have families : t.roll.families = s.roll.families := congrArg (·.families) rollRest
  have excuses : t.roll.excuses = s.roll.excuses := congrArg (·.excuses) rollRest
  have stands : rollStands s t := ⟨families, excuses,
    (h.roll.coarser (fun e => { e with day := { e.day with flags := clearedDay.flags } }) fun _ => rfl).find⟩
  have walks : (registerRestart t).reg = { s.reg with walks := match s.reg.walks with
      | [] => []
      | w :: ws => { w with cursor := 0 } :: ws } := by
    rw [registerRestart, modReg_reg, reg]
    cases hw : s.reg.walks with
    | nil => dsimp only; rw [← hw]
    | cons w ws => rfl
  have units : unitsRestarted s (registerRestart t) := ⟨walks, h.notices, h.window, h.number, h.templates, h.walking,
    h.idle, h.modes, h.counter, onSite, h.movements, stands⟩
  refine
    { units := units
      sched := congrArg (fun u : ScheduleUnit => { u with build := none }) sched
      bell := bell, office := office, items := ?_, rollRest := rollRest, roll := h.roll, clear := h.clear }
  have agent : t.office.agent = s.office.agent := congrArg (·.agent) office
  show (t.line.stations, t.office.agent, t.roll.families, t.roll.excuses, t.msg.creditLimit) = _
  rw [h.stations, agent, families, excuses, h.credit]

theorem restartSecond_restarts (s : State) : SecondStage s (restartSecond s) := by
  have beside : Beside s (bellRestart s) := rfl
  exact (BlocksRestarted.of_beside beside (restartGateMessage_restarts (bellRestart s))).secondStage
    (restartGateMessage_bell _)

end Sys2Proof.Machine
end

section
/-! PROOFS. Catch-up (R172, R173): a trigger for each day missed, the settlement that starts or is found in
progress, and the silent run of an active plan. -/

namespace Sys2Proof.Machine

open Sys2Proof

/-! ### Triggers passed in a row (R15, R172) -/

/-- The schedule after triggers for the days of a list. -/
def endedDays (ds : List Nat) (u : ScheduleUnit) : ScheduleUnit := ds.foldl (fun u d => dayOver d u) u

theorem endedDays_eq {ds : List Nat} (some_ : ds ≠ []) (u : ScheduleUnit) : endedDays ds u = { u with
    active := none, cursor := .absent, staged := none, state := .ending, outstanding := u.outstanding + ds.length
    lastDay := ds.getLast some_ } := by
  induction ds generalizing u with
  | nil => exact absurd rfl some_
  | cons d ds ih =>
    cases ds with
    | nil => rfl
    | cons d' ds' =>
      have tail := ih (List.cons_ne_nil d' ds') (dayOver d u)
      have counts : u.outstanding + 1 + (d' :: ds').length = u.outstanding + (d :: d' :: ds').length := by
        simp only [List.length_cons]; omega
      rw [List.getLast_cons (List.cons_ne_nil d' ds'), ← counts]
      exact tail

theorem passTriggers_sched (ds : List Nat) (s : State) : (passTriggers ds s).sched = endedDays ds s.sched := by
  induction ds generalizing s with
  | nil => rfl
  | cons d ds ih => rw [passTriggers, ih, rolloverTrigger_sched]; rfl

/-- Whether a trigger passed now starts its settlement (R15). -/
def settlesAtOnce (s : State) : Bool := maySettle s && s.roll.heldTriggers.isEmpty

/-- Triggers for the days of a list, all of them held. -/
def triggersHeld (ds : List Nat) (s : State) : State :=
  { s with sched := endedDays ds s.sched, roll := { s.roll with heldTriggers := s.roll.heldTriggers ++ ds } }

theorem triggersHeld_nil (s : State) : triggersHeld [] s = s := by
  simp [triggersHeld, endedDays]

section

variable {s : State}

theorem settlesAtOnce_iff : settlesAtOnce s = true ↔
    s.roll.rollState = .normal ∧ s.roll.heldTriggers = [] ∧ s.reg.walks = [] := by
  simp only [settlesAtOnce, maySettle, rollingOver, walkRunning, Bool.and_eq_true, Bool.not_eq_true',
    bne_eq_false_iff_eq, List.isEmpty_iff, Bool.not_eq_false']
  tauto

/-- Once one trigger is held, those after it are. -/
theorem passTriggers_held (held : settlesAtOnce s = false) (ds : List Nat) :
    passTriggers ds s = triggersHeld ds s := by
  induction ds generalizing s with
  | nil => exact (triggersHeld_nil s).symm
  | cons d ds ih =>
    have same : settlesAtOnce (withSched (dayOver d s.sched) s) = settlesAtOnce s := rfl
    have one : rolloverTrigger d s = triggersHeld [d] s := by
      rw [held] at same
      rw [rolloverTrigger_eq, passTrigger]
      exact if_neg (Bool.eq_false_iff.mp same)
    have still : settlesAtOnce (triggersHeld [d] s) = false := by
      refine Bool.eq_false_iff.mpr fun h => ?_
      have empty : s.roll.heldTriggers ++ [d] = [] := (settlesAtOnce_iff.mp h).2.1
      simp at empty
    have lists : s.roll.heldTriggers ++ [d] ++ ds = s.roll.heldTriggers ++ d :: ds := by simp
    rw [passTriggers, one, ih still, triggersHeld, triggersHeld]
    simp only [triggersHeld, lists]
    rfl

/-- The settlement that a trigger starts (R15, R39). -/
def settlementStarted (d : Nat) (s : State) : State := startSettlement d (withSched (dayOver d s.sched) s)

theorem settlementStarted_ends (d : Nat) (s : State) : DayEnded
    { s with sched := dayOver d s.sched, roll := { s.roll with rollState := .rollover d, cursor := 0 } }
    (settlementStarted d s) := dayEndNotice_ends _

/-- The first trigger starts its settlement, and the others are held. -/
theorem passTriggers_starts (starts : settlesAtOnce s = true) (d : Nat) (ds : List Nat) :
    passTriggers (d :: ds) s = triggersHeld ds (settlementStarted d s) := by
  have first : rolloverTrigger d s = settlementStarted d s := by
    rw [rolloverTrigger_eq, passTrigger]
    exact if_pos starts
  have rolling : settlesAtOnce (settlementStarted d s) = false := by
    refine Bool.eq_false_iff.mpr fun h => ?_
    have normal := (settlesAtOnce_iff.mp h).1
    rw [(settlementStarted_ends d s).roll] at normal
    cases normal
  rw [passTriggers, first, passTriggers_held rolling]

end

/-! ### What the day's end leaves (R88, R108, R144) -/

/-- The day's movements, windows, walks and notices are gone. -/
def DayGone (t : State) : Prop :=
  t.gate.movements = [] ∧ t.gate.movementsFull = false ∧ t.reg.walks = [] ∧ t.reg.rooms = []
    ∧ (∀ x, formState t x = .notOpened) ∧ (∀ k, lessonAt t k = .notOpened) ∧ t.msg.notices = []
    ∧ t.msg.windowOpen = false ∧ t.msg.walk = .idle ∧ t.msg.rewalk = false ∧ t.msg.deferral = false

theorem DayEnded.dayGone {s t : State} (h : DayEnded s t) : DayGone t := by
  obtain ⟨movements, full, -⟩ := h.gateRest
  obtain ⟨notices, window, walk, rewalk, deferral⟩ := h.msg
  refine ⟨movements, full, by rw [h.reg], by rw [h.reg], fun x => ?_, fun k => ?_, notices, window, walk, rewalk,
    deferral⟩
  · rw [formState, h.reg]; cases x <;> rfl
  · rw [lessonAt, h.reg]; rfl

/-! ### The triggers of catch-up -/

/-- Catch-up begun. -/
def catchingUp (s : State) : State := s.modOffice fun o => { o with catchUp := true }

/-- The settlement in progress resumed, and the days' triggers passed. -/
def triggersPassed (s : State) : State := passTriggers (missedDays s) (resumeSettlement (catchingUp s))

theorem beginCatchUp_eq (s : State) : beginCatchUp s = if (triggersPassed s).sched.outstanding = 0
    then endCatchUp (catchUpEvents (triggersPassed s)) else triggersPassed s := rfl

section

variable {s : State}

theorem resumeSettlement_normal (normal : s.roll.rollState = .normal) : resumeSettlement s = s := by
  simp [resumeSettlement, rollingOver, normal]

theorem resumeSettlement_rolling (rolling : s.roll.rollState ≠ .normal) : resumeSettlement s = dayEndNotice s := by
  simp [resumeSettlement, rollingOver, rolling]

theorem resumeSettlement_sched (s : State) : (resumeSettlement s).sched = s.sched := by
  unfold resumeSettlement
  split
  · exact (dayEndNotice_ends s).sched
  · rfl

theorem resumeSettlement_roll (s : State) : (resumeSettlement s).roll = s.roll := by
  unfold resumeSettlement
  split
  · exact (dayEndNotice_ends s).roll
  · rfl

theorem triggersPassed_sched (s : State) : (triggersPassed s).sched = endedDays (missedDays s) s.sched := by
  rw [triggersPassed, passTriggers_sched, resumeSettlement_sched]; rfl

/-- Whether the first trigger starts its settlement (R172). -/
def catchUpSettles (s : State) : Prop :=
  missedDays s ≠ [] ∧ s.roll.rollState = .normal ∧ s.roll.heldTriggers = [] ∧ s.reg.walks = []

theorem triggersPassed_settles (h : catchUpSettles s) : ∃ d ds, missedDays s = d :: ds
    ∧ triggersPassed s = triggersHeld ds (settlementStarted d (catchingUp s)) := by
  obtain ⟨some_, normal, held, walks⟩ := h
  obtain ⟨d, ds, days⟩ := List.exists_cons_of_ne_nil some_
  have resumed : resumeSettlement (catchingUp s) = catchingUp s := resumeSettlement_normal normal
  have starts : settlesAtOnce (catchingUp s) = true := settlesAtOnce_iff.mpr ⟨normal, held, walks⟩
  exact ⟨d, ds, days, by rw [triggersPassed, days, resumed, passTriggers_starts starts]⟩

theorem triggersPassed_holds (h : ¬catchUpSettles s) :
    triggersPassed s = triggersHeld (missedDays s) (resumeSettlement (catchingUp s)) := by
  rw [triggersPassed]
  by_cases none_ : missedDays s = []
  · rw [none_, triggersHeld_nil]; rfl
  · refine passTriggers_held (Bool.eq_false_iff.mpr fun starts => h ?_) _
    obtain ⟨normal, held, walks⟩ := settlesAtOnce_iff.mp starts
    rw [resumeSettlement_roll] at normal held
    rw [resumeSettlement_normal normal] at walks
    exact ⟨none_, normal, held, walks⟩

theorem triggersPassed_dayGone (h : catchUpSettles s ∨ s.roll.rollState ≠ .normal) : DayGone (triggersPassed s) := by
  have held {t : State} (ds : List Nat) (gone : DayGone t) : DayGone (triggersHeld ds t) := gone
  by_cases settles : catchUpSettles s
  · obtain ⟨d, ds, -, passed⟩ := triggersPassed_settles settles
    rw [passed]
    exact held ds (settlementStarted_ends d _).dayGone
  · have rolling : (catchingUp s).roll.rollState ≠ .normal := h.resolve_left settles
    rw [triggersPassed_holds settles, resumeSettlement_rolling rolling]
    exact held _ (dayEndNotice_ends _).dayGone

theorem triggersPassed_quiet (h : ¬catchUpSettles s) (normal : s.roll.rollState = .normal) :
    triggersPassed s = triggersHeld (missedDays s) (catchingUp s) := by
  rw [triggersPassed_holds h, resumeSettlement_normal (s := catchingUp s) normal]

theorem triggersPassed_roll_settles (h : catchUpSettles s) : ∃ d ds, missedDays s = d :: ds
    ∧ (triggersPassed s).roll = { s.roll with rollState := .rollover d, cursor := 0, heldTriggers := ds } := by
  obtain ⟨d, ds, days, passed⟩ := triggersPassed_settles h
  have held : s.roll.heldTriggers = [] := h.2.2.1
  refine ⟨d, ds, days, ?_⟩
  rw [passed, triggersHeld, (settlementStarted_ends d _).roll]
  show ({ s.roll with rollState := .rollover d, cursor := 0
                      heldTriggers := s.roll.heldTriggers ++ ds } : RollStore) = _
  rw [held, List.nil_append]

theorem triggersPassed_roll_holds (h : ¬catchUpSettles s) :
    (triggersPassed s).roll = { s.roll with heldTriggers := s.roll.heldTriggers ++ missedDays s } := by
  rw [triggersPassed_holds h, triggersHeld, resumeSettlement_roll]
  rfl

theorem triggersPassed_caught (s : State) : CatchUpKept (catchingUp s) (triggersPassed s) :=
  (resumeSettlement_caught _).trans (passTriggers_caught _ _)

end

/-! ### The events of catch-up (R173) -/

section

variable {s : State}

/-- A silent run over no event only sets the last processed time. -/
theorem silentRun_noEvent {since upTo : Nat} (none_ : noEvent s upTo) :
    silentRun (some since) upTo s = setProcessed upTo s := by
  obtain ⟨unstaged, later⟩ := none_
  have stops : ∀ i e, nextEvent s = some (i, e) → upTo < e.time := fun i e next => by
    obtain ⟨cursor, here⟩ := nextEvent_eq_some.mp next
    exact later i e cursor here
  rw [silentRun, runEvents_stops false _ stops, swapAtEdge_none unstaged]

/-- Whether catch-up runs the day's events (R173). -/
def catchUpRuns (s : State) : Prop := s.sched.state = .active ∧ s.sched.lastSecond < s.sched.second

theorem catchUpEvents_still (still : catchUpRuns s → noEvent s s.sched.second) :
    catchUpEvents s = setProcessed s.sched.second s := by
  unfold catchUpEvents
  split
  · exact silentRun_noEvent (still ‹_›)
  · rfl

theorem catchUpEvents_oneEvent {i : Nat} {e : Event} (runs : catchUpRuns s)
    (one : oneEvent s i e s.sched.lastSecond s.sched.second) :
    catchUpEvents s = setProcessed s.sched.second (silentEvent i e s) := by
  unfold catchUpEvents
  exact (if_pos runs).trans (silentRun_oneEvent one)

end

end Sys2Proof.Machine
end

section
/-! PROOFS. POWER_UP with the retention-valid flag set (R170 to R173): the second stage of the restart, catch-up, and
what they leave together. -/

namespace Sys2Proof.Machine

open Sys2Proof

/-! ### Catch-up after the second stage -/

/-- What catch-up needs of the second stage `u` of the restart of a state `s`. -/
structure Restarted (s u : State) : Prop where
  units : unitsRestarted s u
  sched : u.sched = { s.sched with build := none }
  rollRest : { u.roll with roll := s.roll.roll } = s.roll
  number : s.office.reportNumber ≤ 65535 → u.office.reportNumber ≤ 65535

/-- Catch-up ends at once (R173). -/
abbrev CatchUpEnds (s : State) : Prop := daysMissed s = [] ∧ s.sched.outstanding = 0

section

variable {s u : State} (h : Restarted s u)

include h

theorem Restarted.missedDays : missedDays u = daysMissed s := by
  unfold Machine.missedDays daysMissed
  rw [h.sched]
  split
  · rfl
  · rfl

theorem Restarted.rollState : u.roll.rollState = s.roll.rollState := congrArg (·.rollState) h.rollRest

theorem Restarted.cursor : u.roll.cursor = s.roll.cursor := congrArg (·.cursor) h.rollRest

theorem Restarted.heldTriggers : u.roll.heldTriggers = s.roll.heldTriggers := congrArg (·.heldTriggers) h.rollRest

theorem Restarted.walks : u.reg.walks = [] ↔ s.reg.walks = [] := by
  rw [h.units.1]
  cases s.reg.walks with
  | nil => exact Iff.rfl
  | cons w ws => exact ⟨nofun, nofun⟩

/-- The first missed day's settlement starts. -/
theorem Restarted.settles_iff : catchUpSettles u ↔ daysMissed s ≠ [] ∧ s.roll.rollState = .normal
    ∧ s.roll.heldTriggers = [] ∧ s.reg.walks = [] := by
  rw [catchUpSettles, h.missedDays, h.rollState, h.heldTriggers, h.walks]

theorem Restarted.passed_sched :
    (triggersPassed u).sched = endedDays (daysMissed s) { s.sched with build := none } := by
  rw [triggersPassed_sched, h.missedDays, h.sched]

theorem Restarted.passed_none (none_ : daysMissed s = []) :
    (triggersPassed u).sched = { s.sched with build := none } := by
  rw [h.passed_sched, none_]; rfl

theorem Restarted.ends_iff : (triggersPassed u).sched.outstanding = 0 ↔ CatchUpEnds s := by
  by_cases none_ : daysMissed s = []
  · rw [h.passed_none none_]
    exact ⟨fun zero => ⟨none_, zero⟩, fun ends => ends.2⟩
  · rw [h.passed_sched, endedDays_eq none_]
    have some_ : 0 < (daysMissed s).length := List.length_pos_iff.mpr none_
    refine ⟨fun zero => ?_, fun ends => absurd ends.1 none_⟩
    have counts : s.sched.outstanding + (daysMissed s).length = 0 := zero
    omega

theorem Restarted.caught_ends (ends : CatchUpEnds s) :
    beginCatchUp u = endCatchUp (catchUpEvents (triggersPassed u)) := by
  rw [beginCatchUp_eq, if_pos (h.ends_iff.mpr ends)]

theorem Restarted.caught_waits (waits : ¬CatchUpEnds s) : beginCatchUp u = triggersPassed u := by
  rw [beginCatchUp_eq, if_neg fun zero => waits (h.ends_iff.mp zero)]

theorem Restarted.runs_iff (ends : CatchUpEnds s) : catchUpRuns (triggersPassed u) ↔ catchUpRuns s := by
  rw [catchUpRuns, h.passed_none ends.1]; rfl

theorem Restarted.noEvent_iff (ends : CatchUpEnds s) :
    noEvent (triggersPassed u) (triggersPassed u).sched.second ↔ noEvent s s.sched.second := by
  have sched := h.passed_none ends.1
  have events : activeEvents (triggersPassed u) = activeEvents s :=
    activeEvents_of_sched (by rw [sched]) (by rw [sched])
  rw [noEvent, events, sched]

/-- With no event to take, catch-up that ends sets the last processed time. -/
theorem Restarted.caught_still (ends : CatchUpEnds s) (still : catchUpRuns s → noEvent s s.sched.second) :
    beginCatchUp u = endCatchUp (setProcessed s.sched.second (triggersPassed u)) := by
  have second : (triggersPassed u).sched.second = s.sched.second := by rw [h.passed_none ends.1]
  rw [h.caught_ends ends, catchUpEvents_still, second]
  exact fun runs => (h.noEvent_iff ends).mpr (still ((h.runs_iff ends).mp runs))

/-- Without events, catch-up leaves what its triggers leave, the schedule and its own flag apart. -/
theorem Restarted.caught_rest (still : CatchUpEnds s → catchUpRuns s → noEvent s s.sched.second) :
    ∃ v b, beginCatchUp u = { triggersPassed u with
      sched := v, office := { (triggersPassed u).office with catchUp := b } } := by
  by_cases ends : CatchUpEnds s
  · exact ⟨_, _, h.caught_still ends (still ends)⟩
  · exact ⟨_, _, h.caught_waits ends⟩

/-! ### The clauses of catch-up -/

theorem Restarted.catchUp_flag : (beginCatchUp u).office.catchUp = decide ¬CatchUpEnds s := by
  by_cases ends : CatchUpEnds s
  · rw [h.caught_ends ends, decide_eq_false (not_not_intro ends)]; rfl
  · obtain ⟨-, -, -, -, kept⟩ := (triggersPassed_caught u).clock.control
    rw [h.caught_waits ends, decide_eq_true ends, kept]; rfl

theorem Restarted.sched_some (some_ : daysMissed s ≠ []) : (beginCatchUp u).sched = { s.sched with
    active := none, cursor := .absent, staged := none, state := .ending
    outstanding := s.sched.outstanding + (daysMissed s).length, lastDay := s.sched.day, build := none } := by
  have last : (daysMissed s).getLast some_ = s.sched.day := by
    have nonempty := List.length_pos_iff.mpr some_
    simp only [daysMissed, List.length_map, List.length_range] at nonempty
    simp only [daysMissed, List.getLast_map, List.getLast_range]
    split at nonempty
    · simp only [*, if_true]; omega
    · exact absurd nonempty (Nat.lt_irrefl 0)
  rw [h.caught_waits fun ends => some_ ends.1, h.passed_sched, endedDays_eq some_, last]

theorem Restarted.sched_waits (none_ : daysMissed s = []) (due : s.sched.outstanding ≠ 0) :
    (beginCatchUp u).sched = { s.sched with build := none } := by
  rw [h.caught_waits fun ends => due ends.2, h.passed_none none_]

theorem Restarted.sched_still (ends : CatchUpEnds s) (still : catchUpRuns s → noEvent s s.sched.second) :
    (beginCatchUp u).sched = { s.sched with
      lastSecond := s.sched.second, lastDay := s.sched.day, build := none } := by
  rw [h.caught_still ends still]
  show (setProcessed s.sched.second (triggersPassed u)).sched = _
  rw [setProcessed_sched, h.passed_none ends.1]

/-- Catch-up's events leave the settlement walk and the held triggers. -/
theorem Restarted.caught_roll : { (beginCatchUp u).roll with roll := (triggersPassed u).roll.roll } =
    (triggersPassed u).roll := by
  by_cases ends : CatchUpEnds s
  · rw [h.caught_ends ends]; exact catchUpEvents_entries _
  · rw [h.caught_waits ends]

theorem Restarted.roll_settles (starts : catchUpSettles u) :
    (beginCatchUp u).roll.rollState = .rollover (s.sched.lastDay + 1) ∧ (beginCatchUp u).roll.cursor = 0
      ∧ (beginCatchUp u).roll.heldTriggers = (daysMissed s).drop 1 := by
  obtain ⟨d, ds, days, roll⟩ := triggersPassed_roll_settles starts
  have rest := h.caught_roll
  rw [h.missedDays] at days
  have first : d = s.sched.lastDay + 1 := by
    have head : (daysMissed s)[0]? = some d := by rw [days]; rfl
    have inside : 0 < (daysMissed s).length := by rw [days]; exact Nat.zero_lt_succ _
    rw [List.getElem?_eq_getElem inside] at head
    simpa [daysMissed] using head.symm
  rw [roll] at rest
  exact ⟨(congrArg (·.rollState) rest).trans (by rw [first]), congrArg (·.cursor) rest,
    (congrArg (·.heldTriggers) rest).trans (by rw [days]; rfl)⟩

theorem Restarted.roll_holds (stays : ¬catchUpSettles u) :
    (beginCatchUp u).roll.rollState = s.roll.rollState ∧ (beginCatchUp u).roll.cursor = s.roll.cursor
      ∧ (beginCatchUp u).roll.heldTriggers = s.roll.heldTriggers ++ daysMissed s := by
  have rest := h.caught_roll
  rw [triggersPassed_roll_holds stays, h.missedDays] at rest
  exact ⟨(congrArg (·.rollState) rest).trans h.rollState, (congrArg (·.cursor) rest).trans h.cursor,
    (congrArg (·.heldTriggers) rest).trans (by rw [h.heldTriggers])⟩

theorem Restarted.units_still (still : CatchUpEnds s → catchUpRuns s → noEvent s s.sched.second)
    (stays : ¬catchUpSettles u) (normal : s.roll.rollState = .normal) : unitsRestarted s (beginCatchUp u) := by
  obtain ⟨v, b, caught⟩ := h.caught_rest still
  rw [caught, triggersPassed_quiet stays (h.rollState.trans normal)]
  exact h.units

theorem Restarted.dayGone_still (still : CatchUpEnds s → catchUpRuns s → noEvent s s.sched.second)
    (ends : catchUpSettles u ∨ s.roll.rollState ≠ .normal) : DayGone (beginCatchUp u) := by
  obtain ⟨v, b, caught⟩ := h.caught_rest still
  have gone := triggersPassed_dayGone (s := u) (by rw [h.rollState]; exact ends)
  rw [caught]
  exact gone

/-- Catch-up over one event takes it silent (R34, R173). -/
theorem Restarted.event {i : Nat} {e : Event} (ends : CatchUpEnds s) (runs : catchUpRuns s)
    (normal : s.roll.rollState = .normal) (one : oneEvent s i e s.sched.lastSecond s.sched.second)
    (number : s.office.reportNumber ≤ 65535) :
    ∃ v, unitsRestarted s v ∧ v.sched = { s.sched with build := none } ∧ eventEffect e.act v (beginCatchUp u)
      ∧ (beginCatchUp u).msg.notices = v.msg.notices ∧ (beginCatchUp u).gate.movements = v.gate.movements
      ∧ (beginCatchUp u).sched = { s.sched with
          cursor := cursorAfter (activeEvents s) i, lastSecond := s.sched.second, lastDay := s.sched.day
          build := none } := by
  have stays : ¬catchUpSettles u := fun settles => (h.settles_iff.mp settles).1 ends.1
  have passed : triggersPassed u = catchingUp u := by
    rw [triggersPassed_quiet stays (h.rollState.trans normal), h.missedDays, ends.1, triggersHeld_nil]
  have sched : (catchingUp u).sched = { s.sched with build := none } := h.sched
  have events : activeEvents (catchingUp u) = activeEvents s :=
    activeEvents_of_sched (by rw [sched]) (by rw [sched])
  have runsV : catchUpRuns (catchingUp u) := passed ▸ (h.runs_iff ends).mpr runs
  have oneV : oneEvent (catchingUp u) i e (catchingUp u).sched.lastSecond (catchingUp u).sched.second := by
    rw [oneEvent, events, sched]; exact one
  have taken := silentEvent_taken (s := catchingUp u) i e (h.number number)
  have caught : beginCatchUp u = endCatchUp (setProcessed s.sched.second (silentEvent i e (catchingUp u))) := by
    rw [h.caught_ends ends, passed, catchUpEvents_oneEvent runsV oneV, sched]
  rw [caught]
  refine ⟨catchingUp u, h.units, sched, eventEffect_of_result taken.effect rfl rfl rfl rfl rfl, taken.notices,
    congrArg (·.movements) taken.gateRest, ?_⟩
  show (setProcessed s.sched.second (silentEvent i e (catchingUp u))).sched = _
  rw [setProcessed_sched, silentEvent_sched, events, sched]

/-- The third stage of a restart (R172, R173). -/
theorem Restarted.catchesUp : restartsAndCatchesUp s (beginCatchUp u) := by
  have settles := h.settles_iff
  refine ⟨h.catchUp_flag, h.sched_some, h.sched_waits, fun ends still => ?_, fun starts => ?_, fun stays => ?_,
    fun still dayStays => ?_, fun still dayEnds => ?_, fun i e runs normal one number => ?_⟩
  · exact h.sched_still ends fun runs => still ⟨ends, runs⟩
  · exact h.roll_settles (settles.mpr starts)
  · exact h.roll_holds fun starts => stays (settles.mp starts)
  · refine h.units_still (fun ends runs => still ⟨ends, runs⟩) (fun starts => dayStays (.inl (settles.mp starts))) ?_
    exact Decidable.not_not.mp fun rolling => dayStays (.inr rolling)
  · exact h.dayGone_still (fun ends runs => still ⟨ends, runs⟩) (dayEnds.imp_left settles.mpr)
  · exact h.event runs.1 runs.2 normal one number

end

end Sys2Proof.Machine
end

section
/-! PROOFS. POWER_FAIL, POWER_UP and BACKUP_LOW together (R60, R168 to R173). -/

namespace Sys2Proof.Machine

open Sys2Proof

/-! ### The first stage of a restart (R158, R170) -/

/-- Main power back, with no request in hand. -/
def poweredOn (s : State) : State := s.modOffice fun o => { o with powered := true, agent := .idle, reply := none }

/-- The state that the second stage of a restart on the return of power finds. -/
def firstStage (s : State) : State := restartFirst (poweredOn s)

theorem powerRestart_eq (s : State) :
    powerRestart s = chooseAll (List.range 4) (beginCatchUp (restartSecond (firstStage s))) := rfl

/-- The first stage writes the line and the Office Agent, and makes no report. -/
theorem firstStage_rest (s : State) : ∃ line office, office.reportNumber = s.office.reportNumber
    ∧ firstStage s = { s with line := line, office := office } :=
  ⟨(firstStage s).line, (firstStage s).office, rfl, rfl⟩

theorem firstStage_station {n : Nat} (hn : n < 48) (s : State) :
    tabGet coldStation (firstStage s).line.stations n = { stationAt s n with presence := .present, misses := 0 } := by
  show tabGet coldStation (tabulate coldStation 48 fun n => { tabGet coldStation s.line.stations n with
    presence := .present, misses := 0 }) n = _
  rw [tabGet_tabulate, if_pos hn]
  rfl

/-- The second stage restarts the units of the state that power found. -/
theorem SecondStage.restarted {s u : State} (h : SecondStage (firstStage s) u)
    (number : s.office.reportNumber ≤ 65535 → u.office.reportNumber ≤ 65535) : Restarted s u := by
  obtain ⟨line, office, reports, first⟩ := firstStage_rest s
  have units : unitsRestarted s u := by
    obtain ⟨reg, notices, window, next, templates, walking, idle, modes, counter, onSite, movements, stands⟩ := h.units
    rw [first] at reg notices window next templates walking idle modes counter onSite movements stands
    refine ⟨reg, notices, window, next, templates, walking, idle, modes, counter, onSite, fun room => ?_, stands⟩
    obtain ⟨listed, full, made⟩ := movements room
    refine ⟨listed, full, ?_⟩
    rw [reportsMade, ← reports]
    exact made
  have sched := h.sched
  have rollRest := h.rollRest
  rw [first] at sched rollRest
  exact { units := units, sched := sched, rollRest := rollRest, number := number }

theorem secondStage_number {s : State} (number : s.office.reportNumber ≤ 65535) :
    (restartSecond (firstStage s)).office.reportNumber ≤ 65535 :=
  ((restartSecond_bounded (firstStage s)).reports ⟨Nat.zero_le _, min_le_left _ _, number⟩).2.2

/-! ### What the restart keeps -/

/-- Catch-up keeps what its triggers and events keep; its flag is its own. -/
theorem beginCatchUp_keeps (s : State) :
    ∃ w b, CatchUpKept (catchingUp s) w ∧ beginCatchUp s = w.modOffice fun o => { o with catchUp := b } := by
  have passed := triggersPassed_caught s
  rw [beginCatchUp_eq]
  split
  · exact ⟨_, false, passed.trans (catchUpEvents_caught _), rfl⟩
  · exact ⟨_, (triggersPassed s).office.catchUp, passed, rfl⟩

/-- The segments' choices write the segments alone (R153). -/
theorem chooseAll_rest (l : List Nat) (s : State) :
    { chooseAll l s with line := { (chooseAll l s).line with segments := s.line.segments } } = s := by
  have chosen (n : Nat) (t : State) (g : Table Segment) : { segmentChoose n t with
      line := { (segmentChoose n t).line with segments := g } } = { t with line := { t.line with segments := g } } := by
    unfold segmentChoose; dsimp only; split <;> rfl
  have all (l : List Nat) (t : State) (g : Table Segment) : { chooseAll l t with
      line := { (chooseAll l t).line with segments := g } } = { t with line := { t.line with segments := g } } := by
    induction l generalizing t with
    | nil => rfl
    | cons n ns ih => exact (ih _).trans (chosen n t g)
  exact all l s s.line.segments

theorem chooseAll_line (l : List Nat) (s : State) : ∃ segments,
    chooseAll l s = { s with line := { s.line with segments := segments } } := by
  refine ⟨(chooseAll l s).line.segments, ?_⟩
  exact congrArg (fun t : State => { t with line := { t.line with segments := (chooseAll l s).line.segments } })
    (chooseAll_rest l s)

/-- What a retained restart on the return of power leaves of the part's control, and of what no trigger or event
touches. -/
structure PowerRestored (s t : State) : Prop where
  powered : t.office.powered = true
  valid : t.office.retentionValid = s.office.retentionValid
  params : t.office.params = s.office.params
  agent : t.office.agent = .idle
  bell : t.bell = (bellRestart (firstStage s)).bell
  gates : GatesClear t
  stations : t.line.stations = (firstStage s).line.stations
  entries : RollAgrees markView s.roll.roll t.roll.roll
  families : t.roll.families = s.roll.families
  excuses : t.roll.excuses = s.roll.excuses
  day : t.sched.day = s.sched.day
  second : t.sched.second = s.sched.second
  clock : t.sched.clock = s.sched.clock
  credit : t.msg.creditLimit = 0

theorem powerRestart_restores (s : State) : PowerRestored s (powerRestart s) := by
  have stage := restartSecond_restarts (firstStage s)
  obtain ⟨w, b, kept, caught⟩ := beginCatchUp_keeps (restartSecond (firstStage s))
  obtain ⟨segments, chosen⟩ := chooseAll_line (List.range 4) (beginCatchUp (restartSecond (firstStage s)))
  rw [powerRestart_eq, chosen, caught]
  generalize restartSecond (firstStage s) = u at stage kept
  have control := kept.clock.control
  have items := kept.items.trans stage.items
  simp only [catchUpItems, Prod.mk.injEq] at items
  obtain ⟨stations, agent, families, excuses, credit⟩ := items
  have entries : RollAgrees markView s.roll.roll u.roll.roll := stage.roll.coarser markView fun _ => rfl
  have sched := stage.sched
  exact
    { powered := control.2.2.2.1.trans (congrArg (·.powered) stage.office)
      valid := control.2.1.trans (congrArg (·.retentionValid) stage.office)
      params := control.1.trans (congrArg (·.params) stage.office)
      agent := agent, bell := kept.clock.bell.trans stage.bell
      gates := kept.gates stage.clear
      stations := stations
      entries := entries.trans kept.roll
      families := families, excuses := excuses
      day := kept.clock.day.trans (congrArg (·.day) sched)
      second := kept.clock.second.trans (congrArg (·.second) sched)
      clock := kept.clock.clock.trans (congrArg (·.clock) sched)
      credit := credit }

/-- What follows a restart says nothing of the segments. -/
theorem restartsAndCatchesUp_of_line {s t : State} (line : LineUnit) (h : restartsAndCatchesUp s t) :
    restartsAndCatchesUp s { t with line := line } := h

theorem powerRestart_catchesUp (s : State) : restartsAndCatchesUp s (powerRestart s) := by
  have restarted := (restartSecond_restarts (firstStage s)).restarted secondStage_number
  obtain ⟨segments, chosen⟩ := chooseAll_line (List.range 4) (beginCatchUp (restartSecond (firstStage s)))
  rw [powerRestart_eq, chosen]
  exact restartsAndCatchesUp_of_line _ restarted.catchesUp

/-- Settles O60: POWER_FAIL and the plain cases by their own equations, and the retained restart by its stages. -/
theorem powerFailsAndReturns : Obligations.PowerFailsAndReturns := by
  intro s
  refine ⟨fun on => ⟨_, exec_powerFail on, rfl, fun r hr => relayAt_powerFailed hr, rfl, rfl,
    fun g hg => segmentAt_powerFailed hg, rfl⟩, exec_powerUp_cold, fun off valid => ?_, exec_powerUp_on,
    fun below => rfl⟩
  have restored := powerRestart_restores s
  have bell := restored.bell
  refine ⟨_, exec_powerUp_retained off valid, powerRestart_catchesUp s, restored.powered, restored.valid.trans valid,
    restored.agent, by rw [bell]; rfl, by rw [bell]; rfl, fun z => by rw [soundingAt, bell]; rfl, restored.gates,
    fun n hn => ?_, restored.entries.find, restored.families, restored.excuses, restored.day, restored.second,
    restored.clock, restored.params, restored.credit⟩
  rw [stationAt, restored.stations, firstStage_station hn]
  exact ⟨rfl, rfl⟩

end Sys2Proof.Machine
end

section
/-! PROOFS. The session of a tap, its band and its minutes late (R73 to R75). -/

namespace Sys2Proof.Machine

open Sys2Proof

/-! ### The session of a tap (R73) -/

section

variable {s : State} {T o : Nat} {x : Session}

/-- The session that has opened last is the tap's. -/
theorem tapSession_latest (opens : lookupTime s (.sessionOpen x) = some o) (before : o ≤ T)
    (others : ∀ y p, lookupTime s (.sessionOpen y) = some p → y = x ∨ p < o ∨ T < p) :
    tapSession s T = some (x, false) := by
  unfold tapSession
  cases x with
  | am =>
    rw [opens]
    cases other : lookupTime s (.sessionOpen .pm) with
    | none => simp [before]
    | some p =>
      obtain earlier | later := (others .pm p other).resolve_left nofun
      · simp [before, earlier.le.trans before, earlier.not_ge]
      · simp [before, later.not_ge]
  | pm =>
    rw [opens]
    cases other : lookupTime s (.sessionOpen .am) with
    | none => simp [before]
    | some p =>
      obtain earlier | later := (others .am p other).resolve_left nofun
      · simp [before, earlier.le.trans before, earlier.le]
      · simp [before, later.not_ge]

/-- Before every opening the tap is an early arrival in the session that opens first. -/
theorem tapSession_earliest (opens : lookupTime s (.sessionOpen x) = some o)
    (others : ∀ y p, lookupTime s (.sessionOpen y) = some p → T < p ∧ (y = x ∨ o < p)) :
    tapSession s T = some (x, true) := by
  have early := (others x o opens).1
  have closed : ¬o ≤ T := by omega
  unfold tapSession
  cases x with
  | am =>
    rw [opens]
    cases other : lookupTime s (.sessionOpen .pm) with
    | none => simp [early]
    | some p =>
      obtain ⟨after, first⟩ := others .pm p other
      have first : o < p := first.resolve_left nofun
      simp [closed, after.not_ge, first.le]
  | pm =>
    rw [opens]
    cases other : lookupTime s (.sessionOpen .am) with
    | none => simp [early]
    | some p =>
      obtain ⟨after, first⟩ := others .am p other
      have first : o < p := first.resolve_left nofun
      simp [closed, after.not_ge, first.not_ge]

theorem tapSession_none (closed : ∀ y, lookupTime s (.sessionOpen y) = none) : tapSession s T = none := by
  simp only [tapSession, closed]

end

/-! ### What is judged of an arrival (R74, R75) -/

section

variable {s : State} {gate T : Nat} {x : Session}

/-- The band of a tap that is not an early arrival in a session. -/
def tapBand (s : State) (gate T : Nat) (x : Session) : Band :=
  bandOf (lookupTime s (.sessionStart x)) (lookupTime s (.sessionClose x)) (graceAt s gate) T

theorem judgeArrival_session (session : tapSession s T = some (x, false)) : judgeArrival s gate T =
    ⟨some x, tapBand s gate T x, if tapBand s gate T x = .onTime then 0
      else minutesOf ((lookupTime s (.sessionStart x)).getD 0) (graceAt s gate) T⟩ := by
  simp only [judgeArrival, session]; rfl

theorem judgeArrival_early (session : tapSession s T = some (x, true)) :
    judgeArrival s gate T = ⟨some x, .onTime, 0⟩ := by simp only [judgeArrival, session]

theorem judgeArrival_none (session : tapSession s T = none) : judgeArrival s gate T = ⟨none, .onTime, 0⟩ := by
  simp only [judgeArrival, session]

variable {S C g t : Nat} {close : Option Nat}

theorem bandOf_onTime (h : t ≤ S + g) : bandOf (some S) close g t = .onTime := if_pos h

theorem bandOf_noClose (h : S + g < t) : bandOf (some S) none g t = .late := if_neg (Nat.not_le.mpr h)

theorem bandOf_late (h : S + g < t) (open_ : t ≤ C + g) : bandOf (some S) (some C) g t = .late := by
  simp only [bandOf, if_neg (Nat.not_le.mpr h), if_pos open_]

theorem bandOf_afterClose (h : S + g < t) (closed : C + g < t) : bandOf (some S) (some C) g t = .lateAfterClose := by
  simp only [bandOf, if_neg (Nat.not_le.mpr h), if_neg (Nat.not_le.mpr closed)]

/-- A late band has a session start, and a tap more than the grace after it. -/
theorem start_of_late {start : Option Nat} (late : bandOf start close g t ≠ .onTime) :
    ∃ S, start = some S ∧ S + g < t := by
  cases start with
  | none => exact absurd rfl late
  | some S => exact ⟨S, rfl, Nat.not_le.mp fun h => late (bandOf_onTime h)⟩

/-- The minutes of R75 are the ceiling of the seconds divided by 60. -/
theorem minutesOf_eq (S g t : Nat) : minutesOf S g t = min 240 (⌈((t - S - g : ℕ) : ℚ) / 60⌉.toNat) := by
  have ceiling := Rat.ceil_natCast_div_natCast (t - S - g) 60
  rw [Nat.cast_ofNat] at ceiling
  rw [minutesOf, ceiling]
  omega

theorem minutesOf_pos (h : S + g < t) : 1 ≤ minutesOf S g t := by unfold minutesOf; omega

end

/-- Settles O20: the session by its opening, the band by its start and close, and the minutes by the start. -/
theorem bandAndMinutesOfATap : Obligations.BandAndMinutesOfATap := by
  intro s gate T x g judged
  have session (h : tapSession s T = some (x, false)) := judgeArrival_session (gate := gate) h
  refine ⟨fun o opens => ⟨fun before others => ?_, fun others => ?_⟩, fun none => ?_, fun found => ?_, fun found => ?_,
    fun _ => rfl⟩
  · have latest := tapSession_latest opens before others
    exact ⟨latest, by simp only [judged, session latest]⟩
  · have earliest := tapSession_earliest opens others
    exact ⟨earliest, judgeArrival_early earliest⟩
  · exact ⟨tapSession_none none, judgeArrival_none (tapSession_none none)⟩
  · have band : judged.band = tapBand s gate T x := congrArg Judged.band (session found)
    rw [band, tapBand]
    refine ⟨fun none => by rw [none]; rfl, fun S start => ?_⟩
    rw [start]
    refine ⟨bandOf_onTime, fun late none => by rw [none]; exact bandOf_noClose late, fun C close => ?_⟩
    rw [close]
    exact ⟨bandOf_late, bandOf_afterClose, fun order closed => bandOf_afterClose (by omega) closed⟩
  · cases tap : tapSession s T with
    | none => simp [judged, judgeArrival_none tap] at found
    | some p =>
      obtain ⟨y, early⟩ := p
      cases early with
      | true =>
        rw [show judged = ⟨some y, .onTime, 0⟩ from judgeArrival_early tap]
        exact ⟨fun _ => rfl, fun late => absurd rfl late⟩
      | false =>
        simp only [judged, judgeArrival_session tap, Option.some.injEq] at found ⊢
        subst found
        refine ⟨fun onTime => if_pos onTime, fun late => ?_⟩
        obtain ⟨S, start, after⟩ := start_of_late late
        rw [if_neg late, start, Option.getD_some]
        exact ⟨S, rfl, by omega, minutesOf_eq S g T, minutesOf_pos after⟩

end Sys2Proof.Machine
end

section
/-! PROOFS. READ_MOVEMENTS, READ_GATES, READ_WINDOWS, READ_EXCUSES, READ_NOTICES and READ_PARAMS (R85, R87, R107, R122,
R142, R166). -/

namespace Sys2Proof.Machine

open Sys2Proof

section

variable {s : State}

theorem reqReadMovements_eq (start count : Nat) (s : State) : reqReadMovements start count s =
    if start ≤ 1023 ∧ count ≠ 0 then served (.movements s.sched.day s.gate.movements.length s.gate.movementsFull
      ((((List.range s.gate.movements.length).zip s.gate.movements).drop start).take (min count 12))) s
    else refuse .badArg s := by
  have bad : (1023 < start || count = 0) = true ↔ ¬(start ≤ 1023 ∧ count ≠ 0) := by simp; omega
  rw [reqReadMovements, if_congr bad rfl rfl, ite_not]

theorem reqReadWindows_eq (x : Session) (first count : Nat) (s : State) : reqReadWindows x first count s =
    if 1 ≤ count ∧ count ≤ 32 ∧ first + count ≤ 128 then served (.windows
      ((List.range count).map fun i => (first + i, formState s x, formAt s x (first + i)))
      ((List.range 10).map fun i => lessonAt s (i + 1)) s.reg.walks) s
    else refuse .badArg s := by
  have bad : (127 < first || count = 0 || 32 < count || 128 < first + count) = true
      ↔ ¬(1 ≤ count ∧ count ≤ 32 ∧ first + count ≤ 128) := by simp; omega
  rw [reqReadWindows, if_congr bad rfl rfl, ite_not]

/-- The refusal of a count of 0, a start past 255, or a bad selector (R122, R142). -/
theorem badSelection_iff (count start : Nat) (bad : Bool) : (count = 0 || 255 < start || bad) = true
    ↔ ¬(count ≠ 0 ∧ start ≤ 255 ∧ bad = false) := by
  cases bad <;> simp
  omega

/-- READ_EXCUSES' data for the entries selected (R122). -/
def excusesReply (s : State) (l : List Excuse) (start count : Nat) : ReplyData :=
  .excuses l.length (256 - s.roll.excuses.length) s.sched.day
    (((l.drop start).take (min count 12)).map fun e => (pupilAt s e.slot, e))

theorem reqReadExcuses_all (start count : Nat) (s : State) : reqReadExcuses .all start count s =
    if count ≠ 0 ∧ start ≤ 255 then served (excusesReply s s.roll.excuses start count) s else refuse .badArg s := by
  rw [reqReadExcuses, if_congr (badSelection_iff count start _) rfl rfl, ite_not]
  simp only [badExcuseSelector, and_true]
  rfl

theorem pupilInRange_iff (n : Nat) : pupilInRange n = true ↔ 1 ≤ n ∧ n ≤ 65000 := by
  simp only [pupilInRange, Bool.and_eq_true, bne_iff_ne, decide_eq_true_eq]
  rw [Config.maxPupil]
  omega

theorem badSelection_pupil (n start count : Nat) :
    (count = 0 || 255 < start || badExcuseSelector (.pupil n)) = true
      ↔ ¬(count ≠ 0 ∧ start ≤ 255 ∧ 1 ≤ n ∧ n ≤ 65000) := by
  rw [badSelection_iff, ← pupilInRange_iff, badExcuseSelector, Bool.not_eq_false']

theorem reqReadExcuses_pupil {n slot : Nat} {e : RollEntry} (found : findPupil s n = some (slot, e))
    (start count : Nat) : reqReadExcuses (.pupil n) start count s =
      if count ≠ 0 ∧ start ≤ 255 ∧ 1 ≤ n ∧ n ≤ 65000 then
        served (excusesReply s (s.roll.excuses.filter fun e => e.slot == slot) start count) s
      else refuse .badArg s := by
  have present : excuseSelectorMissing s (.pupil n) = false := by simp [excuseSelectorMissing, found]
  have named : selectExcuses s (.pupil n) = s.roll.excuses.filter fun e => e.slot == slot := by
    simp [selectExcuses, found]
  rw [reqReadExcuses, if_congr (badSelection_pupil n start count) rfl rfl, ite_not, present, named]
  rfl

theorem reqReadExcuses_missing {n : Nat} (missing : findPupil s n = none) (start count : Nat) :
    reqReadExcuses (.pupil n) start count s =
      if count ≠ 0 ∧ start ≤ 255 ∧ 1 ≤ n ∧ n ≤ 65000 then refuse .notFound s else refuse .badArg s := by
  have absent : excuseSelectorMissing s (.pupil n) = true := by simp [excuseSelectorMissing, missing]
  rw [reqReadExcuses, if_congr (badSelection_pupil n start count) rfl rfl, ite_not, absent]
  rfl

/-- READ_NOTICES' data for the records selected (R142). -/
def noticesReply (s : State) (l : List Notice) (start count : Nat) : ReplyData :=
  .notices
    { windowOpen := s.msg.windowOpen, walk := s.msg.walk, cursor := s.msg.cursor, rewalk := s.msg.rewalk
      deferral := s.msg.deferral, creditLimit := s.msg.creditLimit
      inFlight := (s.msg.notices.filter fun n => n.state != .queued).length
      count := s.msg.notices.length, nextNumber := s.msg.nextNumber, templates := s.msg.templates
      selected := l.length, records := (l.drop start).take (min count 6) }

theorem reqReadNotices_eq (sel : NoticeSelector) (start count : Nat) (s : State) : reqReadNotices sel start count s =
    if count ≠ 0 ∧ start ≤ 255 ∧ badNoticeSelector sel = false then
      served (noticesReply s (selectNotices s sel) start count) s
    else refuse .badArg s := by
  rw [reqReadNotices, if_congr (badSelection_iff count start _) rfl rfl, ite_not, noticesReply,
    ← List.countP_eq_length_filter]
  rfl

end

/-! ### Requests that answer or refuse -/

section

variable {h : UpHeader} {r : Request} {s : State} {d : ReplyData} {p : Prop} [Decidable p]

/-- A read that answers under a condition, and is refused otherwise, changes nothing but the reply. -/
theorem exec_read_or (take : takesRequests s) (ok : countsOk r = true) {st : Status}
    (hs : serve r (working s) = if p then served d (working s) else refuse st (working s)) :
    exec (commandOf h r) s = .next (if p then withReply h r .ok d s else withReply h r st .none s) := by
  by_cases hp : p
  · rw [if_pos hp] at hs ⊢
    exact exec_read take ok hs
  · rw [if_neg hp] at hs ⊢
    exact exec_refused take ok hs

/-- A request refused in one of two ways by a condition changes nothing. -/
theorem exec_refused_or (take : takesRequests s) (ok : countsOk r = true) {st st' : Status}
    (hs : serve r (working s) = if p then refuse st (working s) else refuse st' (working s)) :
    exec (commandOf h r) s = .next (if p then withReply h r st .none s else withReply h r st' .none s) := by
  by_cases hp : p
  · rw [if_pos hp] at hs ⊢
    exact exec_refused take ok hs
  · rw [if_neg hp] at hs ⊢
    exact exec_refused take ok hs

end

/-- Settles O23: each read's equation, on the state of a working agent. -/
theorem gateWindowAndListReadsAnswer : Obligations.GateWindowAndListReadsAnswer := by
  refine ⟨fun h s take => ⟨fun start count => ?_, ?_, fun x first count => ?_⟩, fun h s take =>
    ⟨fun start count => ?_, fun n start count => ?_, fun start count => ?_, fun f start count => ?_,
      fun k start count => ?_, ?_⟩⟩
  · exact exec_read_or (r := .readMovements start count) take rfl (reqReadMovements_eq start count (working s))
  · exact exec_read (r := .readGates) take rfl rfl
  · exact exec_read_or (r := .readWindows x first count) take rfl (reqReadWindows_eq x first count (working s))
  · exact exec_read_or (r := .readExcuses .all start count) take rfl (reqReadExcuses_all start count (working s))
  · cases found : findPupil s n with
    | none =>
      have found : findPupil (working s) n = none := found
      exact exec_refused_or (r := .readExcuses (.pupil n) start count) take rfl
        (reqReadExcuses_missing found start count)
    | some p =>
      have found : findPupil (working s) n = some (p.1, p.2) := found
      exact exec_read_or (r := .readExcuses (.pupil n) start count) take rfl
        (reqReadExcuses_pupil found start count)
  · refine exec_read_or (r := .readNotices .all start count) take rfl ?_
    have answers := reqReadNotices_eq .all start count (working s)
    simp only [badNoticeSelector, and_true] at answers
    exact answers
  · refine exec_read_or (r := .readNotices (.family f) start count) take rfl ?_
    have answers := reqReadNotices_eq (.family f) start count (working s)
    simp only [badNoticeSelector, decide_eq_false_iff_not, not_lt] at answers
    exact answers
  · refine exec_read_or (r := .readNotices (.number k) start count) take rfl ?_
    have answers := reqReadNotices_eq (.number k) start count (working s)
    simp only [badNoticeSelector, and_true] at answers
    exact answers
  · exact exec_read (r := .readParams) take rfl rfl

end Sys2Proof.Machine
end

section
/-! PROOFS. The Gate Unit's operations, each said once: reports offered, movements recorded (R83, R84), and a gate's
referral and memory; and REFERRAL_EXPIRY (R78, R81). -/

namespace Sys2Proof.Machine

open Sys2Proof

/-! ### Reports offered (R162, R163) -/

/-- So many reports have been offered, one at least: nothing else has changed, and a full queue has lost them all. -/
structure ReportsOffered (k : Nat) (s t : State) : Prop where
  rest : exceptReports t = exceptReports s
  made : reportsMade k s t
  full : 64 ≤ s.office.reports.length →
    t.office.reports = s.office.reports ∧ t.office.lost = min 65535 (s.office.lost + k)

section

variable {s t u : State} {j k : Nat}

theorem reportsOffered_offerReport (b : ReportBody) (s : State) : ReportsOffered 1 s (offerReport b s) where
  rest := exceptReports_offerReport s b
  made := offerReport_reportNumber b s
  full many := by
    have full : reportRoom s = false := decide_eq_false (Nat.not_lt.mpr many)
    simp only [offerReport, full, Bool.false_eq_true, if_false]
    exact ⟨rfl, rfl⟩

theorem reportsOffered_alert (a : Alert) (s : State) : ReportsOffered 1 s (alert a s) :=
  reportsOffered_offerReport (.alert a) s

theorem ReportsOffered.trans (h : ReportsOffered j s t) (m : ReportsOffered k t u) : ReportsOffered (j + k) s u where
  rest := m.rest.trans h.rest
  made := reportsMade_trans h.made m.made
  full many := by
    obtain ⟨reports, lost⟩ := h.full many
    obtain ⟨reports', lost'⟩ := m.full (reports ▸ many)
    exact ⟨reports'.trans reports, by omega⟩

theorem ReportsOffered.gate (h : ReportsOffered k s t) : t.gate = s.gate := congrArg (·.gate) h.rest

theorem ReportsOffered.segments (h : ReportsOffered k s t) : t.line.segments = s.line.segments :=
  congrArg (·.line.segments) h.rest

theorem ReportsOffered.stations (h : ReportsOffered k s t) : t.line.stations = s.line.stations :=
  congrArg (·.line.stations) h.rest

theorem ReportsOffered.sched (h : ReportsOffered k s t) : t.sched = s.sched := congrArg (·.sched) h.rest

theorem ReportsOffered.roll (h : ReportsOffered k s t) : t.roll = s.roll := congrArg (·.roll) h.rest

end

/-! ### Movements recorded (R83, R84) -/

/-- A movement at the end of the list, or, where the list is full, the MOVEMENTS_FULL flag set. -/
def listed (m : Movement) (s : State) : State :=
  if s.gate.movements.length < 1024 then s.modGate fun u => { u with movements := u.movements ++ [m] }
  else s.modGate fun u => { u with movementsFull := true }

section

variable (m : Movement) (s : State)

theorem listMovement_room (room : s.gate.movements.length < 1024) : listMovement m s = listed m s :=
  (if_pos room).trans (if_pos room).symm

theorem listMovement_flagged (many : 1024 ≤ s.gate.movements.length) (full : s.gate.movementsFull = true) :
    listMovement m s = listed m s := by
  have many : ¬s.gate.movements.length < 1024 := Nat.not_lt.mpr many
  have same : (s.modGate fun u => { u with movementsFull := true }) = s := by rw [← full]; rfl
  rw [listed, if_neg many, same]
  exact (if_neg many).trans (if_pos full)

theorem listMovement_alerts (many : 1024 ≤ s.gate.movements.length) (clear : s.gate.movementsFull = false) :
    listMovement m s = alert (.movementsFull s.sched.day s.sched.second) (listed m s) := by
  have many : ¬s.gate.movements.length < 1024 := Nat.not_lt.mpr many
  rw [listed, if_neg many]
  exact (if_neg many).trans (if_neg (by rw [clear]; exact Bool.false_ne_true))

/-- A movement recorded is listed, and makes its ARRIVAL report and the day's one MOVEMENTS_FULL alert. -/
theorem recordMovement_offers (slot : Nat) (x : Option Session) :
    ReportsOffered (movementReports s) (listed m s) (recordMovement m slot x s) := by
  unfold recordMovement movementReports
  by_cases room : s.gate.movements.length < 1024
  · rw [listMovement_room m s room, if_neg (by omega)]
    exact reportsOffered_offerReport _ _
  · have many : 1024 ≤ s.gate.movements.length := by omega
    cases full : s.gate.movementsFull with
    | true =>
      rw [listMovement_flagged m s many full, if_neg (by simp)]
      exact reportsOffered_offerReport _ _
    | false =>
      rw [listMovement_alerts m s many full, if_pos ⟨many, rfl⟩]
      exact (reportsOffered_alert _ _).trans (reportsOffered_offerReport _ _)

theorem listed_gate : (listed m s).gate.gates = s.gate.gates
    ∧ (listed m s).gate.referralCounter = s.gate.referralCounter
    ∧ (listed m s).gate.onSiteCount = s.gate.onSiteCount := by
  unfold listed; split <;> exact ⟨rfl, rfl, rfl⟩

theorem listed_rest : { listed m s with gate := s.gate } = s := by unfold listed; split <;> rfl

theorem listed_recorded : movementRecorded m s (listed m s) := by
  refine ⟨fun room => ?_, fun many => ?_⟩
  · rw [listed, if_pos room]; exact ⟨rfl, rfl⟩
  · rw [listed, if_neg (Nat.not_lt.mpr many)]; exact ⟨rfl, rfl⟩

end

/-- What a movement recorded leaves. -/
structure MovementMade (m : Movement) (s t : State) : Prop where
  recorded : movementRecorded m s t
  made : reportsMade (movementReports s) s t
  gates : t.gate.gates = s.gate.gates
  counter : t.gate.referralCounter = s.gate.referralCounter
  onSite : t.gate.onSiteCount = s.gate.onSiteCount
  rest : exceptReports { t with gate := s.gate } = exceptReports s
  full : 64 ≤ s.office.reports.length →
    t.office.reports = s.office.reports ∧ t.office.lost = min 65535 (s.office.lost + movementReports s)

theorem recordMovement_made (m : Movement) (slot : Nat) (x : Option Session) (s : State) :
    MovementMade m s (recordMovement m slot x s) := by
  have offers := recordMovement_offers m s slot x
  obtain ⟨gates, counter, onSite⟩ := listed_gate m s
  have rest := listed_rest m s
  have office : (listed m s).office = s.office := congrArg (·.office) rest
  exact
    { recorded := by rw [movementRecorded, offers.gate]; exact listed_recorded m s
      made := by rw [reportsMade, ← office]; exact offers.made
      gates := by rw [offers.gate, gates]
      counter := by rw [offers.gate, counter]
      onSite := by rw [offers.gate, onSite]
      rest := (congrArg (fun u : State => { u with gate := s.gate }) offers.rest).trans (congrArg exceptReports rest)
      full := by rw [← office]; exact offers.full }

section

variable {m : Movement} {s t : State}

theorem MovementMade.segments (h : MovementMade m s t) : t.line.segments = s.line.segments :=
  congrArg (·.line.segments) h.rest

theorem MovementMade.stations (h : MovementMade m s t) : t.line.stations = s.line.stations :=
  congrArg (·.line.stations) h.rest

theorem MovementMade.sched (h : MovementMade m s t) : t.sched = s.sched := congrArg (·.sched) h.rest

theorem MovementMade.roll (h : MovementMade m s t) : t.roll = s.roll := congrArg (·.roll) h.rest

theorem MovementMade.gateAt (h : MovementMade m s t) (g : Nat) : gateAt t g = gateAt s g := by
  rw [Machine.gateAt, h.gates]; rfl

/-- Whether a movement has been recorded depends on the lists of the two states. -/
theorem movementRecorded_of_same {s' t' : State} (h : movementRecorded m s t)
    (before : s'.gate.movements = s.gate.movements ∧ s'.gate.movementsFull = s.gate.movementsFull)
    (after : t'.gate.movements = t.gate.movements ∧ t'.gate.movementsFull = t.gate.movementsFull) :
    movementRecorded m s' t' := by
  simpa only [movementRecorded, before.1, before.2, after.1, after.2] using h

/-- How many reports a movement makes depends on the list. -/
theorem movementReports_of_same
    (same : t.gate.movements = s.gate.movements ∧ t.gate.movementsFull = s.gate.movementsFull) :
    movementReports t = movementReports s := by simp only [movementReports, same.1, same.2]

end

/-! ### A gate's referral and memory -/

theorem pupilAt_of_roll {s t : State} (h : t.roll = s.roll) (slot : Nat) : pupilAt t slot = pupilAt s slot := by
  rw [pupilAt, entryAt, h]; rfl

theorem segmentAt_of_segments {s t : State} (h : t.line.segments = s.line.segments) (seg : Nat) :
    segmentAt t seg = segmentAt s seg := by rw [segmentAt, h]; rfl

theorem gateAt_of_gate {s t : State} (h : t.gate = s.gate) (g : Nat) : gateAt t g = gateAt s g := by
  rw [gateAt, h]; rfl

/-- A gate that has remembered an answer (R68). -/
def remembering (token : Handle) (a : Answer) (second : Nat) (x : Gate) : Gate :=
  { x with memory := some ⟨token, a, second, 0⟩ }

section

variable (g : Nat) (s : State) (h : Nat)

theorem clearReferral_gateAt :
    gateAt (clearReferral g s) h = if h = g then withoutReferral (gateAt s h) else gateAt s h := by
  rw [clearReferral, gateAt_setGateAt]
  split
  · subst_vars; rfl
  · rfl

theorem remember_gateAt (token : Handle) (a : Answer) : gateAt (remember g token a s) h =
    if h = g then remembering token a s.sched.second (gateAt s h) else gateAt s h := by
  rw [remember, gateAt_setGateAt]
  split
  · subst_vars; rfl
  · rfl

end

/-! ### The end of a referral -/

/-- A frame handed writes its segment alone. -/
theorem handFrame_rest (seg : Nat) (f : FieldFrame) (s : State) : { handFrame seg f s with
    line := { (handFrame seg f s).line with segments := s.line.segments } } = s := by
  have chosen (t : State) : { segmentChoose seg t with
      line := { (segmentChoose seg t).line with segments := s.line.segments } }
        = { t with line := { t.line with segments := s.line.segments } } := by
    unfold segmentChoose; dsimp only; split <;> rfl
  unfold handFrame
  dsimp only
  split
  · exact chosen _
  · rfl

/-- What the answer to a held tap leaves of the state in which its referral is removed. -/
structure ReferralEnded (r : Referral) (a : Answer) (g : Nat) (s t : State) : Prop where
  answered : readerAnswered r a s t
  gateAt : ∀ h, gateAt t h = if h = g then withoutReferral (gateAt s h) else gateAt s h
  rest : { t with
    line := { t.line with segments := s.line.segments }, gate := { t.gate with gates := s.gate.gates } } = s

theorem answerHeld_ends (r : Referral) (a : Answer) (g : Nat) (s : State) :
    ReferralEnded r a g s (answerHeld r a (clearReferral g s)) where
  answered := readerAnswered_of_same (answerHeld_answers r a (clearReferral g s)) rfl rfl rfl
  gateAt h := by rw [gateAt_of_gate (answerHeld_gate r a _), clearReferral_gateAt]
  rest := congrArg (fun u : State => { u with gate := { u.gate with gates := s.gate.gates } })
    (handFrame_rest r.segment _ (clearReferral g s))

section

variable {r : Referral} {a : Answer} {g : Nat} {s t : State}

theorem ReferralEnded.roll (h : ReferralEnded r a g s t) : t.roll = s.roll := congrArg (·.roll) h.rest

theorem ReferralEnded.sched (h : ReferralEnded r a g s t) : t.sched = s.sched := congrArg (·.sched) h.rest

theorem ReferralEnded.office (h : ReferralEnded r a g s t) : t.office = s.office := congrArg (·.office) h.rest

theorem ReferralEnded.movements (h : ReferralEnded r a g s t) :
    t.gate.movements = s.gate.movements ∧ t.gate.movementsFull = s.gate.movementsFull :=
  ⟨congrArg (·.gate.movements) h.rest, congrArg (·.gate.movementsFull) h.rest⟩

end

/-! ### REFERRAL_EXPIRY (R81) -/

/-- The REFERRAL_EXPIRED movement of a gate's referral (R81). -/
def expiredMovement (s : State) (g : Nat) (r : Referral) : Movement :=
  { second := s.sched.second, gate := g, direction := r.direction, pupil := pupilAt s r.slot, kind := .referralExpired
    minutes := none, referral := some r.number }

/-- What the expiry of a gate's referral leaves. -/
structure ReferralExpired (g : Nat) (r : Referral) (s t : State) : Prop where
  answered : readerAnswered r .seeOffice s t
  gateAt : ∀ h, gateAt t h = if h = g then
    remembering r.token .seeOffice s.sched.second (withoutReferral (gateAt s h)) else gateAt s h
  recorded : movementRecorded (expiredMovement s g r) s t
  made : reportsMade (movementReports s + 1) s t
  rest : exceptGates t = exceptGates s

theorem recordExpired_made (g : Nat) (r : Referral) (s : State) :
    MovementMade (expiredMovement s g r) s (recordExpired g r s) := recordMovement_made _ _ _ s

/-- The referral's expiry in its order: the answer, the movement, the alert, the memory. -/
theorem expireReferral_expires (g : Nat) (r : Referral) (s : State) :
    ReferralExpired g r s (expireReferral g r s) := by
  have ended := answerHeld_ends r .seeOffice g s
  obtain ⟨u, hu⟩ : ∃ u, answerHeld r .seeOffice (clearReferral g s) = u := ⟨_, rfl⟩
  rw [hu] at ended
  have same : expiredMovement u g r = expiredMovement s g r := by
    simp only [expiredMovement, ended.sched, pupilAt_of_roll ended.roll]
  have moved := recordExpired_made g r u
  rw [same] at moved
  obtain ⟨v, hv⟩ : ∃ v, recordExpired g r u = v := ⟨_, rfl⟩
  rw [hv] at moved
  have told := reportsOffered_alert (.referralExpired g (pupilAt v r.slot) r.direction r.number) v
  obtain ⟨w, hw⟩ : ∃ w, alert (.referralExpired g (pupilAt v r.slot) r.direction r.number) v = w := ⟨_, rfl⟩
  rw [hw] at told
  have result : expireReferral g r s = remember g r.token .seeOffice w := by
    rw [← hw, ← hv, ← hu]; rfl
  have sched : w.sched = s.sched := by
    rw [told.sched, moved.sched, ended.sched]
  rw [result]
  refine ⟨?_, fun h => ?_, ?_, ?_, result ▸ exceptGates_expireReferral s g r⟩
  · refine readerAnswered_of_same ended.answered rfl rfl (segmentAt_of_segments ?_ _)
    exact told.segments.trans moved.segments
  · rw [remember_gateAt, gateAt_of_gate told.gate, moved.gateAt, ended.gateAt, sched]
    split <;> rfl
  · refine movementRecorded_of_same moved.recorded ⟨ended.movements.1.symm, ended.movements.2.symm⟩ ?_
    exact ⟨congrArg (·.movements) told.gate, congrArg (·.movementsFull) told.gate⟩
  · have made := reportsMade_trans moved.made told.made
    rw [movementReports_of_same ended.movements, reportsMade, ended.office] at made
    exact made

theorem takeReferralExpiry_eq {g : Nat} {r : Referral} {s : State} (held : (gateAt s g).referral = some r) :
    takeReferralExpiry g s = if r.timer = 0 then expireReferral g r s else s := by
  simp only [takeReferralExpiry, held]

/-- Settles O46: a referral whose timer stands at 0 expires, and one still counting stands. -/
theorem referralExpires : Obligations.ReferralExpires := by
  intro s g r on held
  have step : exec (.referralExpiry g) s = .next (takeReferralExpiry g s) := whenPowered_on on _
  rw [step, takeReferralExpiry_eq held]
  refine ⟨fun zero => ⟨expireReferral g r s, ?_⟩, fun counting => by rw [if_neg counting]⟩
  have expired := expireReferral_expires g r s
  rw [if_pos zero]
  obtain ⟨t, ht⟩ : ∃ t, expireReferral g r s = t := ⟨_, rfl⟩
  rw [ht] at expired ⊢
  have rest := expired.rest
  refine ⟨rfl, expired.answered, ?_, fun n other => ?_, expired.recorded,
    expired.made, roll_of_exceptGates rest, sched_of_exceptGates rest, bell_of_exceptGates rest,
    congrArg (·.reg) rest, msg_of_exceptGates rest, sameControl_of_exceptGates rest⟩
  · rw [expired.gateAt, if_pos rfl]; rfl
  · rw [expired.gateAt, if_neg other]

end Sys2Proof.Machine
end

section
/-! PROOFS. RESTART and CLEAR_ALL (R158, R169 to R173): the line and the plans through a restart's stages, and the
restart of a request by way of the stages of a restart on the return of power. -/

namespace Sys2Proof.Machine

open Sys2Proof

/-! ### The line and the plans through catch-up (R172, R173) -/

/-- The Line Unit without the frames of the uplink and of the gateway line. -/
def fieldLine (u : LineUnit) : LineUnit := { u with upSending := none, gwSending := none, gwWaiting := [] }

theorem NoticeWork.fieldLine {α : Type} {v : RollEntry → α} {s t : State} (h : NoticeWork v s t) :
    Machine.fieldLine t.line = Machine.fieldLine s.line :=
  (congrArg (fun u : State => Machine.fieldLine u.line) h.rest :)

/-- What catch-up keeps of the line while no gate holds a referral, and of the plans. -/
structure LineAndPlansKept (s t : State) : Prop where
  clear : GatesClear s → GatesClear t
  line : GatesClear s → fieldLine t.line = fieldLine s.line
  plans : t.sched.plans = s.sched.plans
  calendar : t.sched.calendar = s.sched.calendar
  build : t.sched.build = s.sched.build

section

variable {s t u : State}

theorem LineAndPlansKept.refl (s : State) : LineAndPlansKept s s := ⟨id, fun _ => rfl, rfl, rfl, rfl⟩

theorem LineAndPlansKept.trans (h : LineAndPlansKept s t) (k : LineAndPlansKept t u) : LineAndPlansKept s u :=
  ⟨k.clear ∘ h.clear, fun clear => (k.line (h.clear clear)).trans (h.line clear), k.plans.trans h.plans,
    k.calendar.trans h.calendar, k.build.trans h.build⟩

theorem LineAndPlansKept.of_same (gate : t.gate = s.gate) (line : fieldLine t.line = fieldLine s.line)
    (plans : t.sched.plans = s.sched.plans) (calendar : t.sched.calendar = s.sched.calendar)
    (build : t.sched.build = s.sched.build) : LineAndPlansKept s t :=
  ⟨fun clear => clear.of_gates (congrArg (·.gates) gate), fun _ => line, plans, calendar, build⟩

end

variable (s : State)

theorem eventSide_lineKept (a : EventAct) : LineAndPlansKept s (eventSide a s) := by
  have work := eventSide_work s a
  exact ⟨eventSide_gatesClear s a, fun _ => (congrArg (fun u : State => fieldLine u.line) work.rest :),
    congrArg (·.plans) work.sched, congrArg (·.calendar) work.sched, congrArg (·.build) work.sched⟩

theorem LineAndPlansKept.of_register {s t : State} (h : exceptRegister t = exceptRegister s) : LineAndPlansKept s t :=
  .of_same (congrArg (·.gate) h) (congrArg (fun u : State => fieldLine u.line) h :) (congrArg (·.sched.plans) h)
    (congrArg (·.sched.calendar) h) (congrArg (·.sched.build) h)

theorem swapTo_lineKept (p t : Nat) : LineAndPlansKept s (swapTo p t s) := by
  have planned : LineAndPlansKept s (withPlan p t s) := .of_same rfl rfl rfl rfl rfl
  exact planned.trans (.of_register (exceptRegister_swapTo p t s))

theorem modRoll_lineKept (f : RollStore → RollStore) : LineAndPlansKept s (s.modRoll f) := .of_same rfl rfl rfl rfl rfl

theorem catchUpEvents_lineKept : LineAndPlansKept s (catchUpEvents s) := by
  unfold catchUpEvents
  split
  · exact silentRun_relates .refl .trans (fun a s => eventSide_lineKept s a) (fun _ s => .of_same rfl rfl rfl rfl rfl)
      (fun p t s => swapTo_lineKept s p t) (fun t s => .of_same rfl rfl rfl rfl rfl) _ _ s
  · exact .of_same rfl rfl rfl rfl rfl

/-- The day's end answers no reader where no gate holds a referral (R88). -/
theorem gateDayEnd_line_of_clear {s : State} (clear : GatesClear s) : (gateDayEnd s).line = s.line := by
  have stands (l : List Nat) (small : ∀ g ∈ l, g < 8) : eachGate cancelAtDayEnd l s = s := by
    induction l with
    | nil => rfl
    | cons g gs ih =>
      have here : cancelAtDayEnd g s = s := by
        simp only [cancelAtDayEnd, (clear g (small g (List.mem_cons_self ..))).1]
      rw [eachGate, here]
      exact ih fun k hk => small k (List.mem_cons_of_mem _ hk)
  rw [gateDayEnd_line, stands _ fun g hg => List.mem_range.mp hg]

theorem dayEndNotice_lineKept : LineAndPlansKept s (dayEndNotice s) := by
  have kept := dayEndNotice_caught s
  have sched := (dayEndNotice_ends s).sched
  refine ⟨kept.gates, fun clear => ?_, congrArg (·.plans) sched, congrArg (·.calendar) sched, congrArg (·.build) sched⟩
  rw [dayEndNotice, (messageDayEnd_work _).fieldLine, registerDayEnd_line, gateDayEnd_line_of_clear clear]

theorem rolloverTrigger_lineKept (day : Nat) : LineAndPlansKept s (rolloverTrigger day s) := by
  have ended : LineAndPlansKept s (withSched (dayOver day s.sched) s) := .of_same rfl rfl rfl rfl rfl
  refine ended.trans ?_
  rw [rolloverTrigger_eq, passTrigger]
  split
  · have started := modRoll_lineKept (withSched (dayOver day s.sched) s) fun u =>
      { u with rollState := .rollover day, cursor := 0 }
    exact started.trans (dayEndNotice_lineKept _)
  · exact modRoll_lineKept _ _

theorem triggersPassed_lineKept : LineAndPlansKept s (triggersPassed s) := by
  have passed (l : List Nat) (t : State) : LineAndPlansKept t (passTriggers l t) := by
    induction l generalizing t with
    | nil => exact .refl t
    | cons d ds ih => exact (rolloverTrigger_lineKept t d).trans (ih _)
  have begun : LineAndPlansKept s (catchingUp s) := .of_same rfl rfl rfl rfl rfl
  refine begun.trans (.trans (t := resumeSettlement (catchingUp s)) ?_ (passed _ _))
  unfold resumeSettlement
  split
  · exact dayEndNotice_lineKept _
  · exact .refl _

theorem beginCatchUp_lineKept : LineAndPlansKept s (beginCatchUp s) := by
  have passed := triggersPassed_lineKept s
  rw [beginCatchUp_eq]
  split
  · exact passed.trans ((catchUpEvents_lineKept _).trans (.of_same rfl rfl rfl rfl rfl))
  · exact passed

/-! ### The line through the second stage -/

theorem gateRestart_fieldLine : fieldLine (gateRestart s).line = fieldLine s.line := by
  have cancelled (g : Nat) (s : State) : fieldLine (cancelAtRestart g s).line = fieldLine s.line := by
    unfold cancelAtRestart
    split
    · rfl
    · rename_i r _
      exact (congrArg (fun u : State => fieldLine u.line) (recordExpired_made g r (clearReferral g s)).rest :)
  exact (eachGate_keeps (fun s : State => fieldLine s.line) (f := forgetTap) (fun _ _ => rfl) _ _).trans
    (eachGate_keeps (fun s : State => fieldLine s.line) cancelled _ s)

theorem restartSecond_fieldLine : fieldLine (restartSecond s).line = fieldLine s.line := by
  have messages (t : State) : fieldLine (messageRestart t).line = fieldLine t.line := (messageRestart_work t).fieldLine
  show fieldLine (restartGateMessage (bellRestart s)).line = fieldLine (bellRestart s).line
  generalize bellRestart s = t
  unfold restartGateMessage
  split
  · dsimp only
    split
    · rw [gateRestart_fieldLine, messages]; rfl
    · rw [messages, gateRestart_fieldLine]; rfl
  · rw [messages, gateRestart_fieldLine]

/-! ### The segments' choices (R153) -/

/-- A segment with nothing queued and no exchange open. -/
def quietSegment (poll : List Byte) (g : Segment) : Prop := g.queue = [] ∧ g.exchange = none ∧ g.poll = poll

theorem considerPolls_poll (skipped : Byte → Bool) (fuel : Nat) (g : Segment) :
    (considerPolls skipped fuel g).poll = g.poll := by
  have advanced (g : Segment) : (advancePoll g).poll = g.poll := by unfold advancePoll; split <;> rfl
  induction fuel generalizing g with
  | zero => rfl
  | succ fuel ih =>
    unfold considerPolls
    split
    · rfl
    · split
      · exact (ih _).trans (advanced g)
      · exact advanced g

theorem chooseNext_quiet {skipped : Byte → Bool} {poll : List Byte} {g : Segment} (quiet : quietSegment poll g) :
    quietSegment poll (chooseNext skipped g) := by
  obtain ⟨queue, exchange, same⟩ := quiet
  have none_ : takeNext g.queue = none := by rw [queue]; rfl
  have turned : chooseNext skipped g = considerPolls skipped (8 * g.poll.length + 1) g := by
    simp only [chooseNext, none_]
  rw [turned]
  exact ⟨(considerPolls_queue ..).trans queue, (considerPolls_exchange ..).trans exchange,
    (considerPolls_poll ..).trans same⟩

theorem chooseAll_quiet {poll : List Byte} {n : Nat} (l : List Nat) (s : State)
    (quiet : quietSegment poll (segmentAt s n)) : quietSegment poll (segmentAt (chooseAll l s) n) := by
  induction l generalizing s with
  | nil => exact quiet
  | cons seg segs ih =>
    refine ih _ ?_
    by_cases here : n = seg
    · subst here
      unfold segmentChoose
      dsimp only
      split
      · exact quiet
      · rw [segmentAt_setSegmentAt, if_pos rfl]; exact chooseNext_quiet quiet
    · rw [segmentChoose_other here]; exact quiet

/-! ### The restart of a request (R171) -/

/-- The state that the second stage of RESTART finds. -/
def requestFirst (s : State) : State := restartFirst (working s)

theorem requestFirst_rest (s : State) : ∃ line office, office.reportNumber = s.office.reportNumber
    ∧ requestFirst s = { s with line := line, office := office } :=
  ⟨(requestFirst s).line, (requestFirst s).office, rfl, rfl⟩

theorem requestFirst_segment {g : Nat} (hg : g < 4) (s : State) :
    segmentAt (requestFirst s) g = restartSegment (segmentAt s g) := by
  show tabGet coldSegment (tabulate coldSegment 4 fun n => restartSegment (tabGet coldSegment s.line.segments n)) g = _
  rw [tabGet_tabulate, if_pos hg]
  rfl

theorem requestFirst_station {n : Nat} (hn : n < 48) (s : State) :
    stationAt (requestFirst s) n = { stationAt s n with presence := .present, misses := 0 } := firstStage_station hn s

/-- The second stage restarts the units of the state that the request found. -/
theorem SecondStage.requested {s u : State} (h : SecondStage (requestFirst s) u)
    (number : s.office.reportNumber ≤ 65535 → u.office.reportNumber ≤ 65535) : Restarted s u := by
  obtain ⟨line, office, reports, first⟩ := requestFirst_rest s
  have sched := h.sched
  have rollRest := h.rollRest
  have units := h.units
  rw [first] at sched rollRest units
  obtain ⟨reg, notices, window, next, templates, walking, idle, modes, counter, onSite, movements, stands⟩ := units
  refine ⟨⟨reg, notices, window, next, templates, walking, idle, modes, counter, onSite, fun room => ?_, stands⟩, sched,
    rollRest, number⟩
  obtain ⟨listed, full, made⟩ := movements room
  refine ⟨listed, full, ?_⟩
  rw [reportsMade, ← reports]
  exact made

theorem requestSecond_restarted (s : State) : Restarted s (restartSecond (requestFirst s)) :=
  (restartSecond_restarts (requestFirst s)).requested fun number =>
    ((restartSecond_bounded (requestFirst s)).reports ⟨Nat.zero_le _, min_le_left _ _, number⟩).2.2

/-- The retention-valid flag set again on a good backup supply. -/
def revalidated (s : State) : State :=
  s.modOffice fun o => { o with retentionValid := o.retentionValid || !o.backupLow }

/-- The state that RESTART leaves. -/
def requestRestarted (s : State) : State :=
  chooseAll (List.range 4) (revalidated (beginCatchUp (restartSecond (requestFirst s))))

theorem reqRestart_eq (s : State) : serve .restart (working s) = served
    (.restart (requestRestarted s).office.retentionValid (requestRestarted s).sched.state
      (requestRestarted s).office.catchUp (missedDays (restartSecond (requestFirst s))).length
      (requestFirst s).office.lost) (requestRestarted s) := by
  show reqRestart (working s) = _
  unfold reqRestart requestRestarted revalidated requestFirst
  dsimp only

/-- What RESTART leaves. -/
structure RequestRestarted (s t : State) : Prop where
  catchesUp : restartsAndCatchesUp s t
  valid : t.office.retentionValid = (s.office.retentionValid || !s.office.backupLow)
  params : t.office.params = s.office.params
  bell : t.bell = (bellRestart (requestFirst s)).bell
  gates : GatesClear t
  stations : t.line.stations = (requestFirst s).line.stations
  segments : ∀ g, g < 4 → quietSegment (segmentAt s g).poll (segmentAt t g)
  held : t.line.upHeld = none
  entries : RollAgrees markView s.roll.roll t.roll.roll
  families : t.roll.families = s.roll.families
  excuses : t.roll.excuses = s.roll.excuses
  plans : t.sched.plans = s.sched.plans
  calendar : t.sched.calendar = s.sched.calendar
  build : t.sched.build = none
  credit : t.msg.creditLimit = 0

/-- What follows a restart says of the Office Agent its catch-up flag and the number of its next report. -/
theorem restartsAndCatchesUp_of_office {s t : State} {office : OfficeAgent}
    (catchUp : office.catchUp = t.office.catchUp) (number : office.reportNumber = t.office.reportNumber)
    (line : LineUnit) (choices : Nat) (h : restartsAndCatchesUp s t) :
    restartsAndCatchesUp s { t with office := office, line := line, choices := choices } := by
  have same : office =
      { office with catchUp := t.office.catchUp, reportNumber := t.office.reportNumber } := by
    rw [← catchUp, ← number]
  rw [same]
  exact h

theorem requestRestarted_restarts (s : State) : RequestRestarted s (requestRestarted s) := by
  have stage := restartSecond_restarts (requestFirst s)
  have restarted := requestSecond_restarted s
  have second := restartSecond_fieldLine (requestFirst s)
  obtain ⟨u, hu⟩ : ∃ u, restartSecond (requestFirst s) = u := ⟨_, rfl⟩
  obtain ⟨w, b, kept, caught⟩ := beginCatchUp_keeps u
  have lines := beginCatchUp_lineKept u
  have catchesUp := restarted.catchesUp
  rw [hu] at stage restarted second catchesUp
  obtain ⟨v, hv⟩ : ∃ v, beginCatchUp u = v := ⟨_, rfl⟩
  rw [hv] at lines catchesUp
  have items := kept.items.trans stage.items
  simp only [catchUpItems, Prod.mk.injEq] at items
  obtain ⟨-, -, families, excuses, credit⟩ := items
  obtain ⟨params, valid, low, -, -⟩ := kept.clock.control
  have stageControl : sameControl (requestFirst s) u := sameControl_of_quiet stage.office
  obtain ⟨params', valid', low', -, -⟩ := stageControl
  have entries : RollAgrees markView s.roll.roll u.roll.roll := stage.roll.coarser markView fun _ => rfl
  have line : fieldLine v.line = fieldLine (requestFirst s).line := (lines.line stage.clear).trans second
  have quiet : ∀ g, g < 4 → quietSegment (segmentAt s g).poll (segmentAt (revalidated v) g) := fun g hg => by
    have same : segmentAt (revalidated v) g = segmentAt (requestFirst s) g :=
      (congrArg (fun l : LineUnit => tabGet coldSegment l.segments g) line :)
    rw [same, requestFirst_segment hg]
    exact ⟨rfl, rfl, rfl⟩
  have chosenQuiet (g : Nat) (hg : g < 4) := chooseAll_quiet (List.range 4) (revalidated v) (quiet g hg)
  obtain ⟨segments, chosen⟩ := chooseAll_line (List.range 4) (revalidated v)
  have result : requestRestarted s = chooseAll (List.range 4) (revalidated v) := by rw [requestRestarted, hu, hv]
  rw [chosen] at result chosenQuiet
  have caughtV : v = w.modOffice fun o => { o with catchUp := b } := hv.symm.trans caught
  rw [result]
  refine
    { catchesUp := restartsAndCatchesUp_of_office rfl rfl _ v.choices catchesUp
      valid := ?_, params := ?_, bell := ?_, gates := lines.clear stage.clear
      stations := congrArg (·.stations) line, segments := chosenQuiet, held := congrArg (·.upHeld) line
      entries := ?_, families := ?_, excuses := ?_
      plans := lines.plans.trans (congrArg (·.plans) stage.sched)
      calendar := lines.calendar.trans (congrArg (·.calendar) stage.sched)
      build := lines.build.trans (congrArg (·.build) stage.sched)
      credit := (congrArg (·.msg.creditLimit) caughtV).trans credit }
  · show (v.office.retentionValid || !v.office.backupLow) = _
    rw [caughtV]
    show (w.office.retentionValid || !w.office.backupLow) = _
    rw [valid, low]
    show (u.office.retentionValid || !u.office.backupLow) = _
    rw [valid', low']
    rfl
  · exact (congrArg (·.office.params) caughtV).trans (params.trans params')
  · exact (congrArg (·.bell) caughtV).trans (kept.clock.bell.trans stage.bell)
  · exact (congrArg (fun x : State => x.roll.roll) caughtV :) ▸ entries.trans kept.roll
  · exact (congrArg (·.roll.families) caughtV).trans families
  · exact (congrArg (·.roll.excuses) caughtV).trans excuses

/-! ### The two requests -/

section

variable {s t u : State}

/-- The reply's place is no part of what RESTART leaves. -/
theorem RequestRestarted.replied (h : RequestRestarted s u) (left : exceptReply t = exceptReply u) :
    RequestRestarted s t := by
  have same : t = { u with office := t.office, line := t.line, choices := t.choices } :=
    congrArg (fun x : State => { x with office := t.office, line := t.line, choices := t.choices }) left
  obtain ⟨params, valid, -, -, catchUp⟩ := sameControl_of_exceptReply left
  have segments := segments_of_exceptReply left
  rw [same]
  exact
    { catchesUp := restartsAndCatchesUp_of_office catchUp (reportNumber_of_exceptReply left) _ _ h.catchesUp
      valid := valid.trans h.valid, params := params.trans h.params, bell := h.bell, gates := h.gates
      stations := (congrArg (·.line.stations) left).trans h.stations
      segments := fun g hg => segmentAt_of_segments segments g ▸ h.segments g hg
      held := (congrArg (·.line.upHeld) left).trans h.held
      entries := h.entries, families := h.families, excuses := h.excuses, plans := h.plans, calendar := h.calendar
      build := h.build, credit := h.credit }

end

theorem exec_restart_restarts {h : UpHeader} {s : State} (take : takesRequests s) : ∃ t,
    exec (.restart h) s = .next t
      ∧ answered h .restart .ok (.restart (s.office.retentionValid || !s.office.backupLow) t.sched.state
          t.office.catchUp (daysMissed s).length (min 65535 (s.office.lost + s.office.reports.length))) t
      ∧ RequestRestarted s t := by
  obtain ⟨t, run, reply, left⟩ := exec_carried (h := h) (r := .restart) take rfl (reqRestart_eq s)
  have done := requestRestarted_restarts s
  have days := (requestSecond_restarted s).missedDays
  have lost : (requestFirst s).office.lost = min 65535 (s.office.lost + s.office.reports.length) := rfl
  generalize requestRestarted s = u at left reply done
  rw [days, lost, done.valid, ← sched_of_exceptReply left, ← (sameControl_of_exceptReply left).2.2.2.2] at reply
  exact ⟨t, run, reply, done.replied left⟩

/-- CLEAR_ALL's cold start is answered on a free line, or behind the frame being sent (R161, R169). -/
theorem exec_clearAll {h : UpHeader} {s : State} (take : takesRequests s) :
    exec (.clearAll h) s = .next (withReply h .clearAll .ok (.cleared (!s.office.backupLow)) (clearAll s)) := by
  have run : exec (.clearAll h) s = .next (requestArrives h .clearAll s) := whenPowered_on take.1 _
  have served : serve .clearAll (working s) = (clearAll s, .ok, .cleared (!s.office.backupLow)) := rfl
  rw [run, requestArrives_idle h .clearAll s take.2 rfl, served]
  exact congrArg _ (placeReply_quiet _ (clearAll s) _ rfl)

/-- Settles O40: RESTART by the stages of a retained restart, CLEAR_ALL by the cold start. -/
theorem restartAndClearAll : Obligations.RestartAndClearAll := by
  intro h s take
  obtain ⟨t, run, reply, done⟩ := exec_restart_restarts (h := h) take
  have bell := done.bell
  refine ⟨⟨t, run, reply, done.catchesUp, by rw [bell]; rfl, by rw [bell]; rfl, fun z => by rw [soundingAt, bell]; rfl,
    done.gates, fun n hn => ?_, done.segments, done.credit, done.build, done.held, done.entries.find, done.families,
    done.excuses, done.plans, done.calendar, done.params, done.valid⟩, exec_clearAll take⟩
  rw [stationAt, done.stations]
  have station := requestFirst_station hn s
  rw [stationAt] at station
  rw [station]
  exact ⟨rfl, rfl⟩

end Sys2Proof.Machine
end

section
/-! PROOFS. Arrivals and sign-outs, each said once (R12, R71, R76, R77, R82): what a change of one pupil's record leaves
of the rest of the part, and the record it leaves. -/

namespace Sys2Proof.Machine

open Sys2Proof

/-! ### A pupil's record changed -/

/-- What a change of one pupil's record leaves, the roll's entries apart: the on-site count is its own. -/
def exceptSite (s : State) : State := { exceptNotices s with gate := { s.gate with onSiteCount := 0 } }

/-- With no notice queued, no report is made and no notice is queued. -/
def StaysQuiet (s t : State) : Prop := s.msg.notices = [] → t.office = s.office ∧ t.msg.notices = []

/-- A pupil's number and card tokens. -/
def named (e : RollEntry) : Nat × List Handle := (e.pupil, e.tokens)

/-- A change of the record of the pupil in a slot, and what it notifies: other pupils' done flags apart, nothing else of
the roll, nothing of gates and movements, and with no notice queued no report. -/
structure PupilWork (slot : Nat) (s t : State) : Prop where
  rest : exceptSite t = exceptSite s
  others : ∀ k, k ≠ slot → (entryAt t k).map undone = (entryAt s k).map undone
  names : RollAgrees named s.roll.roll t.roll.roll
  quiet : StaysQuiet s t

/-- The pupil in a slot has an entry, its done flags apart. -/
def Holds (slot : Nat) (e : RollEntry) (s : State) : Prop := (entryAt s slot).map undone = some (undone e)

section

variable {slot : Nat} {e : RollEntry} {s t u : State}

theorem StaysQuiet.of_same (office : t.office = s.office) (msg : t.msg = s.msg) : StaysQuiet s t :=
  fun none_ => ⟨office, msg ▸ none_⟩

theorem StaysQuiet.trans (h : StaysQuiet s t) (k : StaysQuiet t u) : StaysQuiet s u := fun none_ =>
  have first := h none_
  have second := k first.2
  ⟨second.1.trans first.1, second.2⟩

theorem PupilWork.refl (slot : Nat) (s : State) : PupilWork slot s s :=
  ⟨rfl, fun _ _ => rfl, .refl _ _, .of_same rfl rfl⟩

theorem PupilWork.trans (h : PupilWork slot s t) (k : PupilWork slot t u) : PupilWork slot s u :=
  ⟨k.rest.trans h.rest, fun n hn => (k.others n hn).trans (h.others n hn), h.names.trans k.names, h.quiet.trans k.quiet⟩

theorem exceptSite_of_notices (h : exceptNotices t = exceptNotices s) : exceptSite t = exceptSite s :=
  congrArg (fun u : State => { u with gate := { u.gate with onSiteCount := 0 } }) h

/-- What notices a change passes on is part of it. -/
theorem NoticeWork.pupilWork (h : NoticeWork undone s t) (quiet : StaysQuiet s t) (slot : Nat) :
    PupilWork slot s t where
  rest := exceptSite_of_notices h.rest
  others k _ := h.roll.find k
  names := h.roll.coarser named fun _ => rfl
  quiet := quiet

theorem NoticeWork.holds (h : NoticeWork undone s t) (held : Holds slot e s) : Holds slot e t :=
  (h.roll.find slot).trans held

theorem PupilWork.pupilAt (h : PupilWork slot s t) : pupilAt t slot = pupilAt s slot :=
  pupilAt_of_find ((h.names.coarser (w := (·.pupil)) Prod.fst fun _ => rfl).find slot)

theorem Holds.of_entry (he : entryAt s slot = some e) : Holds slot e s := by rw [Holds, he]; rfl

theorem Holds.entry (held : Holds slot e s) : ∃ e', entryAt s slot = some e' ∧ undone e' = undone e :=
  Option.map_eq_some_iff.mp held

theorem Holds.of_roll (held : Holds slot e s) (roll : t.roll = s.roll) : Holds slot e t := by
  rw [Holds, entryAt, roll]; exact held

theorem Holds.markAt (held : Holds slot e s) (x : Session) : markAt s slot x = e.day.marks.get x := by
  obtain ⟨e', he', same⟩ := held.entry
  have marks : e'.day.marks = e.day.marks := congrArg (·.day.marks) same
  simp only [Machine.markAt, he', marks]

theorem Holds.siteAt (held : Holds slot e s) : siteAt s slot = e.day.onSite := by
  obtain ⟨e', he', same⟩ := held.entry
  rw [Machine.siteAt, he']
  exact congrArg (·.day.onSite) same

end

/-! ### Updates of one entry -/

section

variable {slot : Nat} {f : RollEntry → RollEntry} {e : RollEntry} {s : State}

theorem modEntry_pupilWork (keeps : ∀ e, named (f e) = named e) (s : State) : PupilWork slot s (modEntry slot f s) where
  rest := by rw [modEntry_rest]; rfl
  others k hk := by rw [entryAt_modEntry, if_neg hk]
  names := modEntry_agrees slot keeps s
  quiet := by rw [modEntry_rest]; exact .of_same rfl rfl

/-- An update that does not read the done flags. -/
theorem Holds.modEntry (held : Holds slot e s) (blind : ∀ a, undone (f a) = undone (f (undone a))) :
    Holds slot (f e) (modEntry slot f s) := by
  obtain ⟨e', he', same⟩ := held.entry
  rw [Holds, entryAt_modEntry, if_pos rfl, he']
  show some (undone (f e')) = _
  rw [blind, same, ← blind]

end

/-- An entry with another on-site state. -/
def withSite (st : OnSite) (e : RollEntry) : RollEntry := { e with day := { e.day with onSite := st } }

/-- An entry with its first arrival of the day. -/
def withArrival (t g : Nat) (e : RollEntry) : RollEntry :=
  { e with day := { e.day with arrival := e.day.arrival.orElse fun _ => some ⟨t, g⟩ } }

/-- An entry with minutes late added. -/
def withMinutes (minutes : Nat) (e : RollEntry) : RollEntry :=
  { e with day := { e.day with minutesLate := satAdd 240 e.day.minutesLate minutes } }

/-- An entry with a session's LATE due flag. -/
def withLateDue (x : Session) (e : RollEntry) : RollEntry :=
  { e with day := { e.day with flags := setStoredDue (.late x) e.day.flags } }

section

variable {slot : Nat} {e : RollEntry} {s : State}

/-! ### The on-site state (R12, R86) -/

theorem setOnSite_of_entry (he : entryAt s slot = some e) (st : OnSite) :
    setOnSite slot st s = adjustOnSite e.day.onSite st (modEntry slot (withSite st) s) := by
  simp only [setOnSite, he]
  rfl

theorem setOnSite_of_empty (he : entryAt s slot = none) (st : OnSite) : setOnSite slot st s = s := by
  simp only [setOnSite, he]

theorem adjustOnSite_pupilWork (old new : OnSite) (s : State) : PupilWork slot s (adjustOnSite old new s) := by
  rw [adjustOnSite_eq]
  exact ⟨rfl, fun _ _ => rfl, .refl _ _, .of_same rfl rfl⟩

theorem setOnSite_pupilWork (st : OnSite) (s : State) : PupilWork slot s (setOnSite slot st s) := by
  cases he : entryAt s slot with
  | none => rw [setOnSite_of_empty he]; exact .refl slot s
  | some e =>
    rw [setOnSite_of_entry he]
    exact (modEntry_pupilWork (f := withSite st) (fun _ => rfl) s).trans (adjustOnSite_pupilWork _ _ _)

theorem Holds.setOnSite (held : Holds slot e s) (st : OnSite) :
    Holds slot (withSite st e) (setOnSite slot st s) := by
  obtain ⟨e', he', -⟩ := held.entry
  rw [setOnSite_of_entry he']
  exact (held.modEntry fun _ => rfl).of_roll (adjustOnSite_roll _ _ _)

/-! ### What a mark's change notifies (R132) -/

theorem walkRequest_quiet (s : State) : StaysQuiet s (walkRequest s) := fun none_ =>
  ⟨congrArg (·.office) (exceptWalk_walkRequest s), (congrArg (·.msg.notices) (exceptWalk_walkRequest s)).trans none_⟩

theorem modEntry_quiet (slot : Nat) (f : RollEntry → RollEntry) (s : State) : StaysQuiet s (modEntry slot f s) := by
  rw [modEntry_rest]; exact .of_same rfl rfl

theorem withdraw_quiet (slot : Nat) (r : DueReason) (s : State) : StaysQuiet s (withdraw slot r s) := fun none_ => by
  rw [withdraw, none_]
  exact modEntry_quiet slot _ s none_

theorem markChanged_quiet (slot : Nat) (x : Session) (old new : MarkCode) (s : State) :
    StaysQuiet s (markChanged slot x old new s) := by
  unfold markChanged
  extract_lets t u
  have absence : StaysQuiet s t := by
    unfold t
    split
    · exact withdraw_quiet slot _ s
    · exact .of_same rfl rfl
  have late : StaysQuiet t u := by
    unfold u
    split
    · exact withdraw_quiet slot _ t
    · exact .of_same rfl rfl
  split
  · exact (absence.trans late).trans (walkRequest_quiet u)
  · exact absence.trans late

/-! ### Mark requests (R8, R9) -/

/-- What a mark request makes of a mark (R8, R9). -/
def mergedMark (k : MarkRequest) (m : Mark) : Mark :=
  match mergeCode k m with
  | some c => ⟨c, some (requestSource k)⟩
  | none => m

theorem requestMark_of_empty (he : entryAt s slot = none) (x : Session) (k : MarkRequest) :
    requestMark slot x k s = s := by simp only [requestMark, he]

/-- A request that is not REG_ABSENT and is not merged changes nothing (R9, R10). -/
theorem requestMark_unmerged (he : entryAt s slot = some e) {x : Session} {k : MarkRequest} (seen : k ≠ .regAbsent)
    (hk : mergeCode k (e.day.marks.get x) = none) : requestMark slot x k s = s := by
  rw [requestMark_none he hk, if_neg]
  simp [missingOnSite, seen]

theorem writeMark_pupilWork (x : Session) (old new : Mark) (s : State) :
    PupilWork slot s (writeMark slot x old new s) := by
  have written : PupilWork slot s (modEntry slot (withMark x new) s) :=
    modEntry_pupilWork (f := withMark x new) (fun _ => rfl) s
  have marks : PupilWork slot s (marked slot x new s) := by
    unfold marked arriveOffSite
    split
    · split
      · exact written
      · split
        · exact written.trans (setOnSite_pupilWork _ _)
        · exact written
    · exact written
  rw [writeMark_eq]
  split
  · exact marks
  · exact marks.trans ((markChanged_work _ slot x _ _).pupilWork (markChanged_quiet slot x _ _ _) slot)

theorem requestMark_pupilWork (x : Session) {k : MarkRequest} (seen : k ≠ .regAbsent) (s : State) :
    PupilWork slot s (requestMark slot x k s) := by
  cases he : entryAt s slot with
  | none => rw [requestMark_of_empty he]; exact .refl slot s
  | some e =>
    cases hk : mergeCode k (e.day.marks.get x) with
    | none => rw [requestMark_unmerged he seen hk]; exact .refl slot s
    | some c => rw [requestMark_some he hk]; exact writeMark_pupilWork x _ _ s

/-- The entry of a mark request that brings nobody on site. -/
theorem Holds.requestMark (held : Holds slot e s) (x : Session) {k : MarkRequest} (seen : k ≠ .regAbsent)
    (stays : ¬bringsIn (mergedMark k (e.day.marks.get x)) e) :
    Holds slot (withMark x (mergedMark k (e.day.marks.get x)) e) (requestMark slot x k s) := by
  obtain ⟨e', he', same⟩ := held.entry
  have marks : e'.day.marks = e.day.marks := congrArg (·.day.marks) same
  have site : e'.day.onSite = e.day.onSite := congrArg (·.day.onSite) same
  unfold mergedMark at stays ⊢
  rw [← marks] at stays ⊢
  cases hk : mergeCode k (e'.day.marks.get x) with
  | none =>
    have unchanged : withMark x (e'.day.marks.get x) e = e := by
      rw [marks]; cases x <;> rfl
    rw [requestMark_unmerged he' seen hk, unchanged]
    exact held
  | some c =>
    rw [hk] at stays
    have here : ¬bringsIn ⟨c, some (requestSource k)⟩ e' := fun h => stays ⟨h.1, site.symm.trans h.2⟩
    have written : Holds slot (withMark x ⟨c, some (requestSource k)⟩ e)
        (marked slot x ⟨c, some (requestSource k)⟩ s) := by
      rw [Holds, ((marked_spec he' x _).2.1 here).1]
      exact congrArg (fun a => some (withMark x ⟨c, some (requestSource k)⟩ a)) same
    rw [requestMark_some he' hk]
    exact (markNotified_work slot x (e'.day.marks.get x).code c _).holds written

/-! ### The LATE due flag (R77) -/

theorem setDue_of_entry (he : entryAt s slot = some e) (x : Session) : setDue slot (.late x) s =
    if e.day.flags.dueLate.get x = true then s else walkRequest (modEntry slot (withLateDue x) s) := by
  simp only [setDue, he]
  rfl

theorem setDue_pupilWork (x : Session) (s : State) : PupilWork slot s (setDue slot (.late x) s) := by
  cases he : entryAt s slot with
  | none => simp only [setDue, he]; exact .refl slot s
  | some e =>
    rw [setDue_of_entry he]
    split
    · exact .refl slot s
    · exact (modEntry_pupilWork (f := withLateDue x) (fun _ => rfl) s).trans
        ((walkRequest_work _).pupilWork (walkRequest_quiet _) slot)

theorem withLateDue_of_set {x : Session} (due : e.day.flags.dueLate.get x = true) : withLateDue x e = e := by
  have same : e.day.flags.dueLate.set x true = e.day.flags.dueLate := by
    rw [← due]; cases x <;> rfl
  simp only [withLateDue, setStoredDue, same]

theorem Holds.setDue (held : Holds slot e s) (x : Session) :
    Holds slot (withLateDue x e) (setDue slot (.late x) s) := by
  obtain ⟨e', he', same⟩ := held.entry
  have flags : e'.day.flags.dueLate = e.day.flags.dueLate := congrArg (·.day.flags.dueLate) same
  rw [setDue_of_entry he']
  split
  · rename_i due
    rw [withLateDue_of_set (flags ▸ due)]
    exact held
  · exact (walkRequest_work _).holds (held.modEntry fun _ => rfl)

end

/-! ### A movement of the pupil (R83) -/

/-- What an arrival or a sign-out leaves: its movement, and a change of the pupil's record. -/
structure PupilMoved (m : Movement) (slot : Nat) (s t : State) : Prop where
  recorded : movementRecorded m s t
  made : s.msg.notices = [] → reportsMade (movementReports s) s t
  rest : exceptSite { t with gate := { t.gate with
    movements := s.gate.movements, movementsFull := s.gate.movementsFull } } = exceptSite s
  others : ∀ k, k ≠ slot → (entryAt t k).map undone = (entryAt s k).map undone
  names : RollAgrees named s.roll.roll t.roll.roll

section

variable {slot : Nat} {m : Movement} {s t u v : State}

theorem PupilWork.movements (h : PupilWork slot s t) :
    t.gate.movements = s.gate.movements ∧ t.gate.movementsFull = s.gate.movementsFull :=
  ⟨congrArg (·.gate.movements) h.rest, congrArg (·.gate.movementsFull) h.rest⟩

theorem MovementMade.site (h : MovementMade m s t) : exceptSite { t with gate := { t.gate with
    movements := s.gate.movements, movementsFull := s.gate.movementsFull } } = exceptSite s := by
  have gate : ({ t.gate with
      onSiteCount := 0, movements := s.gate.movements, movementsFull := s.gate.movementsFull } : GateUnit)
        = { s.gate with onSiteCount := 0 } := by
    simp only [h.gates, h.counter]
  have left : { exceptNotices t with gate := s.gate } = exceptNotices s :=
    (congrArg (fun u : State => exceptNotices u) h.rest :)
  have others := congrArg (fun u : State => { u with gate := { s.gate with onSiteCount := 0 } }) left
  exact (congrArg (fun x : GateUnit => { exceptNotices t with gate := x }) gate).trans others

/-- A change of the record, a movement, and a change of the record. -/
theorem PupilWork.moved (before : PupilWork slot s t) (moved : MovementMade m t u) (after : PupilWork slot u v) :
    PupilMoved m slot s v where
  recorded := movementRecorded_of_same moved.recorded ⟨before.movements.1.symm, before.movements.2.symm⟩ after.movements
  made none_ := by
    obtain ⟨office, none'⟩ := before.quiet none_
    have msg : u.msg = t.msg := congrArg (·.msg) moved.rest
    obtain ⟨office', -⟩ := after.quiet (by rw [msg]; exact none')
    have made := moved.made
    rw [movementReports_of_same before.movements, reportsMade, office, ← office'] at made
    exact made
  rest := by
    obtain ⟨movements, full⟩ := before.movements
    have last := congrArg (fun x : State => { x with gate := { x.gate with
      movements := s.gate.movements, movementsFull := s.gate.movementsFull } }) after.rest
    have middle := moved.site
    rw [movements, full] at middle
    exact last.trans (middle.trans before.rest)
  others k hk := by
    rw [after.others k hk, entryAt, moved.roll]
    exact before.others k hk
  names := before.names.trans (moved.roll ▸ after.names)

theorem PupilMoved.pupilAt (h : PupilMoved m slot s t) : pupilAt t slot = pupilAt s slot :=
  pupilAt_of_find ((h.names.coarser (w := (·.pupil)) Prod.fst fun _ => rfl).find slot)

/-- The pupil of a token depends on the roll's names (R70). -/
theorem tokenPupil_of_names (names : RollAgrees named s.roll.roll t.roll.roll) (ordered : RollOrdered s)
    (token : Handle) : tokenPupil t token = tokenPupil s token := by
  have view (l : Table RollEntry) : (l.find? fun p => p.2.tokens.contains token).map (·.2.pupil)
      = ((l.map fun p => (p.1, named p.2)).find? fun q => q.2.2.contains token).map (·.2.1) := by
    rw [List.find?_map, Option.map_map]; rfl
  unfold tokenPupil findToken
  split
  · rfl
  · rw [view, view, names.list ordered.1]

theorem PupilMoved.gates (h : PupilMoved m slot s t) : t.gate.gates = s.gate.gates := congrArg (·.gate.gates) h.rest

theorem PupilMoved.counter (h : PupilMoved m slot s t) : t.gate.referralCounter = s.gate.referralCounter :=
  congrArg (·.gate.referralCounter) h.rest

theorem PupilMoved.segments (h : PupilMoved m slot s t) : t.line.segments = s.line.segments :=
  congrArg (·.line.segments) h.rest

theorem PupilMoved.stations (h : PupilMoved m slot s t) : t.line.stations = s.line.stations :=
  congrArg (·.line.stations) h.rest

theorem PupilMoved.sched (h : PupilMoved m slot s t) : t.sched = s.sched := congrArg (·.sched) h.rest

theorem PupilMoved.bell (h : PupilMoved m slot s t) : t.bell = s.bell := congrArg (·.bell) h.rest

theorem PupilMoved.reg (h : PupilMoved m slot s t) : t.reg = s.reg := congrArg (·.reg) h.rest

theorem PupilMoved.control (h : PupilMoved m slot s t) : sameControl s t :=
  sameControl_of_quiet (congrArg (·.office) h.rest)

end

/-! ### An arrival, step by step (R76, R77) -/

/-- The movement of an arrival (R76, R83). -/
def arrivalMovement (s : State) (slot g : Nat) (j : Judged) (now : Nat) (referral : Option Nat) : Movement :=
  let k := arrivalKind (siteAt s slot) j.band
  { second := now, gate := g, direction := .inward, pupil := pupilAt s slot, kind := k
    minutes := movementMinutes k j.minutes, referral := referral }

/-- The pupil in a slot, arrived. -/
def arrivedPupil (slot t g : Nat) (s : State) : State := setOnSite slot .onSite (setArrival slot t g s)

/-- The mark request that an arrival makes once the pupil is on site. -/
def requestOf (s : State) (slot t g : Nat) (j : Judged) : Option (Session × MarkRequest) :=
  arrivalRequest (arrivedPupil slot t g s) slot (arrivalKind (siteAt s slot) j.band) j

/-- The pupil in a slot, arrived, with the mark request made. -/
def requestedPupil (slot t g : Nat) (j : Judged) (s : State) : State :=
  makeArrivalRequest slot j.minutes (requestOf s slot t g j) (arrivedPupil slot t g s)

/-- ADMIT_EXCUSED's EXCUSE request for a session, if there is one (R82). -/
def excuseSession (slot : Nat) (x : Option Session) (s : State) : State :=
  match x with
  | some x => requestMark slot x .excuse s
  | none => s

section

variable (slot g : Nat) (j : Judged) (t now : Nat) (referral : Option Nat) (s : State)

theorem arrivedPupil_work : PupilWork slot s (arrivedPupil slot t g s) :=
  (modEntry_pupilWork (f := withArrival t g) (fun _ => rfl) s).trans (setOnSite_pupilWork _ _)

theorem arrivalRequest_seen {k : MovementKind} {x : Session} {r : MarkRequest}
    (h : arrivalRequest s slot k j = some (x, r)) : j.session = some x ∧ r ≠ .regAbsent := by
  unfold arrivalRequest at h
  split at h
  · rename_i y q session band
    split at h
    · obtain ⟨rfl, rfl⟩ := Prod.mk.inj (Option.some.inj h)
      refine ⟨session, fun absent => ?_⟩
      rw [absent] at band
      cases hb : j.band <;> rw [hb] at band <;> cases band
    · cases h
  · cases h
  · cases h

theorem makeArrivalRequest_work {r : Option (Session × MarkRequest)}
    (seen : ∀ x k, r = some (x, k) → k ≠ .regAbsent) (minutes : Nat) :
    PupilWork slot s (makeArrivalRequest slot minutes r s) := by
  cases r with
  | none => exact .refl slot s
  | some r =>
    obtain ⟨x, k⟩ := r
    exact (requestMark_pupilWork x (seen x k rfl) s).trans
      (modEntry_pupilWork (f := withMinutes minutes) (fun _ => rfl) _)

theorem judgeLateDue_work (r : Option (Session × MarkRequest)) : PupilWork slot s (judgeLateDue slot r s) := by
  unfold judgeLateDue
  split
  · exact .refl slot s
  · split
    · exact setDue_pupilWork _ s
    · exact .refl slot s

theorem excuseSession_work (x : Option Session) : PupilWork slot s (excuseSession slot x s) := by
  cases x with
  | none => exact .refl slot s
  | some x => exact requestMark_pupilWork x (by decide) s

theorem requestedPupil_work : PupilWork slot s (requestedPupil slot t g j s) :=
  (arrivedPupil_work slot g t s).trans <|
    makeArrivalRequest_work slot _ (fun _ _ h => (arrivalRequest_seen slot j _ h).2) j.minutes

theorem applyArrival_plain : applyArrival slot g j t now referral false s =
    (recordMovement { arrivalMovement s slot g j now referral with
        pupil := pupilAt (judgeLateDue slot (requestOf s slot t g j) (requestedPupil slot t g j s)) slot }
      slot j.session (judgeLateDue slot (requestOf s slot t g j) (requestedPupil slot t g j s)),
      arrivalKind (siteAt s slot) j.band) := by
  unfold applyArrival
  cases j.session <;> rfl

theorem applyArrival_excused : applyArrival slot g j t now referral true s =
    (judgeLateDue slot (requestOf s slot t g j) (excuseSession slot j.session
      (recordMovement { arrivalMovement s slot g j now referral with
        pupil := pupilAt (requestedPupil slot t g j s) slot } slot j.session (requestedPupil slot t g j s))),
      arrivalKind (siteAt s slot) j.band) := by
  unfold applyArrival
  cases j.session <;> rfl

/-- An arrival's movement, and what it leaves of the part but for the pupil's own record. -/
theorem applyArrival_moves (excused : Bool) : PupilMoved (arrivalMovement s slot g j now referral) slot s
    (applyArrival slot g j t now referral excused s).1 := by
  have requested := requestedPupil_work slot g j t s
  cases excused with
  | false =>
    have due := requested.trans (judgeLateDue_work slot _ (requestOf s slot t g j))
    rw [applyArrival_plain, due.pupilAt]
    exact due.moved (recordMovement_made _ _ _ _) (.refl slot _)
  | true =>
    rw [applyArrival_excused, requested.pupilAt]
    exact requested.moved (recordMovement_made _ _ _ _)
      ((excuseSession_work slot _ j.session).trans (judgeLateDue_work slot _ _))

end

/-! ### The record that an arrival leaves (R76, R77) -/

/-- The mark request that an arrival of a pupil makes, by the entry that it finds. -/
def lateRequest (e : RollEntry) (j : Judged) : Option (Session × MarkRequest) :=
  match j.session, bandRequest j.band with
  | some x, some r => if e.day.onSite ≠ .onSite ∧ requestable (e.day.marks.get x).code = true then some (x, r) else none
  | some _, none => none
  | none, _ => none

/-- An entry arrived. -/
def arrivedEntry (t g : Nat) (e : RollEntry) : RollEntry := withSite .onSite (withArrival t g e)

/-- An entry with an arrival's mark request made, and its minutes. -/
def requestedEntry (r : Option (Session × MarkRequest)) (minutes : Nat) (e : RollEntry) : RollEntry :=
  match r with
  | none => e
  | some (x, k) => withMinutes minutes (withMark x (mergedMark k (e.day.marks.get x)) e)

/-- An entry with the LATE due flag judged. -/
def dueEntry (r : Option (Session × MarkRequest)) (e : RollEntry) : RollEntry :=
  match r with
  | none => e
  | some (x, _) => if (e.day.marks.get x).code = .lateAfterClose then withLateDue x e else e

/-- An entry whose mark of a session, if there is one, has met an EXCUSE request. -/
def excusedEntry (x : Option Session) (e : RollEntry) : RollEntry :=
  match x with
  | none => e
  | some x => withMark x (mergedMark .excuse (e.day.marks.get x)) e

section

variable {slot g t : Nat} {j : Judged} {e : RollEntry} {s : State} {r : Option (Session × MarkRequest)}

theorem arrivalKind_reentry (site : OnSite) (b : Band) : arrivalKind site b ≠ .reentry ↔ site ≠ .onSite := by
  cases site <;> cases b <;> decide

theorem Holds.arrivedPupil (held : Holds slot e s) : Holds slot (arrivedEntry t g e) (arrivedPupil slot t g s) :=
  (held.modEntry (f := withArrival t g) fun _ => rfl).setOnSite .onSite

theorem Holds.requestOf (held : Holds slot e s) : requestOf s slot t g j = lateRequest e j := by
  have arrived : Holds slot (arrivedEntry t g e) (Machine.arrivedPupil slot t g s) := held.arrivedPupil
  have marks (x : Session) : Machine.markAt (Machine.arrivedPupil slot t g s) slot x = e.day.marks.get x :=
    arrived.markAt x
  cases session : j.session with
  | none => simp only [Machine.requestOf, arrivalRequest, lateRequest, session]
  | some x =>
    cases band : bandRequest j.band with
    | none => simp only [Machine.requestOf, arrivalRequest, lateRequest, session, band]
    | some k =>
      simp only [Machine.requestOf, arrivalRequest, lateRequest, session, band, marks, held.siteAt, arrivalKind_reentry]

theorem Holds.makeArrivalRequest (held : Holds slot e s) (site : e.day.onSite = .onSite)
    (seen : ∀ x k, r = some (x, k) → k ≠ .regAbsent) (minutes : Nat) :
    Holds slot (requestedEntry r minutes e) (makeArrivalRequest slot minutes r s) := by
  cases r with
  | none => exact held
  | some r =>
    obtain ⟨x, k⟩ := r
    have stays : ¬bringsIn (mergedMark k (e.day.marks.get x)) e := fun h => nomatch site.symm.trans h.2
    exact (held.requestMark x (seen x k rfl) stays).modEntry (f := withMinutes minutes) fun _ => rfl

theorem Holds.judgeLateDue (held : Holds slot e s) (r : Option (Session × MarkRequest)) :
    Holds slot (dueEntry r e) (judgeLateDue slot r s) := by
  cases r with
  | none => exact held
  | some r =>
    obtain ⟨x, k⟩ := r
    simp only [Machine.judgeLateDue, dueEntry, held.markAt]
    split
    · exact held.setDue x
    · exact held

theorem mergedMark_excuse (m : Mark) : mergedMark .excuse m = excusedMark m := by
  obtain ⟨code, source⟩ := m
  cases code <;> rfl

/-- An EXCUSE request brings nobody on site who is not off site. -/
theorem Holds.excuseSession (held : Holds slot e s) (site : e.day.onSite ≠ .offSite) (x : Option Session) :
    Holds slot (excusedEntry x e) (excuseSession slot x s) := by
  cases x with
  | none => exact held
  | some x => exact held.requestMark x (by decide) fun brings => site brings.2

theorem requestedEntry_onSite (r : Option (Session × MarkRequest)) (minutes : Nat) (e : RollEntry) :
    (requestedEntry r minutes e).day.onSite = e.day.onSite := by
  cases r <;> rfl

theorem Holds.requestedPupil (held : Holds slot e s) :
    Holds slot (requestedEntry (lateRequest e j) j.minutes (arrivedEntry t g e)) (requestedPupil slot t g j s) := by
  rw [Machine.requestedPupil, ← held.requestOf (t := t) (g := g)]
  exact held.arrivedPupil.makeArrivalRequest rfl (fun _ _ h => (arrivalRequest_seen slot j _ h).2) _

/-- The record after an arrival. -/
def appliedEntry (t g : Nat) (j : Judged) (excused : Bool) (e : RollEntry) : RollEntry :=
  let requested := requestedEntry (lateRequest e j) j.minutes (arrivedEntry t g e)
  dueEntry (lateRequest e j) (if excused then excusedEntry j.session requested else requested)

theorem Holds.applyArrival (held : Holds slot e s) (now : Nat) (referral : Option Nat) (excused : Bool) :
    Holds slot (appliedEntry t g j excused e) (applyArrival slot g j t now referral excused s).1 := by
  have requested : Holds slot _ (Machine.requestedPupil slot t g j s) := held.requestedPupil
  cases excused with
  | false =>
    rw [applyArrival_plain, held.requestOf]
    exact (requested.judgeLateDue (lateRequest e j)).of_roll (recordMovement_made _ _ _ _).roll
  | true =>
    rw [applyArrival_excused, held.requestOf]
    have site : (requestedEntry (lateRequest e j) j.minutes (arrivedEntry t g e)).day.onSite ≠ .offSite := by
      rw [requestedEntry_onSite]; exact nofun
    exact ((requested.of_roll (recordMovement_made _ _ _ _).roll).excuseSession site j.session).judgeLateDue _

end

/-! ### What R77 says of that record -/

section

variable {t g : Nat} {j : Judged} {e e' : RollEntry} {x : Session} {k : MarkRequest}

theorem lateRequest_some (h : lateRequest e j = some (x, k)) :
    arrivalAsks e j x ∧ bandRequest j.band = some k := by
  unfold lateRequest at h
  split at h
  · rename_i y q session band
    split at h
    · rename_i asks
      obtain ⟨rfl, rfl⟩ := Prod.mk.inj (Option.some.inj h)
      refine ⟨⟨session, asks.1, fun onTime => ?_, ?_⟩, band⟩
      · rw [onTime] at band; cases band
      · have code := asks.2
        generalize (e.day.marks.get y).code = c at code ⊢
        cases c <;> simp [requestable] at code ⊢
    · cases h
  · cases h
  · cases h

theorem lateRequest_none (h : lateRequest e j = none) (x : Session) : ¬arrivalAsks e j x := by
  rintro ⟨session, away, late, code⟩
  have band : ∃ k, bandRequest j.band = some k := by
    cases hb : j.band with
    | onTime => exact absurd hb late
    | late => exact ⟨_, rfl⟩
    | lateAfterClose => exact ⟨_, rfl⟩
  obtain ⟨k, band⟩ := band
  have asked : requestable (e.day.marks.get x).code = true := by
    rcases code with code | code | code <;> rw [code] <;> rfl
  simp [lateRequest, session, band, away, asked] at h

/-- A late arrival's mark is what the merge table makes of the request (R9, R77). -/
theorem mergedMark_arrival (asks : arrivalAsks e j x) (band : bandRequest j.band = some k) :
    mergedMark k (e.day.marks.get x) = arrivalMark e j x := by
  rw [arrivalMark, if_pos asks]
  obtain ⟨-, -, late, code⟩ := asks
  unfold mergedMark
  cases hb : j.band with
  | onTime => exact absurd hb late
  | late =>
    rw [hb] at band
    cases band
    rcases code with code | code | code <;> simp [mergeCode, code, requestSource]
  | lateAfterClose =>
    rw [hb] at band
    cases band
    rcases code with code | code | code <;> simp [mergeCode, code, requestSource]

theorem arrivalAsks_unique {y : Session} (here : arrivalAsks e j x) (there : arrivalAsks e j y) : y = x :=
  Option.some.inj (there.1.symm.trans here.1)

theorem arrivalMark_still (h : ¬arrivalAsks e j x) : arrivalMark e j x = e.day.marks.get x := if_neg h

theorem arrivalMinutes_asks (asks : arrivalAsks e j x) :
    arrivalMinutes e j = min 240 (e.day.minutesLate + j.minutes) := by
  refine if_pos ?_
  cases x with
  | am => exact .inl asks
  | pm => exact .inr asks

/-- The marks and the minutes of an entry with an arrival's request made. -/
theorem requestedEntry_recorded (t g : Nat) (e : RollEntry) (j : Judged) :
    (∀ x, (requestedEntry (lateRequest e j) j.minutes (arrivedEntry t g e)).day.marks.get x = arrivalMark e j x)
      ∧ (requestedEntry (lateRequest e j) j.minutes (arrivedEntry t g e)).day.minutesLate = arrivalMinutes e j
      ∧ (requestedEntry (lateRequest e j) j.minutes (arrivedEntry t g e)).day.flags = e.day.flags := by
  cases h : lateRequest e j with
  | none =>
    have still := lateRequest_none h
    exact ⟨fun x => (arrivalMark_still (still x)).symm, (if_neg (not_or.mpr ⟨still .am, still .pm⟩)).symm, rfl⟩
  | some r =>
    obtain ⟨x, k⟩ := r
    obtain ⟨asks, band⟩ := lateRequest_some h
    refine ⟨fun y => ?_, (arrivalMinutes_asks asks).symm, rfl⟩
    show (e.day.marks.set x (mergedMark k (e.day.marks.get x))).get y = _
    rw [AmPm_get_set]
    split
    · subst_vars; exact mergedMark_arrival asks band
    · rename_i other
      exact (arrivalMark_still fun there => other (arrivalAsks_unique asks there)).symm

theorem dueEntry_marks (r : Option (Session × MarkRequest)) (e : RollEntry) :
    (dueEntry r e).day.marks = e.day.marks ∧ (dueEntry r e).day.minutesLate = e.day.minutesLate
      ∧ (dueEntry r e).day.onSite = e.day.onSite ∧ (dueEntry r e).day.arrival = e.day.arrival
      ∧ (dueEntry r e).term = e.term ∧ (dueEntry r e).referOnArrival = e.referOnArrival := by
  unfold dueEntry
  split
  · exact ⟨rfl, rfl, rfl, rfl, rfl, rfl⟩
  · split <;> exact ⟨rfl, rfl, rfl, rfl, rfl, rfl⟩

theorem withLateDue_get (x y : Session) (e : RollEntry) :
    (withLateDue x e).day.flags.dueLate.get y = (e.day.flags.dueLate.get y || decide (y = x)) := by
  show (e.day.flags.dueLate.set x true).get y = _
  rw [AmPm_get_set]
  split
  · rename_i same; rw [decide_eq_true same, Bool.or_true]
  · rename_i other; rw [decide_eq_false other, Bool.or_false]

/-- The LATE due flag is set where the request has left LATE_AFTER_CLOSE (R77). -/
theorem dueEntry_recorded {e₁ : RollEntry} (marks : ∀ x, e₁.day.marks.get x = arrivalMark e j x)
    (flags : e₁.day.flags = e.day.flags) (y : Session) : (dueEntry (lateRequest e j) e₁).day.flags.dueLate.get y =
      (e.day.flags.dueLate.get y || decide (arrivalAsks e j y ∧ (arrivalMark e j y).code = .lateAfterClose)) := by
  cases h : lateRequest e j with
  | none =>
    have quiet : decide (arrivalAsks e j y ∧ (arrivalMark e j y).code = .lateAfterClose) = false :=
      decide_eq_false fun asks => lateRequest_none h y asks.1
    rw [quiet, Bool.or_false, ← flags]
    rfl
  | some r =>
    obtain ⟨x, k⟩ := r
    have asks := (lateRequest_some h).1
    have due : (arrivalAsks e j y ∧ (arrivalMark e j y).code = .lateAfterClose)
        ↔ y = x ∧ (arrivalMark e j x).code = .lateAfterClose := by
      refine ⟨fun ⟨there, code⟩ => ?_, fun ⟨same, code⟩ => same ▸ ⟨asks, code⟩⟩
      obtain rfl := arrivalAsks_unique asks there
      exact ⟨rfl, code⟩
    simp only [dueEntry, marks x, due, ← flags]
    split
    · rename_i code
      simp only [withLateDue_get, code, and_true]
    · rename_i code
      simp only [code, and_false, decide_false, Bool.or_false]

/-- What an arrival leaves of a record, whether or not its session is excused. -/
theorem appliedEntry_arrived (t g : Nat) (j : Judged) (excused : Bool) (e : RollEntry) :
    (appliedEntry t g j excused e).day.onSite = .onSite
      ∧ (appliedEntry t g j excused e).day.arrival = some (e.day.arrival.getD ⟨t, g⟩)
      ∧ (appliedEntry t g j excused e).term = e.term
      ∧ (appliedEntry t g j excused e).referOnArrival = e.referOnArrival
      ∧ (appliedEntry t g j excused e).day.minutesLate = arrivalMinutes e j := by
  have requested (r : Option (Session × MarkRequest)) : (requestedEntry r j.minutes (arrivedEntry t g e)).day.arrival
        = some (e.day.arrival.getD ⟨t, g⟩)
      ∧ (requestedEntry r j.minutes (arrivedEntry t g e)).term = e.term
      ∧ (requestedEntry r j.minutes (arrivedEntry t g e)).referOnArrival = e.referOnArrival := by
    have arrival : (e.day.arrival.orElse fun _ => some ⟨t, g⟩) = some (e.day.arrival.getD ⟨t, g⟩) := by
      cases e.day.arrival <;> rfl
    cases r <;> exact ⟨arrival, rfl, rfl⟩
  have excuse (x : Option Session) (a : RollEntry) : (excusedEntry x a).day.onSite = a.day.onSite
      ∧ (excusedEntry x a).day.arrival = a.day.arrival ∧ (excusedEntry x a).term = a.term
      ∧ (excusedEntry x a).referOnArrival = a.referOnArrival
      ∧ (excusedEntry x a).day.minutesLate = a.day.minutesLate := by
    cases x <;> exact ⟨rfl, rfl, rfl, rfl, rfl⟩
  obtain ⟨arrival, term, refer⟩ := requested (lateRequest e j)
  have site := requestedEntry_onSite (lateRequest e j) j.minutes (arrivedEntry t g e)
  have minutes := (requestedEntry_recorded t g e j).2.1
  simp only [appliedEntry, dueEntry_marks]
  split
  · simp only [excuse]
    exact ⟨site, arrival, term, refer, minutes⟩
  · exact ⟨site, arrival, term, refer, minutes⟩

/-- R77: the record of an arrival. -/
theorem appliedEntry_recorded (t g : Nat) (j : Judged) (e : RollEntry) :
    arrivalRecorded e (appliedEntry t g j false e) j := by
  obtain ⟨marks, minutes, flags⟩ := requestedEntry_recorded t g e j
  obtain ⟨sameMarks, sameMinutes, -⟩ :=
    dueEntry_marks (lateRequest e j) (requestedEntry (lateRequest e j) j.minutes (arrivedEntry t g e))
  exact ⟨fun x => (congrArg (·.get x) sameMarks).trans (marks x), sameMinutes.trans minutes,
    dueEntry_recorded marks flags⟩

/-- An arrival's mark has been excused where it belongs to the session. -/
theorem excusedEntry_mark (t g : Nat) (j : Judged) (e : RollEntry) (x : Session) :
    (excusedEntry j.session (requestedEntry (lateRequest e j) j.minutes (arrivedEntry t g e))).day.marks.get x
      = if j.session = some x then excusedMark (arrivalMark e j x) else e.day.marks.get x := by
  have marks := (requestedEntry_recorded t g e j).1
  have elsewhere (other : j.session ≠ some x) : arrivalMark e j x = e.day.marks.get x :=
    arrivalMark_still fun asks => other asks.1
  cases hs : j.session with
  | none =>
    rw [if_neg nofun, ← elsewhere (by rw [hs]; nofun)]
    exact marks x
  | some y =>
    have written : (excusedEntry (some y) (requestedEntry (lateRequest e j) j.minutes
        (arrivedEntry t g e))).day.marks.get x = if x = y then excusedMark (arrivalMark e j y)
          else arrivalMark e j x := by
      simp only [excusedEntry, withMark, AmPm_get_set, marks, mergedMark_excuse]
    rw [written]
    by_cases same : x = y
    · rw [if_pos same, if_pos (congrArg some same.symm), same]
    · have other : ¬some y = some x := fun h => same (Option.some.inj h).symm
      rw [if_neg same, if_neg other, elsewhere (by rw [hs]; exact other)]

theorem excusedMark_closed (m : Mark) : (excusedMark m).code ≠ .lateAfterClose := by
  obtain ⟨code, source⟩ := m
  cases code <;> simp [excusedMark]

/-- R82: the record of an arrival admitted and excused has no new due flag. -/
theorem appliedEntry_excused (t g : Nat) (j : Judged) (e : RollEntry) (x : Session) :
    (appliedEntry t g j true e).day.flags.dueLate.get x = e.day.flags.dueLate.get x
      ∧ (appliedEntry t g j true e).day.marks.get x =
        if j.session = some x then excusedMark (arrivalMark e j x) else e.day.marks.get x := by
  have mark := excusedEntry_mark t g j e
  have flags : (excusedEntry j.session (requestedEntry (lateRequest e j) j.minutes (arrivedEntry t g e))).day.flags
      = e.day.flags := by
    rw [← (requestedEntry_recorded t g e j).2.2]
    cases j.session <;> rfl
  obtain ⟨e₁, he₁⟩ : ∃ e₁, excusedEntry j.session (requestedEntry (lateRequest e j) j.minutes
      (arrivedEntry t g e)) = e₁ := ⟨_, rfl⟩
  have applied : appliedEntry t g j true e = dueEntry (lateRequest e j) e₁ := by rw [← he₁]; rfl
  rw [he₁] at mark flags
  have quiet : dueEntry (lateRequest e j) e₁ = e₁ := by
    cases h : lateRequest e j with
    | none => rfl
    | some r =>
      obtain ⟨y, k⟩ := r
      refine if_neg ?_
      rw [mark y, if_pos (lateRequest_some h).1.1]
      exact excusedMark_closed _
  rw [applied, quiet, flags]
  exact ⟨rfl, mark x⟩

/-- Done flags are no part of what is said of an arrival. -/
theorem arrivalRecorded_of_undone {e₁ : RollEntry} (same : undone e' = undone e₁) (h : arrivalRecorded e e₁ j) :
    arrivalRecorded e e' j := by
  have marks : e'.day.marks = e₁.day.marks := congrArg (·.day.marks) same
  have minutes : e'.day.minutesLate = e₁.day.minutesLate := congrArg (·.day.minutesLate) same
  have flags : e'.day.flags.dueLate = e₁.day.flags.dueLate := congrArg (·.day.flags.dueLate) same
  simpa only [arrivalRecorded, marks, minutes, flags] using h

end

/-! ### A sign-out (R71) -/

/-- The movement of a sign-out (R71, R83). -/
def signOutMovement (s : State) (slot g now : Nat) (referral : Option Nat) : Movement :=
  { second := now, gate := g, direction := .outward, pupil := pupilAt s slot, kind := .signOut, minutes := none
    referral := referral }

section

variable (slot g now : Nat) (referral : Option Nat) (s : State)

theorem applySignOut_eq : applySignOut slot g now referral s =
    recordMovement (signOutMovement s slot g now referral) slot none (setOnSite slot .signedOut s) := by
  have pupil := (setOnSite_pupilWork (slot := slot) .signedOut s).pupilAt
  rw [applySignOut, signOutMovement, ← pupil]

theorem applySignOut_moves :
    PupilMoved (signOutMovement s slot g now referral) slot s (applySignOut slot g now referral s) := by
  rw [applySignOut_eq]
  exact (setOnSite_pupilWork .signedOut s).moved (recordMovement_made _ _ _ _) (.refl slot _)

theorem Holds.applySignOut {slot : Nat} {e : RollEntry} {s : State} (held : Holds slot e s) (g now : Nat)
    (referral : Option Nat) :
    Holds slot (withSite .signedOut e) (applySignOut slot g now referral s) := by
  rw [applySignOut_eq]
  exact (held.setOnSite .signedOut).of_roll (recordMovement_made _ _ _ _).roll

/-- What a sign-out of a known pupil leaves of the roll, the count and the reports. -/
structure SignedOut (slot : Nat) (e : RollEntry) (s t : State) : Prop where
  entry : entryAt t slot = some (withSite .signedOut e)
  others : ∀ k, k ≠ slot → entryAt t k = entryAt s k
  count : t.gate.onSiteCount = s.gate.onSiteCount - (if e.day.onSite = .onSite then 1 else 0)
  made : reportsMade (movementReports s) s t
  msg : t.msg = s.msg

theorem applySignOut_signsOut {slot : Nat} {e : RollEntry} {s : State} (he : entryAt s slot = some e) (g now : Nat)
    (referral : Option Nat) : SignedOut slot e s (applySignOut slot g now referral s) := by
  have moved := recordMovement_made (signOutMovement s slot g now referral) slot none (setOnSite slot .signedOut s)
  rw [applySignOut_eq]
  have site := setOnSite_of_entry he .signedOut
  have entries (k : Nat) : entryAt (setOnSite slot .signedOut s) k
      = if k = slot then some (withSite .signedOut e) else entryAt s k := by
    rw [site, entryAt, adjustOnSite_roll]
    refine (entryAt_modEntry s slot k (withSite .signedOut)).trans ?_
    rw [he]
    rfl
  have rest : { setOnSite slot .signedOut s with
      roll := s.roll, gate := { (setOnSite slot .signedOut s).gate with onSiteCount := s.gate.onSiteCount } } = s := by
    rw [site, adjustOnSite_eq, modEntry_rest]; rfl
  have roll := moved.roll
  refine ⟨?_, fun k hk => ?_, ?_, ?_, (congrArg (·.msg) moved.rest).trans (congrArg (·.msg) rest)⟩
  · rw [entryAt, roll]; exact (entries slot).trans (if_pos rfl)
  · rw [entryAt, roll]; exact (entries k).trans (if_neg hk)
  · rw [moved.onSite, site, adjustOnSite_eq, modEntry_rest]
    cases e.day.onSite <;> rfl
  · have made := moved.made
    have office : (setOnSite slot .signedOut s).office = s.office := congrArg (·.office) rest
    rw [movementReports_of_same (setOnSite_pupilWork (slot := slot) .signedOut s).movements, reportsMade,
      office] at made
    exact made

end

end Sys2Proof.Machine
end

section
/-! PROOFS. A TAP on its way (R68, R78, R148 to R156): the exchange it answers, the credit of its station, the answer
handed to the reader's segment and sent when the exchange ends, and each step of Table 3 of Chapter 4. -/

namespace Sys2Proof.Machine

open Sys2Proof

/-! ### Room in the report queue (R163) -/

theorem uplinkChoose_length (s : State) : (uplinkChoose s).office.reports.length ≤ s.office.reports.length := by
  unfold uplinkChoose
  split
  · exact le_rfl
  · split
    · exact le_rfl
    · split
      · exact le_rfl
      · rename_i queued
        rw [queued]
        exact Nat.le_succ _

/-- A report offered joins the queue once, if at all. -/
theorem offerReport_length (b : ReportBody) (s : State) :
    (offerReport b s).office.reports.length ≤ s.office.reports.length + 1 := by
  unfold offerReport
  dsimp only
  split
  · refine (uplinkChoose_length _).trans ?_
    simp [State.modOffice]
  · exact Nat.le_succ _

/-! ### The answer on an open exchange (R78, R153, R154) -/

/-- A segment awaits an address's answer to a POLL, with nothing queued. -/
def Awaiting (seg : Nat) (src : Byte) (s : State) : Prop :=
  (segmentAt s seg).sending = none ∧ (segmentAt s seg).exchange = some ⟨src, .poll⟩ ∧ (segmentAt s seg).queue = []
    ∧ (segmentAt s seg).outside = []

/-- A frame handed to a segment that awaits an answer waits in its queue. -/
theorem handFrame_awaiting {seg : Nat} {src : Byte} {s : State} (awaits : Awaiting seg src s) (f : FieldFrame) :
    handFrame seg f s = setSegmentAt seg { segmentAt s seg with queue := [f] } s := by
  obtain ⟨sending, exchange, queue, outside⟩ := awaits
  have takes : queueTakes (segmentAt s seg) f = true := by simp [queueTakes, queue, outside, Config.queueFrames]
  have joined : joinQueue (segmentAt s seg) f = { segmentAt s seg with queue := [f] } := by simp [joinQueue, queue]
  simp only [handFrame, takes, if_true, joined, segmentChoose, segmentAt_setSegmentAt, exchange, Option.isSome_some,
    Bool.or_true]

/-- A tap answered: the reader's segment has turned to the answer, and nothing else has changed. -/
structure TapAnswered (seg : Nat) (f : FieldFrame) (s t : State) : Prop where
  sends : nowSends t seg f
  rest : { t with line := { t.line with segments := s.line.segments } } = s

/-- The end of the exchange sends the answer handed in it. -/
theorem closeExchange_answers {seg : Nat} {src : Byte} {s : State} (awaits : Awaiting seg src s) {f : FieldFrame}
    (next : takeNext [f] = some (f, [])) : TapAnswered seg f s (closeExchange seg (handFrame seg f s)) := by
  have ⟨sending, exchange, queue, outside⟩ := awaits
  have turned : segmentAt (closeExchange seg (handFrame seg f s)) seg =
      { segmentAt s seg with queue := [], exchange := none, sending := some f } := by
    simp only [handFrame_awaiting awaits, closeExchange, segmentChoose, segmentAt_setSegmentAt, if_true, sending,
      Option.isSome_none, Bool.or_self, Bool.false_eq_true, if_false, chooseNext, next]
  refine ⟨?_, ?_⟩
  · rw [nowSends, turned]
    exact ⟨rfl, rfl, rfl, outside⟩
  · have ended := closeExchange_rest (handFrame seg f s) seg
    exact (congrArg (fun u : State => { u with line := { u.line with segments := s.line.segments } }) ended).trans
      (handFrame_rest seg f s)

/-- A decided tap's answer, handed to a segment that awaits it, and its memory. -/
theorem decided_awaiting {t : TapIn} {s : State} (awaits : Awaiting t.segment t.address s) (a : Answer)
    (j : Option Judged) : decided t a j s = handFrame t.segment ⟨t.address, .gateAnswer t.sequence a
      (tokenPupil s t.token) (j.map (·.band)) ((j.map (·.minutes)).getD 0)⟩ (remember t.gate t.token a s) := by
  have later : Awaiting t.segment t.address (remember t.gate t.token a s) := awaits
  rw [decided, answerTap, answerReader, handFrame_awaiting awaits, handFrame_awaiting later]
  rfl

/-! ### The credit of the station (R154, R155) -/

/-- What a tap's exchange keeps, from the credit of the station to its end. -/
structure TapKept (seg n : Nat) (src : Byte) (s u : State) : Prop where
  awaits : Awaiting seg src u
  stations : ∀ k, stationAt u k = if k = n then credited (stationAt s n) else stationAt s k
  sched : u.sched = s.sched
  bell : u.bell = s.bell
  reg : u.reg = s.reg
  control : sameControl s u

/-- What the credit of a station that answers leaves. -/
structure TapCredited (seg n : Nat) (src : Byte) (s c : State) : Prop where
  kept : TapKept seg n src s c
  rest : exceptLine c = exceptLine s
  made : reportsMade (backAlerts (stationAt s n)) s c
  present : (stationAt s n).presence = .present → c.office = s.office
  room : s.office.reports.length < 63 → c.office.reports.length < 64
  full : 64 ≤ s.office.reports.length → 64 ≤ c.office.reports.length

section

variable {seg n : Nat} {src : Byte} {s c u v : State}

/-- The station credited, before its alert. -/
def creditedAt (n : Nat) (s : State) : State := setStationAt n (credited (stationAt s n)) s

theorem creditExchange_present (found : classify s seg src = some n) (present : (stationAt s n).presence = .present) :
    creditExchange seg src true s = creditedAt n s := by
  simp only [creditExchange, found, present]
  rfl

theorem creditExchange_back (found : classify s seg src = some n) (absent : (stationAt s n).presence = .absent) :
    creditExchange seg src true s = backAlert n (stationAt s n) src (creditedAt n s) := by
  simp only [creditExchange, found, absent]
  rfl

theorem creditedAt_stations (k : Nat) :
    stationAt (creditedAt n s) k = if k = n then credited (stationAt s n) else stationAt s k :=
  stationAt_setStationAt ..

theorem tapCredited_creditedAt (awaits : awaitsPoll s seg src n) : TapKept seg n src s (creditedAt n s) :=
  ⟨⟨awaits.1, awaits.2.1, awaits.2.2.1, awaits.2.2.2.1⟩, creditedAt_stations, rfl, rfl, rfl, rfl, rfl, rfl, rfl, rfl⟩

/-- A change of none of the exchange's items. -/
theorem TapKept.of_same (h : TapKept seg n src s u) (segments : v.line.segments = u.line.segments)
    (stations : v.line.stations = u.line.stations) (sched : v.sched = u.sched) (bell : v.bell = u.bell)
    (reg : v.reg = u.reg) (control : sameControl u v) : TapKept seg n src s v where
  awaits := by rw [Awaiting, segmentAt_of_segments segments]; exact h.awaits
  stations k := by rw [stationAt, stations]; exact h.stations k
  sched := sched.trans h.sched
  bell := bell.trans h.bell
  reg := reg.trans h.reg
  control := sameControl_trans h.control control

theorem TapKept.offered {k : Nat} (h : TapKept seg n src s u) (offered : ReportsOffered k u v) :
    TapKept seg n src s v :=
  h.of_same offered.segments offered.stations offered.sched (congrArg (·.bell) offered.rest)
    (congrArg (·.reg) offered.rest) (sameControl_of_quiet (congrArg (·.office) offered.rest))

theorem TapKept.recorded {m : Movement} (h : TapKept seg n src s u) (moved : MovementMade m u v) :
    TapKept seg n src s v :=
  h.of_same moved.segments moved.stations moved.sched (congrArg (·.bell) moved.rest)
    (congrArg (·.reg) moved.rest) (sameControl_of_quiet (congrArg (·.office) moved.rest))

theorem TapKept.moved {m : Movement} {slot : Nat} (h : TapKept seg n src s u) (moved : PupilMoved m slot u v) :
    TapKept seg n src s v :=
  h.of_same moved.segments moved.stations moved.sched moved.bell moved.reg moved.control

theorem TapKept.gated (h : TapKept seg n src s u) (g : GateUnit) : TapKept seg n src s { u with gate := g } :=
  h.of_same rfl rfl rfl rfl rfl ⟨rfl, rfl, rfl, rfl, rfl⟩

theorem creditExchange_credited (awaits : awaitsPoll s seg src n) :
    TapCredited seg n src s (creditExchange seg src true s) := by
  have found := awaits.2.2.2.2
  have kept := tapCredited_creditedAt awaits
  cases presence : (stationAt s n).presence with
  | present =>
    have none_ : backAlerts (stationAt s n) = 0 := if_neg (by rw [presence]; exact nofun)
    rw [creditExchange_present found presence]
    exact ⟨kept, rfl, by rw [none_]; rfl, fun _ => rfl, fun few => Nat.lt_succ_of_lt few, id⟩
  | absent =>
    have one : backAlerts (stationAt s n) = 1 := if_pos presence
    have told := reportsOffered_alert (.stationBack n (stationAt s n).segment src (stationAt s n).kind
      (stationAt s n).unit) (creditedAt n s)
    rw [creditExchange_back found presence]
    refine ⟨kept.offered told, (exceptLine_of_reports told.rest).trans rfl, by rw [one]; exact told.made,
      fun present => (nomatch presence.symm.trans present), fun few => ?_,
      fun many => ?_⟩
    · have joined := offerReport_length (.alert (.stationBack n (stationAt s n).segment src (stationAt s n).kind
        (stationAt s n).unit)) (creditedAt n s)
      exact Nat.lt_of_le_of_lt joined (Nat.succ_lt_succ few)
    · exact (told.full many).1 ▸ many

/-! ### What the credit leaves to be read -/

theorem TapCredited.roll (h : TapCredited seg n src s c) : c.roll = s.roll := congrArg (·.roll) h.rest

theorem TapCredited.gate (h : TapCredited seg n src s c) : c.gate = s.gate := congrArg (·.gate) h.rest

theorem TapCredited.msg (h : TapCredited seg n src s c) : c.msg = s.msg := congrArg (·.msg) h.rest

theorem TapCredited.params (h : TapCredited seg n src s c) : c.office.params = s.office.params := h.kept.control.1

theorem TapCredited.gateAt (h : TapCredited seg n src s c) (g : Nat) : gateAt c g = gateAt s g :=
  gateAt_of_gate h.gate g

theorem TapCredited.findToken (h : TapCredited seg n src s c) (token : Handle) :
    findToken c token = findToken s token := by rw [Machine.findToken, h.roll]; rfl

theorem TapCredited.tokenPupil (h : TapCredited seg n src s c) (token : Handle) :
    tokenPupil c token = tokenPupil s token := by rw [Machine.tokenPupil, h.findToken]; rfl

theorem TapCredited.writersHeld (h : TapCredited seg n src s c) : writersHeld c = writersHeld s := by
  rw [Machine.writersHeld, rollingOver, h.roll, h.kept.control.2.2.2.2]; rfl

theorem TapCredited.judgeArrival (h : TapCredited seg n src s c) (g t : Nat) :
    judgeArrival c g t = judgeArrival s g t :=
  (congrArg (fun u : State => Machine.judgeArrival u g t) h.rest :)

theorem TapCredited.tapSession (h : TapCredited seg n src s c) (t : Nat) : tapSession c t = tapSession s t :=
  (congrArg (fun u : State => Machine.tapSession u t) h.rest :)

theorem TapCredited.duplicateTap (h : TapCredited seg n src s c) (g : Nat) (token : Handle) :
    duplicateTap c g token = duplicateTap s g token := by
  rw [Machine.duplicateTap, h.gateAt, h.params]; rfl

/-! ### The end of a tap -/

/-- A tap's exchange ended: its reader is answered, and but for the segments all is as the decision left it. -/
theorem TapKept.answered (h : TapKept seg n src s u) {f : FieldFrame} (next : takeNext [f] = some (f, [])) :
    TapAnswered seg f u (closeExchange seg (handFrame seg f u)) := closeExchange_answers h.awaits next

end

section

variable {seg n : Nat} {src : Byte} {f : FieldFrame} {s u t : State}

theorem TapAnswered.roll (h : TapAnswered seg f u t) : t.roll = u.roll := congrArg (·.roll) h.rest

theorem TapAnswered.gate (h : TapAnswered seg f u t) : t.gate = u.gate := congrArg (·.gate) h.rest

theorem TapAnswered.msg (h : TapAnswered seg f u t) : t.msg = u.msg := congrArg (·.msg) h.rest

theorem TapAnswered.office (h : TapAnswered seg f u t) : t.office = u.office := congrArg (·.office) h.rest

theorem TapAnswered.gateAt (h : TapAnswered seg f u t) (g : Nat) : gateAt t g = gateAt u g :=
  gateAt_of_gate h.gate g

theorem TapAnswered.entryAt (h : TapAnswered seg f u t) (k : Nat) : entryAt t k = entryAt u k := by
  rw [Machine.entryAt, h.roll]; rfl

/-- What every answered tap keeps. -/
theorem TapAnswered.keeps (h : TapAnswered seg f u t) (kept : TapKept seg n src s u) :
    stationAt t n = credited (stationAt s n) ∧ t.sched = s.sched ∧ t.bell = s.bell ∧ t.reg = s.reg
      ∧ sameControl s t := by
  have station : stationAt t n = stationAt u n := by
    rw [stationAt, show t.line.stations = u.line.stations from congrArg (·.line.stations) h.rest]; rfl
  refine ⟨station.trans ((kept.stations n).trans (if_pos rfl)), (congrArg (·.sched) h.rest).trans kept.sched,
    (congrArg (·.bell) h.rest).trans kept.bell, (congrArg (·.reg) h.rest).trans kept.reg, ?_⟩
  simpa only [sameControl, h.office] using kept.control

end

/-! ### The command (R68, R149, R156) -/

section

variable {seg n : Nat} {src : Byte} {payload : List Byte} {s : State}

/-- A TAP in a POLL exchange: the station is credited, the tap delivered, and the exchange ended. -/
theorem exec_tap (powered : s.office.powered = true) (awaits : awaitsPoll s seg src n) : exec (.tap seg src payload) s =
    .next (closeExchange seg (deliverTap seg src (stationAt s n) payload (creditExchange seg src true s))) := by
  obtain ⟨sending, exchange, -, -, found⟩ := awaits
  have run : exec (.tap seg src payload) s = .next (fieldFrame seg src tapCode payload s) := whenPowered_on powered _
  rw [run]
  simp [fieldFrame, classifiedFrame, sending, exchange, found, replyToPoll]

/-- A tap's sequence byte is its fifth (Table 3 of Chapter 11). -/
theorem sequenceAt_of_decodeTap {token : Handle} {sq : Nat} (h : decodeTap payload = some (token, sq)) :
    sequenceAt 4 payload = sq := by
  rcases payload with _ | ⟨a, _ | ⟨b, _ | ⟨c, _ | ⟨d, _ | ⟨e, rest⟩⟩⟩⟩⟩
  case cons.cons.cons.cons.cons =>
    cases rest with
    | nil => simp_all [decodeTap, takeHandle, takeNum, finish, sequenceAt]
    | cons f fs => simp [decodeTap, takeHandle, takeNum, finish] at h
  all_goals simp [decodeTap, takeHandle, takeNum] at h

end

/-! ### A tap delivered to the Gate Unit (R68) -/

/-- A TAP of a known layout that the Gate Unit takes, and the state in which it does: the station credited. -/
structure ReaderTap (t : TapIn) (n : Nat) (payload : List Byte) (s c : State) : Prop where
  powered : s.office.powered = true
  awaits : awaitsPoll s t.segment t.address n
  reader : readerDirection (stationAt s n).kind = some t.direction
  unit : (stationAt s n).unit = t.gate
  decoded : decodeTap payload = some (t.token, t.sequence)
  free : writersHeld s = false
  credit : creditExchange t.segment t.address true s = c

/-- The GATE_ANSWER of a tap (R78). -/
def tapFrame (t : TapIn) (a : Answer) (pupil : Option Nat) (j : Option Judged) : FieldFrame :=
  ⟨t.address, .gateAnswer t.sequence a pupil (j.map (·.band)) ((j.map (·.minutes)).getD 0)⟩

/-- A tap's end: the command has run, the reader is answered, and the rest is as the decision left it. -/
structure TapEnds (t : TapIn) (n : Nat) (payload : List Byte) (f : FieldFrame) (s u s' : State) : Prop where
  run : exec (.tap t.segment t.address payload) s = .next s'
  answered : TapAnswered t.segment f u s'
  station : stationAt s' n = credited (stationAt s n)
  sched : s'.sched = s.sched
  bell : s'.bell = s.bell
  reg : s'.reg = s.reg
  control : sameControl s s'

/-- A gate remembers a tap's answer, and the other gates stand. -/
def Remembers (t : TapIn) (a : Answer) (s s' : State) : Prop :=
  (gateAt s' t.gate).memory = some ⟨t.token, a, s.sched.second, 0⟩ ∧ ∀ k, k ≠ t.gate → gateAt s' k = gateAt s k

/-- A tap that its gate's memory does not answer (R69). -/
abbrev Unremembered (t : TapIn) (s : State) : Prop := ∀ m, (gateAt s t.gate).memory = some m →
  s.office.params.dupWindow = 0 ∨ m.token ≠ t.token ∨ s.office.params.dupWindow < m.age

section

variable {t : TapIn} {n slot pupil : Nat} {payload : List Byte} {a : Answer} {j : Option Judged} {e : RollEntry}
  {s c u v : State}

theorem ReaderTap.credited (h : ReaderTap t n payload s c) : TapCredited t.segment n t.address s c :=
  h.credit ▸ creditExchange_credited h.awaits

theorem ReaderTap.ends (h : ReaderTap t n payload s c) {f : FieldFrame} (kept : TapKept t.segment n t.address s u)
    (decides : decideTap t c = handFrame t.segment f u) (next : takeNext [f] = some (f, [])) :
    ∃ s', TapEnds t n payload f s u s' := by
  have free : writersHeld c = false := h.credited.writersHeld.trans h.free
  have delivered : deliverTap t.segment t.address (stationAt s n) payload c = handFrame t.segment f u := by
    rw [← decides]
    simp only [deliverTap, h.reader, free, takeTap, h.decoded, h.unit, Bool.false_eq_true, if_false]
  have answered := kept.answered next
  obtain ⟨station, sched, bell, reg, control⟩ := answered.keeps kept
  exact ⟨_, by rw [exec_tap h.powered h.awaits, h.credit, delivered], answered, station, sched, bell, reg, control⟩

/-! ### The steps of Table 3 -/

theorem ReaderTap.held (h : ReaderTap t n payload s c) {r : Referral} (held : (gateAt s t.gate).referral = some r) :
    ∃ s', TapEnds t n payload (tapFrame t (if r.token = t.token then .hold else .engaged) (tokenPupil s t.token) none)
      s c s' := by
  have heldC : (gateAt c t.gate).referral = some r := by rw [h.credited.gateAt, held]
  refine h.ends h.credited.kept ?_ rfl
  simp only [decideTap, heldC, answerTap, h.credited.tokenPupil]
  rfl

theorem ReaderTap.offline (h : ReaderTap t n payload s c) (none_ : (gateAt s t.gate).referral = none)
    (out : outOfService c t.gate = true) :
    ∃ s', TapEnds t n payload (tapFrame t .seeOffice (tokenPupil s t.token) none) s c s' := by
  have noneC : (gateAt c t.gate).referral = none := by rw [h.credited.gateAt, none_]
  refine h.ends h.credited.kept ?_ rfl
  simp only [decideTap, noneC, out, if_true, answerTap, h.credited.tokenPupil]
  rfl

/-- Past the first two steps of Table 3. -/
theorem ReaderTap.ready (h : ReaderTap t n payload s c) (none_ : (gateAt s t.gate).referral = none)
    (serves : outOfService c t.gate = false) : decideTap t c = freshTap t c := by
  have noneC : (gateAt c t.gate).referral = none := by rw [h.credited.gateAt, none_]
  simp only [decideTap, noneC, serves, Bool.false_eq_true, if_false]

theorem ReaderTap.repeated (h : ReaderTap t n payload s c) (ready : decideTap t c = freshTap t c) {m : TapMemory}
    (memory : (gateAt s t.gate).memory = some m) (window : s.office.params.dupWindow ≠ 0) (same : m.token = t.token)
    (young : m.age ≤ s.office.params.dupWindow) :
    ∃ s', TapEnds t n payload (tapFrame t m.answer (tokenPupil s t.token) none) s c s' := by
  have again : duplicateTap c t.gate t.token = some m.answer := by
    rw [h.credited.duplicateTap]
    simp only [duplicateTap, memory, window, same, young, ne_eq, not_false_eq_true, and_self, if_true]
  refine h.ends h.credited.kept ?_ rfl
  rw [ready]
  simp only [freshTap, again, answerTap, h.credited.tokenPupil]
  rfl

/-- Past the memory. -/
theorem ReaderTap.forgotten (h : ReaderTap t n payload s c) (unremembered : Unremembered t s) :
    duplicateTap c t.gate t.token = none := by
  rw [h.credited.duplicateTap]
  unfold duplicateTap
  cases memory : (gateAt s t.gate).memory with
  | none => rfl
  | some m =>
    refine if_neg fun ⟨window, same, young⟩ => ?_
    rcases unremembered m memory with zero | other | old
    · exact window zero
    · exact other same
    · omega

/-- A tap decided at steps 4 to 7 of Table 3: its answer is sent and remembered. -/
theorem ReaderTap.decided (h : ReaderTap t n payload s c) (kept : TapKept t.segment n t.address s u)
    (others : ∀ k, k ≠ t.gate → gateAt u k = gateAt s k) (decides : decideTap t c = decided t a j u) :
    ∃ s', TapEnds t n payload (tapFrame t a (tokenPupil u t.token) j) s (remember t.gate t.token a u) s'
      ∧ Remembers t a s s' := by
  obtain ⟨s', ends⟩ := h.ends (u := remember t.gate t.token a u) (kept.gated _)
    (decides.trans (decided_awaiting kept.awaits a j)) rfl
  refine ⟨s', ends, ?_, fun k hk => ?_⟩
  · rw [ends.answered.gateAt, remember_gateAt, if_pos rfl, kept.sched]; rfl
  · rw [ends.answered.gateAt, remember_gateAt, if_neg hk, others k hk]

theorem ReaderTap.unknown (h : ReaderTap t n payload s c) (ready : decideTap t c = freshTap t c)
    (unremembered : Unremembered t s) (stranger : findToken s t.token = none) : ∃ u s',
      ReportsOffered 1 c u ∧ TapEnds t n payload (tapFrame t .refuse none none) s (remember t.gate t.token .refuse u) s'
        ∧ Remembers t .refuse s s' := by
  have told := reportsOffered_alert (.unknownToken t.gate t.direction t.token c.sched.second) c
  have decides := ready
  simp only [freshTap, h.forgotten unremembered, h.credited.findToken, stranger] at decides
  obtain ⟨u, hu⟩ : ∃ u, alert (.unknownToken t.gate t.direction t.token c.sched.second) c = u := ⟨_, rfl⟩
  rw [hu] at told decides
  have nobody : tokenPupil u t.token = none := by
    rw [tokenPupil, findToken, told.roll, ← findToken, h.credited.findToken, stranger]; rfl
  obtain ⟨s', ends, remembers⟩ := h.decided (h.credited.kept.offered told)
    (fun k _ => (gateAt_of_gate told.gate k).trans (h.credited.gateAt k)) decides
  rw [nobody] at ends
  exact ⟨u, s', told, ends, remembers⟩

theorem tokenPupil_of_find (found : findToken s t.token = some (slot, e)) : tokenPupil s t.token = some e.pupil := by
  rw [tokenPupil, found]; rfl

theorem ReaderTap.shut (h : ReaderTap t n payload s c) (ready : decideTap t c = freshTap t c)
    (unremembered : Unremembered t s) (found : findToken s t.token = some (slot, e))
    (shut : (gateAt s t.gate).mode = .shut) : ∃ s',
      TapEnds t n payload (tapFrame t .refuse (some e.pupil) none) s (remember t.gate t.token .refuse c) s'
        ∧ Remembers t .refuse s s' := by
  have decides := ready
  simp only [freshTap, h.forgotten unremembered, h.credited.findToken, h.credited.gateAt, found, shut,
    if_true] at decides
  obtain ⟨s', ends, remembers⟩ := h.decided h.credited.kept (fun k _ => h.credited.gateAt k) decides
  rw [h.credited.tokenPupil, tokenPupil_of_find found] at ends
  exact ⟨s', ends, remembers⟩

theorem ReaderTap.known (h : ReaderTap t n payload s c) (ready : decideTap t c = freshTap t c)
    (unremembered : Unremembered t s) (found : findToken s t.token = some (slot, e))
    (admits : (gateAt s t.gate).mode ≠ .shut) : decideTap t c = knownTap t slot e c := by
  rw [ready]
  simp only [freshTap, h.forgotten unremembered, h.credited.findToken, h.credited.gateAt, found, admits, if_false]

/-! ### A tap that needs a referral (R79) -/

/-- A gate's referral written, under the next number. -/
def withReferral (g : Nat) (r : Referral) (s : State) : State :=
  setGateAt g { gateAt s g with referral := some r } (s.modGate fun u => { u with referralCounter := r.number })

theorem withReferral_gateAt (g k : Nat) (r : Referral) (s : State) : gateAt (withReferral g r s) k =
    if k = g then { gateAt s g with referral := some r } else gateAt s k := by
  rw [withReferral, gateAt_setGateAt]; rfl

theorem makeReferral_room {why : ReferralReason} {session : Option Session} (room : reportRoom s = true) :
    ∃ b, makeReferral t slot pupil why session j s = Machine.decided t .hold j (withReferral t.gate
      (referralFor s t slot why session (j.map (·.band)) ((j.map (·.minutes)).getD 0)) (alert b s)) :=
  ⟨_, if_pos room⟩

/-- The REFERRAL_EXPIRED movement of a tap that the report queue has no room to hold (R79). -/
def unheldMovement (s : State) (t : TapIn) (pupil : Nat) : Movement :=
  { second := s.sched.second, gate := t.gate, direction := t.direction, pupil := pupil, kind := .referralExpired
    minutes := none, referral := none }

theorem makeReferral_full {why : ReferralReason} {session : Option Session} (full : reportRoom s = false) :
    makeReferral t slot pupil why session j s =
      Machine.decided t .seeOffice j (recordMovement (unheldMovement s t pupil) slot none s) :=
  if_neg (by rw [full]; exact Bool.false_ne_true)

/-- What a hold leaves of the Gate Unit and the roll. -/
structure TapHeld (t : TapIn) (r : Referral) (s s' : State) : Prop where
  referral : (gateAt s' t.gate).referral = some r
  counter : s'.gate.referralCounter = r.number
  movements : s'.gate.movements = s.gate.movements
  roll : s'.roll = s.roll
  msg : s'.msg = s.msg

theorem ReaderTap.holds (h : ReaderTap t n payload s c) {why : ReferralReason} {session : Option Session}
    (found : findToken s t.token = some (slot, e)) (few : s.office.reports.length < 63)
    (decides : decideTap t c = makeReferral t slot pupil why session j c) : ∃ v s',
      TapEnds t n payload (tapFrame t .hold (some e.pupil) j) s v s' ∧ Remembers t .hold s s'
        ∧ TapHeld t (referralFor c t slot why session (j.map (·.band)) ((j.map (·.minutes)).getD 0)) s s' := by
  have room : reportRoom c = true := decide_eq_true (h.credited.room few)
  obtain ⟨b, made⟩ := makeReferral_room (t := t) (slot := slot) (pupil := pupil) (why := why) (session := session)
    (j := j) room
  rw [made] at decides
  generalize referralFor c t slot why session (j.map (·.band)) ((j.map (·.minutes)).getD 0) = r at decides
  have told := reportsOffered_alert b c
  obtain ⟨u, hu⟩ : ∃ u, alert b c = u := ⟨_, rfl⟩
  rw [hu] at told decides
  have others (k : Nat) (hk : k ≠ t.gate) : gateAt (withReferral t.gate r u) k = gateAt s k := by
    rw [withReferral_gateAt, if_neg hk, gateAt_of_gate told.gate, h.credited.gateAt]
  have kept : TapKept t.segment n t.address s (withReferral t.gate r u) := (h.credited.kept.offered told).gated _
  obtain ⟨s', ends, remembers⟩ := h.decided kept others decides
  have roll : (withReferral t.gate r u).roll = s.roll := told.roll.trans h.credited.roll
  have names : tokenPupil (withReferral t.gate r u) t.token = some e.pupil := by
    rw [tokenPupil, findToken, roll, ← findToken, found]; rfl
  rw [names] at ends
  refine ⟨_, s', ends, remembers, ?_, ?_, ?_, ends.answered.roll.trans roll, ?_⟩
  · rw [ends.answered.gateAt, remember_gateAt, if_pos rfl, withReferral_gateAt, if_pos rfl]; rfl
  · rw [ends.answered.gate]; rfl
  · rw [ends.answered.gate]
    exact (congrArg (·.movements) told.gate).trans (congrArg (·.movements) h.credited.gate)
  · exact ends.answered.msg.trans ((congrArg (·.msg) told.rest).trans h.credited.msg)

/-- What SEE_OFFICE for want of room leaves of the Gate Unit, the roll and the reports. -/
structure TapUnheld (t : TapIn) (n pupil : Nat) (s s' : State) : Prop where
  referral : (gateAt s' t.gate).referral = (gateAt s t.gate).referral
  counter : s'.gate.referralCounter = s.gate.referralCounter
  roll : s'.roll = s.roll
  msg : s'.msg = s.msg
  recorded : movementRecorded (unheldMovement s t pupil) s s'
  lost : (stationAt s n).presence = .present →
    s'.office.reports = s.office.reports ∧ s'.office.lost = min 65535 (s.office.lost + movementReports s)

theorem ReaderTap.unheld (h : ReaderTap t n payload s c) {why : ReferralReason} {session : Option Session}
    (found : findToken s t.token = some (slot, e)) (many : 64 ≤ s.office.reports.length)
    (decides : decideTap t c = makeReferral t slot pupil why session j c) : ∃ v s',
      TapEnds t n payload (tapFrame t .seeOffice (some e.pupil) j) s v s' ∧ Remembers t .seeOffice s s'
        ∧ TapUnheld t n pupil s s' := by
  have full : reportRoom c = false := decide_eq_false (Nat.not_lt.mpr (h.credited.full many))
  have same : unheldMovement c t pupil = unheldMovement s t pupil := by
    rw [unheldMovement, h.credited.kept.sched]; rfl
  have moved := recordMovement_made (unheldMovement c t pupil) slot none c
  rw [makeReferral_full full] at decides
  obtain ⟨u, hu⟩ : ∃ u, recordMovement (unheldMovement c t pupil) slot none c = u := ⟨_, rfl⟩
  rw [hu] at moved decides
  rw [same] at moved
  obtain ⟨s', ends, remembers⟩ := h.decided (h.credited.kept.recorded moved)
    (fun k _ => (moved.gateAt k).trans (h.credited.gateAt k)) decides
  have roll : u.roll = s.roll := moved.roll.trans h.credited.roll
  have names : tokenPupil u t.token = some e.pupil := by rw [tokenPupil, findToken, roll, ← findToken, found]; rfl
  rw [names] at ends
  have before : s.gate.movements = c.gate.movements ∧ s.gate.movementsFull = c.gate.movementsFull := by
    rw [h.credited.gate]; exact ⟨rfl, rfl⟩
  refine ⟨_, s', ends, remembers, ?_, ?_, ends.answered.roll.trans roll, ?_, ?_, fun present => ?_⟩
  · rw [ends.answered.gateAt, remember_gateAt, if_pos rfl, moved.gateAt, h.credited.gateAt]; rfl
  · rw [ends.answered.gate, ← h.credited.gate]; exact moved.counter
  · exact ends.answered.msg.trans ((congrArg (·.msg) moved.rest).trans h.credited.msg)
  · refine movementRecorded_of_same moved.recorded before ?_
    rw [ends.answered.gate]
    exact ⟨rfl, rfl⟩
  · obtain ⟨reports, lost⟩ := moved.full (h.credited.full many)
    rw [h.credited.present present, ← movementReports_of_same before] at lost
    rw [h.credited.present present] at reports
    rw [ends.answered.office]
    exact ⟨reports, lost⟩

end

end Sys2Proof.Machine
end

section
/-! PROOFS. A TAP at an OUT reader (R65, R68 to R71, R78 to R80), step by step of Table 3 of Chapter 4. -/

namespace Sys2Proof.Machine

open Sys2Proof

section

variable {t : TapIn} {n : Nat} {payload : List Byte} {s c : State}

/-- The credit of an OUT reader is no part of whether a gate is out of service (R65). -/
theorem TapKept.outOfService {seg n : Nat} {src : Byte} (h : TapKept seg n src s c)
    (out : (stationAt s n).kind ≠ .gateIn) (g : Nat) : outOfService c g = outOfService s g := by
  have serves (k : Nat) : ((stationAt c k).enabled && (stationAt c k).kind == .gateIn && (stationAt c k).unit == g
        && (stationAt c k).presence == .present)
      = ((stationAt s k).enabled && (stationAt s k).kind == .gateIn && (stationAt s k).unit == g
        && (stationAt s k).presence == .present) := by
    rw [h.stations k]
    split
    · subst_vars; simp [credited, out]
    · rfl
  simp only [Machine.outOfService, serves]

/-- A known token's entry is its slot's (R70). -/
theorem entryAt_of_token {slot : Nat} {e : RollEntry} {token : Handle} (ordered : RollOrdered s)
    (found : findToken s token = some (slot, e)) : entryAt s slot = some e := by
  unfold findToken at found
  split at found
  · cases found
  · exact entryAt_of_find ordered.1 found

/-- A movement recorded by a tap is recorded between the tap's two states. -/
theorem TapCredited.recorded {seg n : Nat} {src : Byte} {m : Movement} {v s' : State} (h : TapCredited seg n src s c)
    (recorded : movementRecorded m c v)
    (same : s'.gate.movements = v.gate.movements ∧ s'.gate.movementsFull = v.gate.movementsFull) :
    movementRecorded m s s' :=
  movementRecorded_of_same recorded (by rw [h.gate]; exact ⟨rfl, rfl⟩) same

/-- The reports of a tap that records a movement (R83, R155). -/
theorem TapCredited.moves {seg n : Nat} {src : Byte} {v s' : State} (h : TapCredited seg n src s c)
    (made : reportsMade (movementReports c) c v) (office : s'.office = v.office) :
    reportsMade (movementReports s + backAlerts (stationAt s n)) s s' := by
  have both := reportsMade_trans h.made made
  rw [movementReports_of_same (s := s) (by rw [h.gate]; exact ⟨rfl, rfl⟩), Nat.add_comm, reportsMade, ← office] at both
  exact both

/-- An OUT tap of a pupil who may leave alone (R71). -/
theorem ReaderTap.signsOut {slot : Nat} {e : RollEntry} (h : ReaderTap t n payload s c) (ordered : RollOrdered s)
    (found : findToken s t.token = some (slot, e))
    (decides : decideTap t c = Machine.decided t .opened none (applySignOut slot t.gate c.sched.second none c)) :
    ∃ v s',
      TapEnds t n payload (tapFrame t .opened (some e.pupil) none) s (remember t.gate t.token .opened v) s'
        ∧ Remembers t .opened s s' ∧ PupilMoved (signOutMovement c slot t.gate s.sched.second none) slot c v
        ∧ SignedOut slot e c v := by
  have he : entryAt c slot = some e := by rw [entryAt, h.credited.roll]; exact entryAt_of_token ordered found
  rw [h.credited.kept.sched] at decides
  have moved := applySignOut_moves slot t.gate s.sched.second none c
  have out := applySignOut_signsOut he t.gate s.sched.second none
  obtain ⟨u, hu⟩ : ∃ u, applySignOut slot t.gate s.sched.second none c = u := ⟨_, rfl⟩
  rw [hu] at decides moved out
  have orderedC : RollOrdered c := by rw [RollOrdered, h.credited.roll]; exact ordered
  obtain ⟨s', ends, remembers⟩ := h.decided (h.credited.kept.moved moved)
    (fun k _ => by rw [gateAt, moved.gates]; exact h.credited.gateAt k) decides
  rw [tokenPupil_of_names moved.names orderedC, h.credited.tokenPupil, tokenPupil_of_find found] at ends
  exact ⟨u, s', ends, remembers, moved, out⟩

end

/-- Settles O49: the steps of Table 3 at an OUT reader. -/
theorem outwardTapIsAnswered : Obligations.OutwardTapIsAnswered := by
  intro s seg n g sq src payload token powered ordered awaits kind unit decoded free answers remembers ready fresh
  let t : TapIn := ⟨g, .outward, token, sq, seg, src⟩
  have h : ReaderTap t n payload s (creditExchange seg src true s) :=
    ⟨powered, awaits, by rw [kind]; rfl, unit, decoded, free, rfl⟩
  generalize creditExchange seg src true s = c at h
  have credited := h.credited
  have serving : outOfService c g = outOfService s g := credited.kept.outOfService (by rw [kind]; exact nofun) g
  have answer {a : Answer} {pupil : Option Nat} {v s' : State}
      (ends : TapEnds t n payload (tapFrame t a pupil none) s v s') (msg : v.msg = s.msg) : answers s' a pupil :=
    ⟨ends.run, ends.answered.sends, ends.sched, ends.bell, ends.reg, ends.answered.msg.trans msg, ends.control⟩
  have proceeds (r : ready) : decideTap t c = freshTap t c := h.ready r.1 (serving.trans r.2)
  refine ⟨fun r held => ?_, fun none_ out => ?_, fun m r memory window same young => ?_, fun f stranger => ?_,
    fun slot e f found => ⟨fun shut => ?_, fun admits leaves => ?_, fun admits stays few => ?_,
      fun admits stays many => ?_⟩⟩
  · obtain ⟨s', ends⟩ := h.held held
    exact ⟨s', answer ends credited.msg, ends.answered.roll.trans credited.roll, ends.answered.gate.trans credited.gate⟩
  · obtain ⟨s', ends⟩ := h.offline none_ (serving.trans out)
    exact ⟨s', answer ends credited.msg, ends.answered.roll.trans credited.roll, ends.answered.gate.trans credited.gate⟩
  · obtain ⟨s', ends⟩ := h.repeated (proceeds r) memory window same young
    exact ⟨s', answer ends credited.msg, ends.answered.roll.trans credited.roll, ends.answered.gate.trans credited.gate⟩
  · obtain ⟨u, s', told, ends, memory⟩ := h.unknown (proceeds f.1) f.2 stranger
    have made := reportsMade_trans credited.made told.made
    refine ⟨s', answer ends ((congrArg (·.msg) told.rest).trans credited.msg), memory,
      ends.answered.roll.trans (told.roll.trans credited.roll), ?_, ?_⟩
    · rw [ends.answered.gate, ← credited.gate]; exact congrArg (·.movements) told.gate
    · rw [Nat.add_comm, reportsMade, ends.answered.office]; exact made
  · obtain ⟨s', ends, memory⟩ := h.shut (proceeds f.1) f.2 found shut
    refine ⟨s', answer ends credited.msg, memory, ends.answered.roll.trans credited.roll, ?_⟩
    rw [ends.answered.gate, ← credited.gate]
    rfl
  · have known := h.known (proceeds f.1) f.2 found admits
    simp only [knownTap, t, leaves, Bool.false_eq_true, if_false] at known
    obtain ⟨v, s', ends, memory, moved, out⟩ := h.signsOut ordered found known
    have movement : signOutMovement c slot g s.sched.second none = signOutMovement s slot g s.sched.second none := by
      rw [signOutMovement, pupilAt_of_roll credited.roll]; rfl
    have pupil : pupilAt s slot = e.pupil := by rw [pupilAt, entryAt_of_token ordered found]; rfl
    refine ⟨s', answer ends (out.msg.trans credited.msg), memory, ?_, fun k hk => ?_, ?_,
      credited.moves out.made ends.answered.office, ?_⟩
    · exact (ends.answered.entryAt slot).trans out.entry
    · refine (ends.answered.entryAt k).trans ((out.others k hk).trans ?_)
      rw [entryAt, credited.roll]; rfl
    · have recorded := credited.recorded moved.recorded (s' := s') (by rw [ends.answered.gate]; exact ⟨rfl, rfl⟩)
      rw [movement] at recorded
      rw [← pupil]
      exact recorded
    · rw [ends.answered.gate, ← credited.gate]; exact out.count
  · have known := h.known (proceeds f.1) f.2 found admits
    simp only [knownTap, t, stays, if_true] at known
    obtain ⟨v, s', ends, memory, held⟩ := h.holds found few known
    refine ⟨s', _, ⟨ends.run, ends.answered.sends, ends.sched, ends.bell, ends.reg, held.msg, ends.control⟩, memory,
      held.referral, rfl, rfl, rfl, ?_, rfl, rfl, ?_, held.counter, ?_, held.roll, held.movements⟩
    · show (tapSession c c.sched.second).map Prod.fst = _
      rw [credited.kept.sched, credited.tapSession]
    · show (c.gate.referralCounter + 1) % 256 = _
      rw [credited.gate]
    · show c.office.params.referralTimeout = _
      rw [credited.params]
  · have known := h.known (proceeds f.1) f.2 found admits
    simp only [knownTap, t, stays, if_true] at known
    obtain ⟨v, s', ends, memory, unheld⟩ := h.unheld found many known
    exact ⟨s', ⟨ends.run, ends.answered.sends, ends.sched, ends.bell, ends.reg, unheld.msg, ends.control⟩, memory,
      unheld.referral.trans f.1.1, unheld.counter, unheld.roll, unheld.recorded, unheld.lost⟩

end Sys2Proof.Machine
end

section
/-! PROOFS. A TAP at an IN reader (R68 to R72, R76 to R80), step by step of Table 3 of Chapter 4, and the answers
that come before any step. -/

namespace Sys2Proof.Machine

open Sys2Proof

section

variable {t : TapIn} {n slot : Nat} {payload : List Byte} {j : Judged} {e : RollEntry} {s c : State}

/-! ### Before the steps of Table 3 (R68, R156) -/

/-- A TAP without the layout, at a reader of either kind (R68). -/
theorem malformedTap_ends {seg n : Nat} {src : Byte} {d : Direction} (powered : s.office.powered = true)
    (awaits : awaitsPoll s seg src n) (reader : readerDirection (stationAt s n).kind = some d)
    (free : writersHeld s = false) (malformed : decodeTap payload = none) :
    ∃ c s', exec (.tap seg src payload) s = .next s' ∧ TapCredited seg n src s c
      ∧ TapAnswered seg ⟨src, .gateAnswer (sequenceAt 4 payload) .refuse none none 0⟩ c s' := by
  have credited := creditExchange_credited awaits
  have run := exec_tap (payload := payload) powered awaits
  generalize creditExchange seg src true s = c at credited run
  have freeC : writersHeld c = false := credited.writersHeld.trans free
  have delivered : deliverTap seg src (stationAt s n) payload c
      = handFrame seg ⟨src, .gateAnswer (sequenceAt 4 payload) .refuse none none 0⟩ c := by
    simp only [deliverTap, reader, freeC, takeTap, malformed, Bool.false_eq_true, if_false]
    rfl
  rw [delivered] at run
  exact ⟨c, _, run, credited, credited.kept.answered rfl⟩

/-- A TAP while writers of the roll are held off (R156). -/
theorem busyTap_ends {seg n : Nat} {src : Byte} {d : Direction} (powered : s.office.powered = true)
    (awaits : awaitsPoll s seg src n) (reader : readerDirection (stationAt s n).kind = some d)
    (busy : writersHeld s = true) : ∃ c s', exec (.tap seg src payload) s = .next s' ∧ TapCredited seg n src s c
      ∧ TapAnswered seg ⟨src, .busy tapCode (sequenceAt 4 payload)⟩ c s' := by
  have credited := creditExchange_credited awaits
  have run := exec_tap (payload := payload) powered awaits
  generalize creditExchange seg src true s = c at credited run
  have busyC : writersHeld c = true := credited.writersHeld.trans busy
  have delivered : deliverTap seg src (stationAt s n) payload c
      = handFrame seg ⟨src, .busy tapCode (sequenceAt 4 payload)⟩ c := by
    simp only [deliverTap, reader, busyC, if_true]
    rfl
  rw [delivered] at run
  exact ⟨c, _, run, credited, credited.kept.answered rfl⟩

/-! ### The reader's own gate (R65) -/

theorem classify_enabled {seg n : Nat} {src : Byte} (found : classify s seg src = some n) :
    n < 48 ∧ (stationAt s n).enabled = true := by
  unfold classify at found
  split at found
  · have near := List.find?_some found
    simp only [stationMatches, Bool.and_eq_true] at near
    exact ⟨List.mem_range.mp (List.mem_of_find?_eq_some found), near.1.1⟩
  · cases found

/-- The gate of an IN reader that has just answered is in service. -/
theorem TapKept.inService {seg n : Nat} {src : Byte} (h : TapKept seg n src s c) (found : classify s seg src = some n)
    (inward : (stationAt s n).kind = .gateIn) : Machine.outOfService c (stationAt s n).unit = false := by
  obtain ⟨small, enabled⟩ := classify_enabled found
  have here : stationAt c n = credited (stationAt s n) := (h.stations n).trans (if_pos rfl)
  have serves : ((List.range 48).any fun k => (stationAt c k).enabled && (stationAt c k).kind == .gateIn
      && (stationAt c k).unit == (stationAt s n).unit && (stationAt c k).presence == .present) = true := by
    refine List.any_eq_true.mpr ⟨n, List.mem_range.mpr small, ?_⟩
    simp [here, credited, enabled, inward]
  unfold Machine.outOfService
  rw [Bool.not_eq_false']
  exact serves

/-! ### A known pupil's arrival (R72, R76, R77) -/

/-- Why an IN tap needs a referral, if it does (R72). -/
theorem inwardReferral_none_iff (mode : GateMode) (b : Band) (flag : Bool) : inwardReferral mode b flag = none ↔
    ¬(mode = .referral ∨ (mode = .timed ∧ b = .lateAfterClose) ∨ flag = true) := by
  unfold inwardReferral
  split
  · simp [*]
  · split
    · simp [*]
    · split <;> simp [*]

theorem ReaderTap.judged (h : ReaderTap t n payload s c) :
    judgeArrival c t.gate c.sched.second = judgeArrival s t.gate s.sched.second := by
  rw [h.credited.kept.sched, h.credited.judgeArrival]

/-- An IN tap of a pupil who is not held (R76). -/
theorem ReaderTap.arrives (h : ReaderTap t n payload s c) (ordered : RollOrdered s)
    (found : findToken s t.token = some (slot, e)) (decides : decideTap t c = Machine.decided t .opened (some j)
      (applyArrival slot t.gate j c.sched.second c.sched.second none false c).1) : ∃ v s' e',
      TapEnds t n payload (tapFrame t .opened (some e.pupil) (some j)) s (remember t.gate t.token .opened v) s'
        ∧ Remembers t .opened s s'
        ∧ PupilMoved (arrivalMovement s slot t.gate j s.sched.second none) slot c v ∧ entryAt v slot = some e'
        ∧ undone e' = undone (appliedEntry s.sched.second t.gate j false e) := by
  have heS : entryAt s slot = some e := entryAt_of_token ordered found
  have he : entryAt c slot = some e := by rw [entryAt, h.credited.roll]; exact heS
  have movement : arrivalMovement c slot t.gate j s.sched.second none
      = arrivalMovement s slot t.gate j s.sched.second none := by
    simp only [arrivalMovement, (Holds.of_entry he).siteAt, (Holds.of_entry heS).siteAt,
      pupilAt_of_roll h.credited.roll]
  have orderedC : RollOrdered c := by rw [RollOrdered, h.credited.roll]; exact ordered
  rw [h.credited.kept.sched] at decides
  have moved := applyArrival_moves slot t.gate j s.sched.second s.sched.second none c false
  have entry := (Holds.of_entry he).applyArrival (t := s.sched.second) (g := t.gate) (j := j) s.sched.second none false
  obtain ⟨u, hu⟩ : ∃ u, (applyArrival slot t.gate j s.sched.second s.sched.second none false c).1 = u := ⟨_, rfl⟩
  rw [hu] at decides moved entry
  obtain ⟨e', he', same⟩ := entry.entry
  obtain ⟨s', ends, remembers⟩ := h.decided (h.credited.kept.moved moved)
    (fun k _ => by rw [gateAt, moved.gates]; exact h.credited.gateAt k) decides
  rw [tokenPupil_of_names moved.names orderedC, h.credited.tokenPupil, tokenPupil_of_find found] at ends
  exact ⟨u, s', e', ends, remembers, movement ▸ moved, he', same⟩

/-- Other pupils' records keep all but their done flags. -/
theorem PupilMoved.otherPupils {m : Movement} {v : State} (h : PupilMoved m slot s v) : otherPupilsStand slot s v :=
  fun k hk => by
    have same := congrArg (Option.map fun y : RollEntry => (y.pupil, y.day.marks, y.day.onSite, y.term)) (h.others k hk)
    rw [Option.map_map, Option.map_map] at same
    exact same

end

/-! ### The obligation's two halves -/

/-- A TAP without the layout, at a reader of either kind. -/
theorem malformedTap_answered (s : State) (seg n : Nat) (src : Byte) (payload : List Byte)
    (powered : s.office.powered = true) (awaits : awaitsPoll s seg src n)
    (reader : (stationAt s n).kind = .gateIn ∨ (stationAt s n).kind = .gateOut) (free : writersHeld s = false)
    (malformed : decodeTap payload = none) : ∃ t, exec (.tap seg src payload) s = .next t
      ∧ nowSends t seg ⟨src, .gateAnswer ((payload[4]?.map (·.toNat)).getD 0) .refuse none none 0⟩
      ∧ stationAt t n = credited (stationAt s n) ∧ (∀ k, k ≠ n → stationAt t k = stationAt s k)
      ∧ reportsMade (backAlerts (stationAt s n)) s t ∧ t.roll = s.roll ∧ t.sched = s.sched ∧ t.bell = s.bell
      ∧ t.gate = s.gate ∧ t.reg = s.reg ∧ t.msg = s.msg ∧ sameControl s t := by
  have direction : ∃ d, readerDirection (stationAt s n).kind = some d := by
    rcases reader with kind | kind <;> rw [kind]
    · exact ⟨.inward, rfl⟩
    · exact ⟨.outward, rfl⟩
  obtain ⟨d, direction⟩ := direction
  obtain ⟨c, t, run, credited, answered⟩ := malformedTap_ends powered awaits direction free malformed
  obtain ⟨station, sched, bell, reg, control⟩ := answered.keeps credited.kept
  refine ⟨t, run, answered.sends, station, fun k hk => ?_, ?_, answered.roll.trans credited.roll, sched, bell,
    answered.gate.trans credited.gate, reg, answered.msg.trans credited.msg, control⟩
  · have stations : t.line.stations = c.line.stations := congrArg (·.line.stations) answered.rest
    rw [stationAt, stations]
    exact (credited.kept.stations k).trans (if_neg hk)
  · rw [reportsMade, answered.office]; exact credited.made

/-- Settles O48: a TAP without the layout, and the steps of Table 3 at an IN reader. -/
theorem inwardTapIsAnswered : Obligations.InwardTapIsAnswered := by
  refine ⟨malformedTap_answered, ?_⟩
  intro s seg n g sq src payload token powered awaits kind unit decoded answers remembers fresh
  let t : TapIn := ⟨g, .inward, token, sq, seg, src⟩
  have direction : readerDirection (stationAt s n).kind = some .inward := by rw [kind]; rfl
  have tapped (free : writersHeld s = false) : ReaderTap t n payload s (creditExchange seg src true s) :=
    ⟨powered, awaits, direction, unit, decoded, free, rfl⟩
  have credited := creditExchange_credited awaits
  generalize creditExchange seg src true s = c at tapped credited
  have serving : outOfService c g = false := unit ▸ credited.kept.inService awaits.2.2.2.2 kind
  have answer {a : Answer} {pupil : Option Nat} {j : Option Judged} {v s' : State}
      (ends : TapEnds t n payload (tapFrame t a pupil j) s v s') : answers s' a pupil j :=
    ⟨ends.run, ends.answered.sends, ends.station, ends.sched, ends.bell, ends.reg, ends.control⟩
  have proceeds (f : fresh) : decideTap t c = freshTap t c := (tapped f.1).ready f.2.1 serving
  refine ⟨fun busy => ?_, fun r free held => ?_, fun m free none_ memory window same young => ?_, fun f stranger => ?_,
    fun slot e f ordered found => ?_⟩
  · obtain ⟨c, s', run, credited, answered⟩ := busyTap_ends (payload := payload) powered awaits direction busy
    rw [sequenceAt_of_decodeTap decoded] at answered
    exact ⟨s', run, answered.sends, answered.roll.trans credited.roll, answered.gate.trans credited.gate⟩
  · obtain ⟨s', ends⟩ := (tapped free).held held
    exact ⟨s', answer ends, ends.answered.roll.trans credited.roll, ends.answered.gate.trans credited.gate,
      ends.answered.msg.trans credited.msg⟩
  · obtain ⟨s', ends⟩ := (tapped free).repeated ((tapped free).ready none_ serving) memory window same young
    exact ⟨s', answer ends, ends.answered.roll.trans credited.roll, ends.answered.gate.trans credited.gate,
      ends.answered.msg.trans credited.msg⟩
  · obtain ⟨u, s', told, ends, memory⟩ := (tapped f.1).unknown (proceeds f) f.2.2 stranger
    refine ⟨s', answer ends, memory, ends.answered.roll.trans (told.roll.trans credited.roll), ?_⟩
    rw [ends.answered.gate, ← credited.gate]
    exact congrArg (·.movements) told.gate
  · have h := tapped f.1
    intro j mode kind_ held
    have judged : judgeArrival c g c.sched.second = j := h.judged
    have refers (admits : mode ≠ .shut) : decideTap t c = knownTap t slot e c := h.known (proceeds f) f.2.2 found admits
    have why : ∀ w, inwardReferral (gateAt c g).mode j.band e.referOnArrival = some w →
        knownTap t slot e c = makeReferral t slot e.pupil w j.session (some j) c := fun w why => by
      simp only [knownTap, t, judged, why]
    have reason (holds : held) : ∃ w, inwardReferral (gateAt c g).mode j.band e.referOnArrival = some w := by
      rw [credited.gateAt, ← Option.ne_none_iff_exists']
      exact fun none_ => (inwardReferral_none_iff ..).mp none_ holds
    refine ⟨fun shut => ?_, fun admits free => ?_, fun admits holds few => ?_, fun admits holds many => ?_⟩
    · obtain ⟨s', ends, memory⟩ := h.shut (proceeds f) f.2.2 found shut
      exact ⟨s', answer ends, memory, ends.answered.roll.trans credited.roll⟩
    · have arrival : inwardReferral (gateAt c g).mode j.band e.referOnArrival = none := by
        rw [credited.gateAt]; exact (inwardReferral_none_iff ..).mpr free
      have known := refers admits
      simp only [knownTap, t, judged, arrival] at known
      obtain ⟨v, s', e', ends, memory, moved, he', same⟩ := h.arrives ordered found known
      have he := entryAt_of_token ordered found
      obtain ⟨site, arrived, term, -, -⟩ := appliedEntry_arrived s.sched.second g j false e
      have movement : arrivalMovement s slot g j s.sched.second none =
          { second := s.sched.second, gate := g, direction := .inward, pupil := e.pupil, kind := kind_
            minutes := movementMinutes kind_ j.minutes, referral := none } := by
        simp only [arrivalMovement, (Holds.of_entry he).siteAt, pupilAt, he, Option.map_some, Option.getD_some]
        rfl
      refine ⟨s', e', answer ends, memory, (ends.answered.entryAt slot).trans he',
        (congrArg (·.day.onSite) same).trans site, (congrArg (·.day.arrival) same).trans arrived, ?_, fun none_ => ?_,
        (congrArg (·.term) same).trans term, arrivalRecorded_of_undone same (appliedEntry_recorded _ g j e),
        fun k hk => ?_⟩
      · have recorded := credited.recorded moved.recorded (s' := s') (by rw [ends.answered.gate]; exact ⟨rfl, rfl⟩)
        rw [← movement]
        exact recorded
      · exact credited.moves (moved.made (by rw [credited.msg]; exact none_)) ends.answered.office
      · have others := moved.otherPupils k hk
        have left : entryAt s' k = entryAt v k := ends.answered.entryAt k
        have found : entryAt c k = entryAt s k := by rw [entryAt, credited.roll]; rfl
        rw [left, ← found]
        exact others
    · obtain ⟨w, hw⟩ := reason holds
      obtain ⟨v, s', ends, memory, kept⟩ := h.holds found few ((refers admits).trans (why w hw))
      refine ⟨s', _, answer ends, memory, kept.referral, ?_, kept.counter, rfl, rfl, rfl, rfl, rfl, ?_, ?_, rfl,
        kept.roll, kept.movements⟩
      · show (c.gate.referralCounter + 1) % 256 = _
        rw [credited.gate]
      · exact congrArg (·.second) credited.kept.sched
      · show c.office.params.referralTimeout = _
        rw [credited.params]
    · obtain ⟨w, hw⟩ := reason holds
      obtain ⟨v, s', ends, memory, unheld⟩ := h.unheld found many ((refers admits).trans (why w hw))
      exact ⟨s', answer ends, memory, unheld.referral.trans f.2.1, unheld.counter, unheld.roll, unheld.recorded,
        unheld.lost⟩

end Sys2Proof.Machine
end

section
/-! PROOFS. SET_GATE_MODE (R66, R67) and ANSWER_REFERRAL (R82): the office's decision on a held tap, in its order. -/

namespace Sys2Proof.Machine

open Sys2Proof

/-! ### SET_GATE_MODE (R66, R67) -/

section

variable {mask : GateMask} {mode : GateMode}

theorem applyGateMode_working (mask : GateMask) (mode : GateMode) (s : State) :
    applyGateMode mask mode (working s) = working (applyGateMode mask mode s) := by
  have one (b : Bool) (g : Nat) (s : State) : (if b then setGateMode g mode (working s) else working s)
      = working (if b then setGateMode g mode s else s) := by
    cases b with
    | false => rfl
    | true =>
      simp only [if_true, setGateMode]
      by_cases same : (gateAt s g).mode = mode
      · rw [if_pos same]; exact if_pos same
      · rw [if_neg same]; exact if_neg same
  have all (l : List Nat) (s : State) : setModes mask mode l (working s) = working (setModes mask mode l s) := by
    induction l generalizing s with
    | nil => rfl
    | cons g gs ih => rw [setModes, one, ih]; rfl
  exact all _ s

theorem applyGateMode_outside (mask : GateMask) (mode : GateMode) (s : State) {g : Nat} (hg : 8 ≤ g) :
    gateAt (applyGateMode mask mode s) g = gateAt s g := by
  have all (l : List Nat) (small : ∀ k ∈ l, k < 8) (s : State) : gateAt (setModes mask mode l s) g = gateAt s g := by
    induction l generalizing s with
    | nil => rfl
    | cons k ks ih =>
      have other : g ≠ k := fun same => absurd (small k (List.mem_cons_self ..)) (by omega)
      rw [setModes, ih fun n hn => small n (List.mem_cons_of_mem _ hn)]
      split
      · rw [setGateMode_gateAt, if_neg other]
      · rfl
  exact all _ (fun k hk => List.mem_range.mp hk) s

/-- SET_GATE_MODE: the gates of the mask take the mode, and nothing else changes but for the reply. -/
theorem exec_setGateMode {h : UpHeader} {s : State} (take : takesRequests s) (mask : GateMask) (mode : GateMode) :
    ∃ t, exec (.setGateMode h mask mode) s = .next t
      ∧ (∀ g, g < 8 → gateAt t g =
          if inGates mask g = true ∧ (gateAt s g).mode ≠ mode then
            { mode := mode, memory := none, referral := (gateAt s g).referral }
          else gateAt s g)
      ∧ (∀ g, 8 ≤ g → gateAt t g = gateAt s g)
      ∧ { t with gate := { t.gate with gates := s.gate.gates } }
          = withReply h (.setGateMode mask mode) .ok
              (.gateModes ((List.range 8).map fun g => ((gateAt t g).mode, gateStateAt t g))) s := by
  have rest := setModes_rest s mask mode (List.range 8)
  have served : serve (.setGateMode mask mode) (working s) = (working (applyGateMode mask mode s), .ok,
      .gateModes ((List.range 8).map fun g =>
        ((gateAt (applyGateMode mask mode s) g).mode, gateStateAt (applyGateMode mask mode s) g))) := by
    show reqSetGateMode mask mode (working s) = _
    rw [reqSetGateMode, applyGateMode_working]
    rfl
  have line : (applyGateMode mask mode s).line.upSending = s.line.upSending := congrArg (·.line.upSending) rest
  refine ⟨_, exec_quiet (r := .setGateMode mask mode) take rfl served line, fun g hg => ?_, fun g hg => ?_, ?_⟩
  · refine (applyGateMode_gateAt mask mode s hg).trans ?_
    unfold givenMode
    by_cases inside : inGates mask g = true
    · by_cases same : (gateAt s g).mode = mode <;> simp [inside, same]
    · simp [inside]
  · exact applyGateMode_outside mask mode s hg
  · exact congrArg (withReply h (.setGateMode mask mode) .ok (.gateModes ((List.range 8).map fun g =>
      ((gateAt (applyGateMode mask mode s) g).mode, gateStateAt (applyGateMode mask mode s) g)))) rest

end

/-! ### The office's decision (R82) -/

section

variable {slot g : Nat} {r : Referral} {b : Band} {e : RollEntry} {m : Movement} {s t u : State}

/-- A change of the record before a movement. -/
theorem PupilMoved.after (before : PupilWork slot s t) (moved : PupilMoved m slot t u) : PupilMoved m slot s u where
  recorded := movementRecorded_of_same moved.recorded ⟨before.movements.1.symm, before.movements.2.symm⟩ ⟨rfl, rfl⟩
  made none_ := by
    obtain ⟨office, none'⟩ := before.quiet none_
    have made := moved.made none'
    rwa [movementReports_of_same before.movements, reportsMade, office] at made
  rest := by
    obtain ⟨movements, full⟩ := before.movements
    have rest := moved.rest
    rw [movements, full] at rest
    exact rest.trans before.rest
  others k hk := (moved.others k hk).trans (before.others k hk)
  names := before.names.trans moved.names

/-- What is judged of a held arrival (R82). -/
def heldArrival (r : Referral) (b : Band) : Judged := ⟨r.session, b, r.minutes⟩

/-- An entry no longer referred on arrival. -/
def unreferred (e : RollEntry) : RollEntry := { e with referOnArrival := false }

theorem letIn_arrival (band : r.band = some b) (excused : Bool) (s : State) : letIn g r excused s =
    applyArrival r.slot g (heldArrival r b) r.tapSecond s.sched.second (some r.number) excused
      (modEntry r.slot unreferred s) := by
  have judged : judgedOf r = some (heldArrival r b) := by rw [judgedOf, band]; rfl
  have sched : (modEntry r.slot unreferred s).sched = s.sched := by rw [modEntry_rest]
  rw [← sched]
  simp only [letIn, judged]
  rfl

theorem letIn_signOut (band : r.band = none) (excused : Bool) (s : State) : letIn g r excused s =
    (excuseSession r.slot (if excused then r.session else none)
      (applySignOut r.slot g s.sched.second (some r.number) s), .signOut) := by
  have judged : judgedOf r = none := by rw [judgedOf, band]; rfl
  simp only [letIn, judged]
  cases excused <;> cases r.session <;> rfl

/-- The movement of an admitted pupil (R82). -/
def admittedMovement (s : State) (g : Nat) (r : Referral) : Movement :=
  match r.band with
  | some b => arrivalMovement s r.slot g (heldArrival r b) s.sched.second (some r.number)
  | none => signOutMovement s r.slot g s.sched.second (some r.number)

theorem admittedMovement_arrival (band : r.band = some b) (s : State) : admittedMovement s g r =
    arrivalMovement s r.slot g (heldArrival r b) s.sched.second (some r.number) := by rw [admittedMovement, band]

theorem admittedMovement_signOut (band : r.band = none) (s : State) : admittedMovement s g r =
    signOutMovement s r.slot g s.sched.second (some r.number) := by rw [admittedMovement, band]

theorem arrivalMovement_unreferred (j : Judged) (now : Nat) (referral : Option Nat) (s : State) :
    arrivalMovement (modEntry slot unreferred s) slot g j now referral = arrivalMovement s slot g j now referral := by
  have site : siteAt (modEntry slot unreferred s) slot = siteAt s slot := by
    rw [siteAt, entryAt_modEntry, if_pos rfl, Option.map_map]; rfl
  have pupil := (modEntry_pupilWork (slot := slot) (f := unreferred) (fun _ => rfl) s).pupilAt
  simp only [arrivalMovement, site, pupil]

/-- Admitted: one movement, and a change of the pupil's own record. -/
theorem letIn_moves (g : Nat) (r : Referral) (excused : Bool) (s : State) :
    (letIn g r excused s).2 = (admittedMovement s g r).kind
      ∧ PupilMoved (admittedMovement s g r) r.slot s (letIn g r excused s).1 := by
  cases band : r.band with
  | some b =>
    rw [letIn_arrival band, admittedMovement_arrival band,
      ← arrivalMovement_unreferred (heldArrival r b) s.sched.second (some r.number) s]
    refine ⟨?_, .after (modEntry_pupilWork (f := unreferred) (fun _ => rfl) s) (applyArrival_moves _ _ _ _ _ _ _ _)⟩
    cases excused with
    | false => rw [applyArrival_plain]; rfl
    | true => rw [applyArrival_excused]; rfl
  | none =>
    rw [letIn_signOut band, admittedMovement_signOut band, applySignOut_eq]
    exact ⟨rfl, (setOnSite_pupilWork .signedOut s).moved (recordMovement_made _ _ _ _)
      (excuseSession_work r.slot _ _)⟩

/-- The record of an admitted IN tap's pupil. -/
theorem Holds.letIn_arrival (held : Holds r.slot e s) (band : r.band = some b) (g : Nat) (excused : Bool) :
    Holds r.slot (appliedEntry r.tapSecond g (heldArrival r b) excused (unreferred e)) (letIn g r excused s).1 := by
  rw [Machine.letIn_arrival band]
  exact (held.modEntry (f := unreferred) fun _ => rfl).applyArrival _ _ _

/-- The record of an admitted OUT tap's pupil. -/
theorem Holds.letIn_signOut (held : Holds r.slot e s) (band : r.band = none) (g : Nat) (excused : Bool) :
    Holds r.slot (excusedEntry (if excused then r.session else none) (withSite .signedOut e))
      (letIn g r excused s).1 := by
  rw [Machine.letIn_signOut band]
  exact (held.applySignOut g _ _).excuseSession nofun _

/-- The REFUSED movement of a referral (R82). -/
def refusedMovement (s : State) (g : Nat) (r : Referral) : Movement :=
  { second := s.sched.second, gate := g, direction := r.direction, pupil := pupilAt s r.slot, kind := .refused
    minutes := none, referral := some r.number }

/-- The movement of a decision (R82). -/
def decisionMovement (s : State) (g : Nat) (r : Referral) (d : Decision) : Movement :=
  if d = .refuse then refusedMovement s g r else admittedMovement s g r

theorem refuseHeld_made (g : Nat) (r : Referral) (s : State) :
    MovementMade (refusedMovement s g r) s (refuseHeld g r s).1 := recordMovement_made _ _ _ s

theorem decideReferral_admits {d : Decision} (admits : d ≠ .refuse) (g : Nat) (r : Referral) (s : State) :
    decideReferral g r d s = letIn g r (decide (d = .letInExcused)) s := by
  cases d with
  | letIn => rfl
  | letInExcused => rfl
  | refuse => exact absurd rfl admits

theorem decideReferral_moves (g : Nat) (r : Referral) (d : Decision) (s : State) :
    (decideReferral g r d s).2 = (decisionMovement s g r d).kind
      ∧ PupilMoved (decisionMovement s g r d) r.slot s (decideReferral g r d s).1 := by
  unfold decisionMovement
  by_cases refuses : d = .refuse
  · subst refuses
    exact ⟨rfl, (PupilWork.refl r.slot s).moved (refuseHeld_made g r s) (.refl r.slot _)⟩
  · rw [if_neg refuses, decideReferral_admits refuses]
    exact letIn_moves g r _ s

/-! ### The answer, the memory and the offers after the decision (R82) -/

/-- What ANSWER_REFERRAL leaves, by the state `u` that the decision leaves. -/
structure ReferralAnswered (g : Nat) (r : Referral) (a : Answer) (m : Movement) (s u t : State) : Prop where
  answered : readerAnswered r a s t
  gate : gateAt t g = { mode := (gateAt s g).mode, referral := none, memory := some ⟨r.token, a, s.sched.second, 0⟩ }
  others : ∀ n, n ≠ g → gateAt t n = gateAt s n
  recorded : movementRecorded m s t
  made : s.msg.notices = [] → reportsMade (movementReports s) s t
  roll : t.roll = u.roll
  count : t.gate.onSiteCount = u.gate.onSiteCount
  sched : t.sched = s.sched
  bell : t.bell = s.bell
  reg : t.reg = s.reg
  control : sameControl s t

/-- The state after the decision: the reader answered, and the answer remembered. -/
def decisionAnswered (g : Nat) (r : Referral) (a : Answer) (u : State) : State :=
  remember g r.token a (answerHeld r a u)

theorem PupilMoved.answered (moved : PupilMoved m r.slot (clearReferral g (working s)) u) (a : Answer)
    (left : exceptReply t = exceptReply (tryOffers (decisionAnswered g r a u))) : ReferralAnswered g r a m s u t := by
  have handed := handFrame_rest r.segment
    ⟨r.address, .gateAnswer r.sequence a (some (Machine.pupilAt u r.slot)) ((judgedOf r).map (·.band))
      (((judgedOf r).map (·.minutes)).getD 0)⟩ u
  have sent := answerHeld_answers r a u
  obtain ⟨v, hv⟩ : ∃ v, answerHeld r a u = v := ⟨_, rfl⟩
  have rest : { v with line := { v.line with segments := u.line.segments } } = u := by rw [← hv]; exact handed
  rw [decisionAnswered, hv] at left
  rw [hv] at sent
  obtain ⟨w, hw⟩ : ∃ w, remember g r.token a v = w := ⟨_, rfl⟩
  have gates (n : Nat) : gateAt w n
      = if n = g then remembering r.token a v.sched.second (gateAt v n) else gateAt v n := by
    rw [← hw]; exact remember_gateAt ..
  have same : { w with gate := { w.gate with gates := v.gate.gates } } = v := by rw [← hw]; rfl
  rw [hw] at left
  have tGate : t.gate = w.gate := (gate_of_exceptReply left).trans (tryOffers_gate w)
  have vGate : v.gate = u.gate := congrArg (·.gate) rest
  have vSched : v.sched = s.sched := (congrArg (·.sched) rest).trans moved.sched
  have gate (n : Nat) : gateAt t n = if n = g then remembering r.token a s.sched.second (withoutReferral (gateAt s n))
      else gateAt s n := by
    rw [gateAt_of_gate tGate, gates, gateAt_of_gate vGate, vSched, Machine.gateAt, moved.gates]
    show (if n = g then remembering r.token a s.sched.second (gateAt (clearReferral g (working s)) n)
      else gateAt (clearReferral g (working s)) n) = _
    rw [clearReferral_gateAt]
    by_cases here : n = g
    · rw [if_pos here, if_pos here, if_pos here]; rfl
    · rw [if_neg here, if_neg here, if_neg here]; rfl
  have segments : t.line.segments = v.line.segments :=
    (segments_of_exceptReply left).trans ((tryOffers_segments w).trans (congrArg (·.line.segments) same))
  have office : (tryOffers w).office = u.office :=
    (tryOffers_office w).trans ((congrArg (·.office) same).trans (congrArg (·.office) rest))
  refine
    { answered := ?_, gate := (gate g).trans (if_pos rfl), others := fun n hn => (gate n).trans (if_neg hn)
      recorded := ?_, made := fun none_ => ?_, roll := ?_, count := ?_, sched := ?_, bell := ?_, reg := ?_
      control := ?_ }
  · have pupil : Machine.pupilAt s r.slot = Machine.pupilAt u r.slot := moved.pupilAt.symm
    have before : segmentAt s r.segment = segmentAt u r.segment := (segmentAt_of_segments moved.segments _).symm
    simpa only [readerAnswered, lineIdle, nowSends, pupil, before, segmentAt_of_segments segments] using sent
  · refine movementRecorded_of_same moved.recorded ⟨rfl, rfl⟩ ?_
    rw [tGate, ← vGate, ← same]
    exact ⟨rfl, rfl⟩
  · have made := moved.made none_
    rw [reportsMade, ← office, ← reportNumber_of_exceptReply left] at made
    exact made
  · exact (roll_of_exceptReply left).trans ((tryOffers_roll w).trans
      ((congrArg (·.roll) same).trans (congrArg (·.roll) rest)))
  · rw [tGate, ← vGate, ← same]
  · exact (sched_of_exceptReply left).trans ((tryOffers_sched w).trans ((congrArg (·.sched) same).trans vSched))
  · exact (bell_of_exceptReply left).trans ((tryOffers_bell w).trans
      ((congrArg (·.bell) same).trans ((congrArg (·.bell) rest).trans moved.bell)))
  · exact (reg_of_exceptReply left).trans ((tryOffers_reg w).trans
      ((congrArg (·.reg) same).trans ((congrArg (·.reg) rest).trans moved.reg)))
  · have offered : sameControl u (tryOffers w) := by
      rw [sameControl, office]; exact ⟨rfl, rfl, rfl, rfl, rfl⟩
    have decided : sameControl s u := sameControl_trans (sameControl_working s) moved.control
    exact sameControl_trans decided (sameControl_trans offered (sameControl_of_exceptReply left))

/-! ### What the decision's movement says (R82, R83) -/

theorem decisionMovement_facts (s : State) (g : Nat) (r : Referral) (d : Decision) :
    (decisionMovement s g r d).second = s.sched.second ∧ (decisionMovement s g r d).gate = g
      ∧ (d = .refuse → (decisionMovement s g r d).minutes = none ∧ (decisionMovement s g r d).kind = .refused)
      ∧ (decisionMovement s g r d).direction
        = (if d = .refuse then r.direction else if r.band.isSome then .inward else .outward)
      ∧ (decisionMovement s g r d).pupil = Machine.pupilAt s r.slot
      ∧ (decisionMovement s g r d).referral = some r.number := by
  unfold decisionMovement
  split
  · exact ⟨rfl, rfl, fun _ => ⟨rfl, rfl⟩, rfl, rfl, rfl⟩
  · rename_i admits
    cases band : r.band with
    | some b => rw [admittedMovement_arrival band]; exact ⟨rfl, rfl, fun h => absurd h admits, rfl, rfl, rfl⟩
    | none => rw [admittedMovement_signOut band]; exact ⟨rfl, rfl, fun h => absurd h admits, rfl, rfl, rfl⟩

theorem decisionAnswer_eq (d : Decision) : decisionAnswer d = if d = .refuse then .seeOffice else .opened := by
  cases d <;> rfl

/-! ### The record after the decision (R76, R77, R82) -/

/-- What an admission makes of the record of the pupil of a held tap. -/
abbrev AdmittedRecord (d : Decision) (g : Nat) (r : Referral) (m : Movement) (e e' : RollEntry) : Prop :=
  (r.band.isSome = true → e'.day.onSite = .onSite ∧ e'.referOnArrival = false
      ∧ e'.day.arrival = some (e.day.arrival.getD ⟨r.tapSecond, g⟩))
    ∧ (r.band = none → e'.day.onSite = .signedOut ∧ m.kind = .signOut ∧ m.minutes = none)
    ∧ (∀ b, r.band = some b →
        m.kind = arrivalKind e.day.onSite b ∧ m.minutes = movementMinutes m.kind r.minutes
        ∧ (d = .letIn → arrivalRecorded e e' (heldArrival r b))
        ∧ (d = .letInExcused → e'.day.minutesLate = arrivalMinutes e (heldArrival r b)
            ∧ ∀ x, e'.day.flags.dueLate.get x = e.day.flags.dueLate.get x
              ∧ e'.day.marks.get x = if r.session = some x then excusedMark (arrivalMark e (heldArrival r b) x)
                  else e.day.marks.get x))
    ∧ (r.band = none → e'.day.minutesLate = e.day.minutesLate ∧ ∀ x, e'.day.marks.get x =
        if d = .letInExcused ∧ r.session = some x then excusedMark (e.day.marks.get x) else e.day.marks.get x)

/-- An admitted IN tap. -/
theorem admitted_arrival {d : Decision} {e' : RollEntry} (held : Holds r.slot e s) (admits : d ≠ .refuse)
    (band : r.band = some b) (same : undone e' =
      undone (appliedEntry r.tapSecond g (heldArrival r b) (decide (d = .letInExcused)) (unreferred e))) :
    AdmittedRecord d g r (admittedMovement s g r) e e' := by
  obtain ⟨site, arrival, -, refer, minutes⟩ :=
    appliedEntry_arrived r.tapSecond g (heldArrival r b) (decide (d = .letInExcused)) (unreferred e)
  have kind : (admittedMovement s g r).kind = arrivalKind e.day.onSite b := by
    rw [admittedMovement_arrival band, arrivalMovement, held.siteAt]; rfl
  refine ⟨fun _ => ⟨(congrArg (·.day.onSite) same).trans site, (congrArg (·.referOnArrival) same).trans refer,
    (congrArg (·.day.arrival) same).trans arrival⟩, fun none_ => (nomatch none_.symm.trans band), fun b' band' => ?_,
    fun none_ => (nomatch none_.symm.trans band)⟩
  obtain rfl : b = b' := Option.some.inj (band.symm.trans band')
  refine ⟨kind, by rw [admittedMovement_arrival band]; rfl, fun plain => ?_, fun excused => ?_⟩
  · subst plain
    exact arrivalRecorded_of_undone same (appliedEntry_recorded r.tapSecond g (heldArrival r b) (unreferred e))
  · subst excused
    refine ⟨(congrArg (·.day.minutesLate) same).trans minutes, fun x => ?_⟩
    obtain ⟨due, mark⟩ := appliedEntry_excused r.tapSecond g (heldArrival r b) (unreferred e) x
    exact ⟨(congrArg (·.day.flags.dueLate.get x) same).trans due, (congrArg (·.day.marks.get x) same).trans mark⟩

/-- An admitted OUT tap. -/
theorem admitted_signOut {d : Decision} {e' : RollEntry} (band : r.band = none) (same : undone e' =
      undone (excusedEntry (if decide (d = .letInExcused) then r.session else none) (withSite .signedOut e))) :
    AdmittedRecord d g r (admittedMovement s g r) e e' := by
  have excuse (x : Option Session) (a : RollEntry) : (excusedEntry x a).day.onSite = a.day.onSite
      ∧ (excusedEntry x a).day.minutesLate = a.day.minutesLate := by
    cases x <;> exact ⟨rfl, rfl⟩
  have marks (x : Option Session) (a : RollEntry) (y : Session) : (excusedEntry x a).day.marks.get y
      = if x = some y then excusedMark (a.day.marks.get y) else a.day.marks.get y := by
    cases x with
    | none => rfl
    | some x =>
      simp only [excusedEntry, withMark, AmPm_get_set, mergedMark_excuse, Option.some.injEq, eq_comm (a := x)]
      split
      · subst_vars; rfl
      · rfl
  refine ⟨fun some_ => by simp [band] at some_, fun _ => ⟨(congrArg (·.day.onSite) same).trans (excuse _ _).1, ?_, ?_⟩,
    fun b some_ => (nomatch band.symm.trans some_),
    fun _ => ⟨(congrArg (·.day.minutesLate) same).trans (excuse _ _).2, fun x => ?_⟩⟩
  · rw [admittedMovement_signOut band]; rfl
  · rw [admittedMovement_signOut band]; rfl
  · refine (congrArg (·.day.marks.get x) same).trans ((marks _ _ x).trans ?_)
    by_cases excused : d = .letInExcused <;> simp [excused, withSite]

theorem decideReferral_admitted {d : Decision} (held : Holds r.slot e s) (admits : d ≠ .refuse) (g : Nat) :
    ∃ e', entryAt (decideReferral g r d s).1 r.slot = some e'
      ∧ AdmittedRecord d g r (decisionMovement s g r d) e e' := by
  rw [decideReferral_admits admits, decisionMovement, if_neg admits]
  cases band : r.band with
  | some b =>
    obtain ⟨e', he', same⟩ := (held.letIn_arrival band g (decide (d = .letInExcused))).entry
    exact ⟨e', he', admitted_arrival held admits band same⟩
  | none =>
    obtain ⟨e', he', same⟩ := (held.letIn_signOut band g (decide (d = .letInExcused))).entry
    exact ⟨e', he', admitted_signOut band same⟩

end

/-! ### The request (R82) -/

section

variable {h : UpHeader} {g number : Nat} {d : Decision} {r : Referral} {s : State}

theorem serve_answerReferral (free : writersHeld s = false) (small : g ≤ 7) (byte : number ≤ 255)
    (held : (gateAt s g).referral = some r) (same : r.number = number) :
    serve (.answerReferral g number d) (working s) =
      (tryOffers (decisionAnswered g r (decisionAnswer d) (decideReferral g r d (clearReferral g (working s))).1), .ok,
        .referralAnswer (decideReferral g r d (clearReferral g (working s))).2 (movementSequence s)
          (r.session.map (markAt (decisionAnswered g r (decisionAnswer d)
            (decideReferral g r d (clearReferral g (working s))).1) r.slot))) := by
  have freeW : writersHeld (working s) = false := free
  have heldW : (gateAt (working s) g).referral = some r := held
  have inRange : ¬(decide (7 < g) || decide (255 < number)) = true := by simp; omega
  show reqAnswerReferral g number d (working s) = _
  simp only [reqAnswerReferral, freeW, Bool.false_eq_true, if_false, inRange, heldW, same, ne_eq, not_true_eq_false]
  rfl

theorem exec_answerReferral (take : takesRequests s) (free : writersHeld s = false) (small : g ≤ 7)
    (byte : number ≤ 255) (held : (gateAt s g).referral = some r) (same : r.number = number) :
    ∃ t, exec (.answerReferral h g number d) s = .next t
      ∧ answered h (.answerReferral g number d) .ok
          (.referralAnswer (decisionMovement (clearReferral g (working s)) g r d).kind (movementSequence s)
            (r.session.map (markAt t r.slot))) t
      ∧ ReferralAnswered g r (decisionAnswer d) (decisionMovement (clearReferral g (working s)) g r d) s
          (decideReferral g r d (clearReferral g (working s))).1 t := by
  obtain ⟨kind, moved⟩ := decideReferral_moves g r d (clearReferral g (working s))
  obtain ⟨t, run, reply, left⟩ := exec_carried (h := h) (r := .answerReferral g number d) take rfl
    (serve_answerReferral free small byte held same)
  have ended := moved.answered (decisionAnswer d) left
  have roll : (decisionAnswered g r (decisionAnswer d)
      (decideReferral g r d (clearReferral g (working s))).1).roll = t.roll :=
    (tryOffers_roll _).symm.trans (roll_of_exceptReply left).symm
  have marks : markAt (decisionAnswered g r (decisionAnswer d)
      (decideReferral g r d (clearReferral g (working s))).1) r.slot = markAt t r.slot := by
    funext x
    rw [markAt, entryAt, roll]
    rfl
  rw [marks, kind] at reply
  exact ⟨t, run, reply, ended⟩

/-- A refused pupil's record stands (R82). -/
theorem refused_stands (g : Nat) (r : Referral) (s : State) :
    (decideReferral g r .refuse (clearReferral g (working s))).1.roll = s.roll
      ∧ (decideReferral g r .refuse (clearReferral g (working s))).1.gate.onSiteCount = s.gate.onSiteCount :=
  have made := refuseHeld_made g r (clearReferral g (working s))
  ⟨made.roll, made.onSite⟩

theorem exec_answerReferral_stale (take : takesRequests s) (free : writersHeld s = false) (small : g ≤ 7)
    (byte : number ≤ 255) (gone : ∀ r, (gateAt s g).referral = some r → r.number ≠ number) :
    exec (.answerReferral h g number d) s = .next (withReply h (.answerReferral g number d) .stale .none s) := by
  have freeW : writersHeld (working s) = false := free
  have inRange : ¬(decide (7 < g) || decide (255 < number)) = true := by simp; omega
  refine exec_refused (r := .answerReferral g number d) take rfl ?_
  show reqAnswerReferral g number d (working s) = _
  cases held : (gateAt s g).referral with
  | none =>
    have heldW : (gateAt (working s) g).referral = none := held
    simp only [reqAnswerReferral, freeW, Bool.false_eq_true, if_false, inRange, heldW]
  | some r =>
    have heldW : (gateAt (working s) g).referral = some r := held
    have other := gone r held
    simp only [reqAnswerReferral, freeW, Bool.false_eq_true, if_false, inRange, heldW, other, ne_eq, not_false_eq_true,
      if_true]

end

/-- Settles O35: SET_GATE_MODE by its gates, ANSWER_REFERRAL by the decision, and STALE. -/
theorem gateRequestsDecide : Obligations.GateRequestsDecide := by
  intro h s take
  refine ⟨exec_setGateMode take, fun g number d r free small byte held same => ?_,
    fun g number d free small byte gone => exec_answerReferral_stale take free small byte gone⟩
  intro answer
  obtain ⟨t, run, reply, ended⟩ := exec_answerReferral (h := h) (d := d) take free small byte held same
  obtain ⟨second, gate, refused, direction, pupil, referral⟩ :=
    decisionMovement_facts (clearReferral g (working s)) g r d
  have moved := (decideReferral_moves g r d (clearReferral g (working s))).2
  have answers : decisionAnswer d = answer := decisionAnswer_eq d
  rw [answers] at ended
  have entries (k : Nat) : entryAt t k = entryAt (decideReferral g r d (clearReferral g (working s))).1 k := by
    rw [entryAt, ended.roll]; rfl
  refine ⟨t, _, run, reply, ended.answered, ended.gate, ended.others, ended.recorded, ended.made, second, gate,
    fun refuses => (refused refuses).1, direction, pupil, by rw [referral, same], fun refuses => ?_,
    fun e he admits => ?_, fun n hn => ?_, ended.sched, ended.bell, ended.reg, ended.control⟩
  · have kind := (refused refuses).2
    have roll := ended.roll
    have count := ended.count
    subst refuses
    obtain ⟨rollStands, countStands⟩ := refused_stands g r s
    exact ⟨kind, roll.trans rollStands, count.trans countStands⟩
  · have heldE : Holds r.slot e (clearReferral g (working s)) := Holds.of_entry he
    obtain ⟨e', he', arrived, left, inward, outward⟩ := decideReferral_admitted heldE admits g
    exact ⟨e', (entries r.slot).trans he', arrived, left, fun b band _ => inward b band, fun band _ => outward band⟩
  · have others := congrArg (Option.map fun y : RollEntry => (y.day.marks, y.day.onSite, y.term)) (moved.others n hn)
    rw [Option.map_map, Option.map_map] at others
    rw [entries]
    exact others

end Sys2Proof.Machine
end
